-- ==== Sys2Proof/Word.lean ====
section
/-! DEFINITION. The words of the ring: bytes, node addresses and the 32-bit words of the audit log. -/

namespace Sys2Proof

/-- One byte of a ring frame (R160). -/
abbrev Byte := BitVec 8

/-- One 32-bit word of the audit log (R136), and the run identifier (R18). -/
abbrev Word := BitVec 32

/-- A node address of the ring, 0..63 (R160). Node 0 is the part, node 63 is the broadcast address. -/
abbrev Node := BitVec 6

end Sys2Proof
end

