-- ==== Sys2Proof/Config.lean ====
section
/-! DEFINITION. What the manual fixes as sizes of the part, and the free values of the model: the values the
manual leaves unstated, each an opaque constant about which nothing can be proved. -/

namespace Sys2Proof.Config

/-- The record queue holds at most 64 records (R8). -/
abbrev queueCapacity : Nat := 64

/-- The Reprint List holds up to 256 entries (R127). -/
abbrev reprintCapacity : Nat := 256

/-- The Audit Log holds 8,192 words (R136). -/
abbrev logCapacity : Nat := 8192

/-- The own-frame queue holds up to 32 frames (R163). -/
abbrev ownCapacity : Nat := 32

/-- The forward buffer holds up to 8 frames (R163). -/
abbrev forwardCapacity : Nat := 8

/-- A bin's in-flight list holds up to 8 entries (R109). -/
abbrev flightCapacity : Nat := 8

/-- A payload is 0..120 bytes long (R160). -/
abbrev payloadLimit : Nat := 120

/-- The content of one ANSWER frame is at most 116 bytes (R165). -/
abbrev answerChunk : Nat := 116

/-- The broadcast address (R161). -/
abbrev broadcast : Node := 63

/-- The value at which every run counter saturates (R133), and the accepted count that refuses records (R2). -/
abbrev counterLimit : Nat := 16777215

/-- The value at which every caliper saturates (R51), in µm. -/
abbrev caliperLimit : Nat := 65535

/-- FREE VALUE. The request tag in the ANSWER to a management frame whose payload is empty and so carries no tag
(R165 gives every management frame a tag and states no answer tag for one without). Log entry 6. -/
opaque missingTag : Nat → Byte

/-- FREE VALUE. The serial in a DIVERT_UNTAKEN alert for a returned DIVERT_CMD that the part did not send since
power-on (R126 names the piece's serial, and there is no piece). Log entry 7. -/
opaque strangerSerial : Nat → Nat

end Sys2Proof.Config
end

