-- ==== Sys2Proof/Syntax.lean ====
section
/-! DEFINITION. The commands of the part: one constructor of `Instr` for each row of spec/opcode_table.json, in the
table's order. A command is one thing that reaches the part from outside: a step of the encoder, a frame on RING IN,
a change of the ring's signal, a free slot on RING OUT or a change of RESET_N (R59, R160 to R164, R171). -/

namespace Sys2Proof

/-- The addressing bytes of a received ring frame (R160, R170): destination, source and the TAKEN mark. -/
structure Header where
  dst : Node
  src : Node
  taken : Bool
deriving DecidableEq, Repr

/-- A ring frame without its CRC (R160, R170) and without the three bits of its first two bytes that a receiver ignores (R170;
log entry 41). -/
structure RingFrame where
  header : Header
  kind : Byte
  payload : List Byte
deriving DecidableEq, Repr

/-- What one quadrature step of the encoder shows (R59): a step of the forward or the reverse rotation, or a step in
which both channels change together and which gives no direction. -/
inductive EncoderStep where
  | forward
  | reverse
  | both
deriving DecidableEq, Repr

/-- The ten bytes of a sheet scan as they stand in the frame (R21, R170), before R21's handling of them. -/
structure RawScan where
  serial : Byte
  /-- stock in bits 1..0, bit 7 set for NO_READ -/
  stock : Byte
  seq : BitVec 24
  inc : Byte
  page : Byte
  pages : Byte
  caliper : BitVec 16
deriving DecidableEq, Repr

/-- The commands. Frames from the ring carry the header they arrived with; a management request carries its request tag
and the bytes that follow the operation, table or subject byte (R170). -/
inductive Instr where
  /-- RESET_N_LOW (R171): RESET_N goes low. -/
  | resetNLow
  /-- RESET_N_HIGH (R171): RESET_N goes high, with the levels of the six SUP_ADDR straps and whether RING IN has signal. -/
  | resetNHigh (straps : Node) (signal : Bool)
  /-- ENCODER_PULSE (R59). -/
  | encoderPulse (step : EncoderStep)
  /-- PITCH_ADVANCE (R60, R65): the forward pulse that brings EP to NB. -/
  | pitchAdvance
  /-- WINDOW_CLOSE_BY_PASSING (R67). -/
  | windowCloseByPassing
  /-- SORTER_TIMEOUT (R119). -/
  | sorterTimeout
  /-- DRAIN_COMPLETE (R152). -/
  | drainComplete
  /-- FRAME_CHECK_FAIL (R160): the bytes received on RING IN as one frame. -/
  | frameCheckFail (bytes : List Byte)
  /-- FORWARD_FRAME (R161): a frame received on RING IN that passes the check. -/
  | forwardFrame (f : RingFrame)
  /-- RING_OUT_SEND (R163): RING OUT is free. -/
  | ringOutSend
  /-- LINK_LOSS (R164): RING IN loses its signal. -/
  | linkLoss
  /-- LINK_RETURN (R164): RING IN has its signal again. -/
  | linkReturn
  /-- RECORD (R2): the job record's bytes after the tag. -/
  | record (h : Header) (tag : Byte) (body : List Byte)
  /-- LOAD PROFILE (R166). -/
  | loadProfile (h : Header) (tag : Byte) (items : List Byte)
  /-- LOAD STATION (R71). -/
  | loadStation (h : Header) (tag : Byte) (items : List Byte)
  /-- LOAD SCHEME (R103). -/
  | loadScheme (h : Header) (tag : Byte) (items : List Byte)
  /-- LOAD GROUP (R108). -/
  | loadGroup (h : Header) (tag : Byte) (items : List Byte)
  /-- LOAD BIN (R110). -/
  | loadBin (h : Header) (tag : Byte) (items : List Byte)
  /-- QUERY RUN (R159); `index` holds the bytes of the index of every query. -/
  | queryRun (h : Header) (tag : Byte) (index : List Byte)
  /-- QUERY QUEUE (R20). -/
  | queryQueue (h : Header) (tag : Byte) (index : List Byte)
  /-- QUERY TRACK (R77). -/
  | queryTrack (h : Header) (tag : Byte) (index : List Byte)
  /-- QUERY PIECE (R77). -/
  | queryPiece (h : Header) (tag : Byte) (index : List Byte)
  /-- QUERY STATION (R77). -/
  | queryStation (h : Header) (tag : Byte) (index : List Byte)
  /-- QUERY BIN (R122). -/
  | queryBin (h : Header) (tag : Byte) (index : List Byte)
  /-- QUERY GROUP (R122). -/
  | queryGroup (h : Header) (tag : Byte) (index : List Byte)
  /-- QUERY SCHEME (R106). -/
  | queryScheme (h : Header) (tag : Byte) (index : List Byte)
  /-- QUERY STOCK (R49). -/
  | queryStock (h : Header) (tag : Byte) (index : List Byte)
  /-- QUERY LOG (R145). -/
  | queryLog (h : Header) (tag : Byte) (index : List Byte)
  /-- QUERY REPRINT (R130). -/
  | queryReprint (h : Header) (tag : Byte) (index : List Byte)
  /-- QUERY ALERTS (R169). -/
  | queryAlerts (h : Header) (tag : Byte) (index : List Byte)
  /-- OPEN_RUN (R18). -/
  | openRun (h : Header) (tag : Byte) (operands : List Byte)
  /-- START (R148). -/
  | start (h : Header) (tag : Byte) (operands : List Byte)
  /-- PAUSE (R148). -/
  | pause (h : Header) (tag : Byte) (operands : List Byte)
  /-- RESUME (R149). -/
  | resume (h : Header) (tag : Byte) (operands : List Byte)
  /-- FLUSH (R151). -/
  | flush (h : Header) (tag : Byte) (operands : List Byte)
  /-- ABORT (R153). -/
  | abort (h : Header) (tag : Byte) (operands : List Byte)
  /-- CLOSE_RUN (R154). -/
  | closeRun (h : Header) (tag : Byte) (operands : List Byte)
  /-- RESET_LINE (R155). -/
  | resetLine (h : Header) (tag : Byte) (operands : List Byte)
  /-- CLEAR_SLOTS (R156). -/
  | clearSlots (h : Header) (tag : Byte) (operands : List Byte)
  /-- SKIP_RECORD (R132). -/
  | skipRecord (h : Header) (tag : Byte) (operands : List Byte)
  /-- STATION_MODE (R78). -/
  | stationMode (h : Header) (tag : Byte) (operands : List Byte)
  /-- BIN_MODE with mode ON (R111). -/
  | binModeOn (h : Header) (tag : Byte) (bin : Byte)
  /-- BIN_MODE with mode OFF (R111). -/
  | binModeOff (h : Header) (tag : Byte) (bin : Byte)
  /-- RELEARN (R44). -/
  | relearn (h : Header) (tag : Byte) (operands : List Byte)
  /-- ACK_ALERT (R169). -/
  | ackAlert (h : Header) (tag : Byte) (operands : List Byte)
  /-- LOG_READ (R143). -/
  | logRead (h : Header) (tag : Byte) (operands : List Byte)
  /-- REPRINT_READ (R129). -/
  | reprintRead (h : Header) (tag : Byte) (operands : List Byte)
  /-- SHEET_SCAN (R21, R25). -/
  | sheetScan (h : Header) (scan : RawScan)
  /-- STATION_STATUS (R72). -/
  | stationStatus (h : Header) (value : Byte)
  /-- SLOT_REPORT (R75). -/
  | slotReport (h : Header) (pitch : Byte) (occupancy : Byte)
  /-- FEED_RESULT (R85); `pieceTag` is the piece's tag. -/
  | feedResult (h : Header) (pieceTag : Byte) (result : Byte)
  /-- ENV_RESULT (R90). -/
  | envResult (h : Header) (pieceTag : Byte) (result : Byte)
  /-- ADDR_SCAN (R92). -/
  | addrScan (h : Header) (pieceTag : Byte) (result : Byte) (seq : BitVec 24) (inc : Byte)
  /-- BIN_EVENT LANDED (R114). -/
  | landed (h : Header)
  /-- BIN_EVENT SWEPT (R117). -/
  | swept (h : Header)
  /-- BIN_EVENT FULL (R118). -/
  | full (h : Header)
  /-- FRAME_RETURN (R162): a frame with source node 0 on RING IN, with its destination, mark, kind and payload. -/
  | frameReturn (dst : Node) (taken : Bool) (kind : Byte) (payload : List Byte)
  /-- An untaken SHEET_ACTION (R23). -/
  | sheetActionUntaken (dst : Node) (serial : Byte) (action : Byte) (seq : BitVec 24) (inc : Byte)
  /-- An untaken FOLD_SET (R38). -/
  | foldSetUntaken (dst : Node) (panels : Byte)
  /-- An untaken FEED_PERMIT (R157). -/
  | feedPermitUntaken (dst : Node) (value : Byte)
  /-- An untaken FEED_CMD (R88). -/
  | feedCmdUntaken (dst : Node) (pieceTag : Byte) (kind : Byte)
  /-- An untaken ENV_CMD (R90). -/
  | envCmdUntaken (dst : Node) (pieceTag : Byte)
  /-- An untaken SCAN_ARM (R94). -/
  | scanArmUntaken (dst : Node) (pieceTag : Byte)
  /-- An untaken DIVERT_CMD (R126). -/
  | divertCmdUntaken (dst : Node) (pieceTag : Byte)
  /-- An untaken BIN_SELECT (R120). -/
  | binSelectUntaken (dst : Node) (pieceTag : Byte)
  /-- An untaken BUNDLE_MARK (R116). -/
  | bundleMarkUntaken (dst : Node) (count : Byte)
  /-- An untaken RECORD_HOLD (`hold` true) or RECORD_GO (R17). -/
  | flowFrameUntaken (dst : Node) (hold : Bool)
  /-- A management frame whose operation, table or subject is unknown (R165): its kind and whole payload. -/
  | unknownManagementRequest (h : Header) (kind : Byte) (payload : List Byte)
  /-- A BIN_EVENT that carries another event value (R113). -/
  | otherBinEvent (h : Header) (event : Byte)
deriving DecidableEq, Repr

end Sys2Proof
end

