-- ==== Sys2Proof/Machine/Bytes.lean ====
section
/-! DEFINITION. Bytes, nibbles and the CRC-16 of a ring frame (R160, R170). -/

namespace Sys2Proof.Machine

/-- A number in `n` bytes, high byte first (R170). -/
def beBytes : Nat → Nat → List Byte
  | 0, _ => []
  | n + 1, v => beBytes n (v / 256) ++ [BitVec.ofNat 8 v]

/-- The number a list of bytes holds, high byte first (R170). -/
def ofBe (bytes : List Byte) : Nat := bytes.foldl (fun a b => a * 256 + b.toNat) 0

/-- A number in one byte. -/
def byteOf (v : Nat) : Byte := BitVec.ofNat 8 v

/-- A flag in one byte: 1 set, 0 clear (log entry 10). -/
def flagByte (b : Bool) : Byte := if b then 1 else 0

/-- The number in `n` bytes at byte `at` of a payload; bytes past its end read as none. -/
def field (bytes : List Byte) (start n : Nat) : Nat := ofBe ((bytes.drop start).take n)

/-- The high and the low nibble of a byte. -/
def nibbles (b : Byte) : List Nat := [b.toNat / 16, b.toNat % 16]

/-- Bytes from nibbles, high nibble first; an odd last nibble stands in the high half. -/
def packNibbles : List Nat → List Byte
  | [] => []
  | [a] => [byteOf (a * 16)]
  | a :: b :: rest => byteOf (a * 16 + b % 16) :: packNibbles rest

/-- A number that may be none: a presence byte, then the number (R170). -/
def optionBytes (n : Nat) : Option Nat → List Byte
  | none => [0]
  | some v => 1 :: beBytes n v

/-- A list preceded by a byte giving the number of its items (R170). -/
def listBytes {α : Type} (item : α → List Byte) (l : List α) : List Byte :=
  byteOf l.length :: l.flatMap item

/-- A set of station indices as 3 bytes, bit i for station i (R170). -/
def stationSetNat (l : List Nat) : Nat :=
  (List.range 24).foldl (fun a i => if l.contains i then a + 2 ^ i else a) 0

/-- One bit of the CRC-16: x¹⁶ + x¹² + x⁵ + 1, most significant bit first (R170). -/
def crcShift (c : BitVec 16) : BitVec 16 :=
  if c.msb then (c <<< 1) ^^^ 0x1021#16 else c <<< 1

/-- One byte of the CRC-16 (R170). -/
def crcByte (c : BitVec 16) (b : Byte) : BitVec 16 :=
  (List.range 8).foldl (fun a _ => crcShift a) (c ^^^ (b.setWidth 16 <<< 8))

/-- The CRC-16 with initial value all ones (R170). -/
def crc16 (bytes : List Byte) : BitVec 16 := bytes.foldl crcByte 0xFFFF#16

/-- The bytes of a frame before its CRC (R170): destination, source with the TAKEN mark in bit 7, kind, payload length
and payload. -/
def frameBody (f : RingFrame) : List Byte :=
  [f.header.dst.setWidth 8,
   if f.header.taken then f.header.src.setWidth 8 ||| 0x80#8 else f.header.src.setWidth 8,
   f.kind, byteOf f.payload.length] ++ f.payload

/-- The CRC-16 of a frame: over its body with the TAKEN bit taken as 0 (R160, R170). -/
def frameCrc (f : RingFrame) : BitVec 16 :=
  crc16 (frameBody { f with header := { f.header with taken := false } })

/-- A whole frame as the part sends it, its own or one it forwards (R170): bits 7..6 of byte 0 and bit 6 of byte 1 as 0, and
the CRC-16 of these bytes, also where a forwarded frame arrived with such a bit set (log entry 41). -/
def frameBytes (f : RingFrame) : List Byte := frameBody f ++ beBytes 2 (frameCrc f).toNat

/-- The frame that received bytes spell, or none when they fail the check (R160): a number of bytes other than the
payload length plus 6, a payload length above 120, or a CRC-16 that does not agree. Bits 7..6 of byte 0 and bit 6 of
byte 1 are ignored, and neither they nor the received CRC-16 are kept (R170; log entry 41). -/
def checkFrame (bytes : List Byte) : Option RingFrame :=
  match bytes with
  | d :: s :: k :: n :: rest =>
    if n.toNat ≤ Config.payloadLimit && rest.length == n.toNat + 2 then
      let f : RingFrame :=
        { header := { dst := d.setWidth 6, src := s.setWidth 6, taken := s.msb }, kind := k,
          payload := rest.take n.toNat }
      let body := [d, s &&& 0x7F#8, k, n] ++ f.payload
      if (crc16 body).toNat == ofBe (rest.drop n.toNat) then some f else none
    else none
  | _ => none

end Sys2Proof.Machine
end

