-- ==== Sys2Proof/Machine/State.lean ====
section
/-! DEFINITION. The state of the part: one structure for each block of 00_scope.md, holding every piece of state that
block owns, the values of power-on, and the state after reset. -/

namespace Sys2Proof.Machine

/-! ### Job records and collations (R1, R24) -/

/-- The mode of an insert selection (R1); an OPTIONAL selection carries its priority 1..7. -/
inductive SelectionMode where
  | mandatory
  | optional (priority : Nat)
deriving DecidableEq, Repr

/-- One insert selection of a job record (R1). -/
structure Selection where
  station : Nat
  mode : SelectionMode
deriving DecidableEq, Repr

/-- A destination (R1): five required digits, and four further digits present or absent as a whole. -/
structure Destination where
  required : List Nat
  extra : Option (List Nat)
deriving DecidableEq, Repr, Inhabited

/-- A job record as the Record Queue keeps it (R1). -/
structure JobRecord where
  seq : Nat
  inc : Nat
  reprint : Bool
  pages : Nat
  panels : Nat
  selections : List Selection
  dest : Destination
  matchRequired : Bool
  handFinish : Bool
deriving DecidableEq, Repr, Inhabited

/-- The fourteen faults in the reason order of R125. The first six are the collation faults of R24. -/
inductive FaultName where
  | missingPage
  | extraPage
  | countMismatch
  | doubleSheet
  | thinSheet
  | unreadSheet
  | overstuff
  | insertWithheld
  | insertMiss
  | insertDouble
  | insertUnconfirmed
  | envelopeFault
  | mismatch
  | unverified
deriving DecidableEq, Repr

/-- The nine dispositions in the order of R123. -/
inductive Disposition where
  | sorted
  | handFinish
  | handSort
  | diverted
  | cleared
  | skipped
  | aborted
  | lost
  | unfed
deriving DecidableEq, Repr

/-- The reason of a disposition (R125): a fault, or the disposition itself. -/
inductive Reason where
  | fault (f : FaultName)
  | disposition (d : Disposition)
deriving DecidableEq, Repr

/-- One entry of a collation's sheet list (R24). -/
structure SheetEntry where
  reading : Nat
  saturated : Bool
deriving DecidableEq, Repr

/-- A collation record (R24). -/
structure Collation where
  job : JobRecord
  sheets : List SheetEntry
  next : Nat
  faults : List FaultName
  handFinish : Bool
deriving DecidableEq, Repr, Inhabited

/-- The collecting pocket (R24). -/
inductive Collecting where
  | empty
  | collecting (c : Collation)
  | complete (c : Collation)
deriving DecidableEq, Repr

/-! ### The piece record (R64) -/

/-- The kind of a FEED_CMD (R84). -/
inductive FeedKind where
  | mandatory
  | optional
deriving DecidableEq, Repr

/-- What an open window waits for: a feed with the kind of its command (R84), the envelope (R89) or the scan (R91). -/
inductive WindowKind where
  | feed (kind : FeedKind)
  | envelope
  | scan
deriving DecidableEq, Repr

/-- An open result window (R67): the station's index, its closing slot and what it waits for. -/
structure Window where
  station : Nat
  closing : Nat
  kind : WindowKind
deriving DecidableEq, Repr

/-- A plan entry of an INSERT station (R55). -/
inductive PlanEntry where
  | none
  | mandatory
  | optional (priority : Nat)
  | forced
deriving DecidableEq, Repr

/-- The output read of a piece (R92). -/
inductive OutputRead where
  | none
  | noRead
  | value (seq inc : Nat)
deriving DecidableEq, Repr

/-- The verification result of a piece (R64). -/
inductive Verification where
  | none
  | verified
  | unread
  | unverified
deriving DecidableEq, Repr

/-- The caliper class of a piece (R58), and the maximum class of a scheme entry (R96). -/
inductive CaliperClass where
  | letter
  | flat
  | bulk
deriving DecidableEq, Repr, Inhabited

/-- A bundle key (R100): the leading positions of a destination, each a digit or absent. Its length is the key length. -/
abbrev BundleKey := List (Option Nat)

/-- The scheme match of a piece (R101). `entry` is none for the residual match (R99). -/
structure SchemeMatch where
  entry : Option Nat
  group : Nat
  key : BundleKey
  level : Nat
deriving DecidableEq, Repr, Inhabited

/-- The piece record (R64). `plan` lists the INSERT stations of the table with their entries. -/
structure Piece where
  serial : Nat
  job : JobRecord
  collationFaults : List FaultName
  diverted : Bool
  faults : List FaultName
  caliper : Nat
  plan : List (Nat × PlanEntry)
  dropped : List Nat
  withheld : List Nat
  missed : List Nat
  fed : List Nat
  saturated : Bool
  scheme : SchemeMatch
  windows : List Window
  output : OutputRead
  verification : Verification
deriving DecidableEq, Repr

/-! ### The station table (R70) -/

/-- The kinds of station in the order of R70. -/
inductive StationKind where
  | sheetFeeder
  | sheetScanner
  | sheetDivert
  | folder
  | insert
  | envelope
  | scanOut
  | slotCheck
  | exit
deriving DecidableEq, Repr

/-- Operator modes and effective modes (R78, R79), in the order of R170's operand codes. -/
inductive StationMode where
  | normal
  | force
  | skip
  | off
deriving DecidableEq, Repr

/-- The reported status of a station (R70). -/
inductive StationStatus where
  | ready
  | low
  | empty
  | fault
  | unknown
  | absent
deriving DecidableEq, Repr

/-- A station table entry (R70). -/
structure StationEntry where
  node : Nat
  kind : StationKind
  offset : Nat
  window : Nat
  caliper : Nat
  lateLimit : Nat
  mode : StationMode
  status : StationStatus
  late : Nat
deriving DecidableEq, Repr

/-! ### Scheme, groups and bins (R96, R107, R109) -/

/-- A scheme entry (R96). A pattern position is a digit, or none for ANY. -/
structure SchemeEntry where
  enabled : Bool
  pattern : List (Option Nat)
  group : Nat
  maxClass : CaliperClass
  keyLength : Nat
  level : Nat
deriving DecidableEq, Repr

/-- A group (R107). -/
structure Group where
  chain : List Nat
  target : Nat
  minimum : Nat
  demote : Nat
  refs : Nat
deriving DecidableEq, Repr

/-- The state of a bin (R109). -/
inductive BinState where
  | off
  | open
  | fullWait
deriving DecidableEq, Repr

/-- An in-flight entry (R109): the piece's identity and match, the pitch number at selection, and the parts of the piece
record that its PIECE log record carries. `group` is the group as it stood when the piece left the track (R137). -/
structure Flight where
  serial : Nat
  seq : Nat
  inc : Nat
  key : BundleKey
  entry : Option Nat
  level : Nat
  pitch : Nat
  group : Nat
  caliperClass : CaliperClass
  caliper : Nat
  saturated : Bool
  fed : List Nat
  dropped : List Nat
  withheld : List Nat
  output : OutputRead
  verification : Verification
deriving DecidableEq, Repr

/-- An open bundle (R109). -/
structure Bundle where
  key : BundleKey
  count : Nat
  first : Nat
  last : Nat
  entry : Option Nat
  level : Nat
  continued : Bool
deriving DecidableEq, Repr

/-- A bin (R109). -/
structure Bin where
  node : Option Nat
  capacity : Option Nat
  state : BinState
  landed : Nat
  committed : Nat
  flights : List Flight
  bundle : Option Bundle
  trayBundles : Nat
  previousKey : Option BundleKey
deriving DecidableEq, Repr

/-! ### Reprint entries (R127) -/

/-- The state of a reprint entry (R127). -/
inductive EntryState where
  | open
  | requested
  | queued
deriving DecidableEq, Repr

/-- A reprint entry (R127). -/
structure ReprintEntry where
  seq : Nat
  inc : Nat
  reason : Reason
  state : EntryState
deriving DecidableEq, Repr

/-! ### Alerts (R168) -/

/-- The eight alert classes in priority order (R168). -/
inductive AlertClass where
  | link
  | jam
  | mismatch
  | sequence
  | sorter
  | reserve
  | station
  | run
deriving DecidableEq, Repr

/-- The details of the alerts (the table of 11, Alerts). -/
inductive AlertDetail where
  | linkDown
  | linkUp
  | ringOverrun
  | occupancy (slot : Nat)
  | accumulatorOverrun
  | mismatch (slot serial seq inc readSeq readInc : Nat)
  | strayLimit
  | noBin (group : Nat)
  | unexpectedLanding (bin : Nat)
  | timeout (bin : Nat)
  | selectUntaken (bin : Nat)
  | markUntaken (bin : Nat)
  | divertUntaken (serial : Nat)
  | recordOverrun
  | reserveDivert
  | logOverflow
  | stationStatus (index : Nat) (status : StationStatus)
  | drainComplete
deriving DecidableEq, Repr

/-- The pending flag, detail and occurrence count of one alert class (R168). -/
structure Alert where
  pending : Bool
  detail : Option AlertDetail
  count : Nat
deriving DecidableEq, Repr

/-! ### Frames the part originates (R163, R170) -/

/-- The answer codes in the order of R165, coded 0..9. -/
inductive AnswerCode where
  | ok
  | state
  | busy
  | range
  | inUse
  | full
  | sequence
  | unknownReprint
  | limit
  | locked
deriving DecidableEq, Repr

/-- The divert reasons of a SHEET_ACTION in the order of R22, coded 1..7. -/
inductive DivertReason where
  | stray
  | unread
  | handFinish
  | overrun
  | reserve
  | noRun
  | lateSheet
deriving DecidableEq, Repr

/-- The action of a SHEET_ACTION (R22). -/
inductive SheetVerdict where
  | accept
  | divert (r : DivertReason)
deriving DecidableEq, Repr

/-- The frames the part originates, by kind, with what each carries (R170). -/
inductive OwnBody where
  | answer (tag : Byte) (code : AnswerCode) (part : Nat) (last : Bool) (content : List Byte)
  | notice (cls : AlertClass) (count : Nat) (detail : AlertDetail)
  | recordHold
  | recordGo
  | sheetAction (serial : Nat) (verdict : SheetVerdict) (seq inc : Nat)
  | foldSet (panels : Nat)
  | feedPermit (on : Bool)
  | pitch (number : Nat)
  | feedCmd (tag : Nat) (kind : FeedKind)
  | envCmd (tag : Nat)
  | scanArm (tag : Nat)
  | divertCmd (tag : Nat)
  | binSelect (tag : Nat)
  | bundleMark (count : Nat)
deriving DecidableEq, Repr

/-- An own frame in the own-frame queue: its destination node and its body. -/
structure OwnFrame where
  dst : Node
  body : OwnBody
deriving DecidableEq, Repr

/-! ### Log records (R136 to R141) -/

/-- The events of a RUN record (R140). -/
inductive RunEvent where
  | open
  | start
  | flush
  | abort
  | closed
  | reset
deriving DecidableEq, Repr

/-- The causes of a bundle close in the order of R116, coded 0..5. -/
inductive CloseCause where
  | keyBreak
  | full
  | tray
  | binOff
  | runEnd
  | abort
deriving DecidableEq, Repr

/-- The ten run counters (R133). -/
structure Counters where
  accepted : Nat
  sorted : Nat
  handFinish : Nat
  handSort : Nat
  diverted : Nat
  cleared : Nat
  skipped : Nat
  aborted : Nat
  lost : Nat
  unfed : Nat
deriving DecidableEq, Repr

/-- The scheme match as a PIECE record carries it (R137): the entry index or residual, the group and the level. -/
structure LoggedMatch where
  entry : Option Nat
  group : Nat
  level : Nat
deriving DecidableEq, Repr

/-- The contents of a PIECE record (R137, R138). `stations` is the dropped part's union, `place` the bundle part. -/
structure PieceLog where
  seq : Nat
  inc : Nat
  disposition : Disposition
  reason : Reason
  faults : List FaultName
  saturated : Bool
  serial : Option Nat
  caliper : Nat
  verification : Verification
  output : OutputRead
  scheme : Option LoggedMatch
  caliperClass : Option CaliperClass
  bin : Option Nat
  fed : List Nat
  stations : List Nat
  place : Option (Nat × Nat)
deriving DecidableEq, Repr

/-- The contents of a BUNDLE record (R139). -/
structure BundleLog where
  bin : Nat
  group : Nat
  key : BundleKey
  count : Nat
  level : Nat
  cause : CloseCause
  entry : Option Nat
  first : Nat
  last : Nat
  demoted : Bool
  continued : Bool
deriving DecidableEq, Repr

/-- The contents of a log record by kind (R136 to R141). A RUN record carries counters when its event is CLOSED. -/
inductive LogBody where
  | piece (p : PieceLog)
  | bundle (b : BundleLog)
  | tray (bin landed bundles : Nat)
  | unfed (seq inc : Nat)
  | run (event : RunEvent) (id : Word) (counters : Option Counters)
  | overflow (lost : Nat)
deriving DecidableEq, Repr

/-- A log record: its log serial and its contents (R136). -/
structure LogRecord where
  serial : Nat
  body : LogBody
deriving DecidableEq, Repr

/-! ### The ten blocks (00_scope.md, Blocks) -/

/-- Ring Port: the own-frame queue, the forward buffer, the link status (R163, R164), and the frame last sent on
RING OUT, the model's view of that pin pair. -/
structure RingPort where
  own : List OwnFrame
  forward : List RingFrame
  linkUp : Bool
  out : Option RingFrame
deriving DecidableEq, Repr

/-- Supervisor Channel: the held flag (R16) and the eight alert classes (R168). -/
structure Channel where
  held : Bool
  alerts : Vector Alert 8
deriving DecidableEq, Repr

/-- Record Queue: records, last accepted sequence (R5) and the high and low marks (R14). -/
structure RecordQueue where
  records : List JobRecord
  last : Option Nat
  high : Nat
  low : Nat
deriving DecidableEq, Repr

/-- Collation Unit (R24). -/
structure CollationUnit where
  collecting : Collecting
  staging : Option Collation
  strays : Nat
  sheetLimit : Nat
  strayLimit : Nat
deriving DecidableEq, Repr

/-- A stock profile and its reference ring, oldest reading first (R42, R43). -/
structure Stock where
  averaging : Nat
  nominal : Nat
  tolerance : Nat
  margin : Nat
  ring : List Nat
deriving DecidableEq, Repr, Inhabited

/-- Caliper Unit: stock profiles with rings, envelope profile, class limits (R42, R50). -/
structure CaliperUnit where
  stocks : Vector Stock 4
  allowance : Nat
  limit : Nat
  letterLimit : Nat
  flatLimit : Nat
deriving DecidableEq, Repr

/-- Track Unit (R59 to R63, R70, R76): slot queue, encoder, boundary, pitch number, track profile, station table, next
serial and jam slot. `divertSerials` holds the serials of the DIVERT_CMDs sent, newest first, one for each tag: what the
alert of R126 names and the frame does not carry. -/
structure TrackUnit where
  slots : List (Option Piece)
  position : Int
  boundary : Int
  pitch : Nat
  encoderErrors : Nat
  length : Nat
  pulses : Nat
  stations : Vector (Option StationEntry) 24
  nextSerial : Nat
  jamSlot : Option Nat
  divertSerials : List Nat
deriving DecidableEq, Repr

/-- Sort Unit: scheme table, page in-use counts, groups, bins and the sorter window (R96, R102, R107, R109, R61). -/
structure SortUnit where
  scheme : Vector SchemeEntry 512
  pageUse : Vector Nat 32
  groups : Vector Group 16
  bins : Vector Bin 32
  window : Nat
deriving DecidableEq, Repr

/-- Audit Log: records oldest first, the log serial, the lost count (R136, R141) and the log reserve (R144). -/
structure AuditLog where
  records : List LogRecord
  serial : Nat
  lost : Nat
  reserve : Nat
deriving DecidableEq, Repr

/-- The run states (R146). -/
inductive RunState where
  | idle
  | ready
  | running
  | paused
  | jammed
  | draining
  | closed
deriving DecidableEq, Repr

/-- The reasons of a pause or a jam, none apart (R146). -/
inductive StopReason where
  | operator
  | mismatch
  | sequence
  | sorter
  | occupancy
  | accumulatorOverrun
  | linkDown
deriving DecidableEq, Repr

/-- Line Control (R146): run state, ending flag, reason, run header, run counters, feed permit and DRIVE_RUN. -/
structure LineControl where
  state : RunState
  ending : Bool
  reason : Option StopReason
  runId : Word
  locked : Bool
  counters : Counters
  permit : Bool
  drive : Bool
deriving DecidableEq, Repr

/-- The state of the part. `resetHigh` is the level of RESET_N, `supervisor` the address read from the SUP_ADDR straps
(R165, R171). `freeIndex` is the MODEL's own field: the index of the next free value (Config), counted on at each use.
`pending` is the queue of the commands that wait, first in, first out. -/
structure State where
  resetHigh : Bool
  supervisor : Node
  ring : RingPort
  channel : Channel
  queue : RecordQueue
  collation : CollationUnit
  caliper : CaliperUnit
  track : TrackUnit
  sort : SortUnit
  reprints : List ReprintEntry
  log : AuditLog
  line : LineControl
  freeIndex : Nat
  pending : List Instr
deriving DecidableEq, Repr

/-! ### Updates, one for each block -/

/-- Replace the Ring Port's state. -/
def State.setRing (s : State) (x : RingPort) : State := { s with ring := x }
/-- Replace the Supervisor Channel's state. -/
def State.setChannel (s : State) (x : Channel) : State := { s with channel := x }
/-- Replace the Record Queue's state. -/
def State.setQueue (s : State) (x : RecordQueue) : State := { s with queue := x }
/-- Replace the Collation Unit's state. -/
def State.setCollation (s : State) (x : CollationUnit) : State := { s with collation := x }
/-- Replace the Caliper Unit's state. -/
def State.setCaliper (s : State) (x : CaliperUnit) : State := { s with caliper := x }
/-- Replace the Track Unit's state. -/
def State.setTrack (s : State) (x : TrackUnit) : State := { s with track := x }
/-- Replace the Sort Unit's state. -/
def State.setSort (s : State) (x : SortUnit) : State := { s with sort := x }
/-- Replace the Reprint List. -/
def State.setReprints (s : State) (x : List ReprintEntry) : State := { s with reprints := x }
/-- Replace the Audit Log's state. -/
def State.setLog (s : State) (x : AuditLog) : State := { s with log := x }
/-- Replace Line Control's state. -/
def State.setLine (s : State) (x : LineControl) : State := { s with line := x }
/-- Replace the index of the next free value. -/
def State.setFree (s : State) (n : Nat) : State := { s with freeIndex := n }

/-! ### Power-on values -/

/-- A stock at power-on (R42). -/
def Stock.powerOn : Stock := { averaging := 8, nominal := 100, tolerance := 16, margin := 20, ring := [] }

/-- A scheme entry at power-on, and the entry a DISABLED mark stores (R96, R104). -/
def SchemeEntry.powerOn : SchemeEntry :=
  { enabled := false, pattern := List.replicate 9 none, group := 0, maxClass := .bulk, keyLength := 5, level := 0 }

/-- A group at power-on (R107). -/
def Group.powerOn : Group := { chain := [], target := 100, minimum := 25, demote := 0, refs := 0 }

/-- A bin at power-on (R109). -/
def Bin.powerOn : Bin :=
  { node := none, capacity := none, state := .off, landed := 0, committed := 0, flights := [], bundle := none,
    trayBundles := 0, previousKey := none }

/-- An alert class with nothing pending (R168, R169). -/
def Alert.clear : Alert := { pending := false, detail := none, count := 0 }

/-- The run counters at 0 (R133). -/
def Counters.zero : Counters :=
  { accepted := 0, sorted := 0, handFinish := 0, handSort := 0, diverted := 0, cleared := 0, skipped := 0, aborted := 0,
    lost := 0, unfed := 0 }

/-- Every block at its power-on values, with the given supervisor address and link status (R171): the run state of
R146, the queues of R163, the marks of R13, the pockets of R24, the profiles of R42, R50 and R61, the track of R59 and
R63, the tables of R70, R96, R107 and R109, the log of R136 and R144 and the alerts of R168. -/
def State.powerOn (supervisor : Node) (linkUp : Bool) : State :=
  { resetHigh := true
    supervisor := supervisor
    ring := { own := [], forward := [], linkUp := linkUp, out := none }
    channel := { held := false, alerts := Vector.replicate 8 Alert.clear }
    queue := { records := [], last := none, high := 48, low := 16 }
    collation := { collecting := .empty, staging := none, strays := 0, sheetLimit := 12, strayLimit := 4 }
    caliper :=
      { stocks := Vector.replicate 4 Stock.powerOn, allowance := 400, limit := 6000, letterLimit := 6350,
        flatLimit := 19050 }
    track :=
      { slots := List.replicate 40 none, position := 0, boundary := 512, pitch := 0, encoderErrors := 0, length := 40,
        pulses := 512, stations := Vector.replicate 24 none, nextSerial := 0, jamSlot := none, divertSerials := [] }
    sort :=
      { scheme := Vector.replicate 512 SchemeEntry.powerOn, pageUse := Vector.replicate 32 0,
        groups := Vector.replicate 16 Group.powerOn, bins := Vector.replicate 32 Bin.powerOn, window := 6 }
    reprints := []
    log := { records := [], serial := 0, lost := 0, reserve := 512 }
    line :=
      { state := .idle, ending := false, reason := none, runId := 0, locked := false, counters := Counters.zero,
        permit := false, drive := false }
    freeIndex := 0
    pending := [] }

/-- The machine right after reset (R171): RESET_N has gone high, the part is in IDLE with every block at its power-on
values and the queue of commands is empty. The straps read 1 and RING IN has signal: both come from outside the part
(DESIGN CHOICE, log entry 1). -/
def State.reset : State := State.powerOn 1 true

/-- The reasons a step can stop the machine with a fault: none. The manual gives every command an effect, so no meaning
of this model raises a fault, and the type has no constructor. -/
inductive Fault where
deriving DecidableEq, Repr

/-- The reasons a step can be refused. -/
inductive Refusal where
  /-- Raised by `exec` for a command without a meaning (none is left). Safe: the machine stops. -/
  | notModelled (mnemonic : String)
deriving DecidableEq, Repr

end Sys2Proof.Machine
end

