-- ==== Sys2Proof/Machine/Layout.lean ====
section
/-! DEFINITION. The codes and layouts of R170: named values, the payloads of the frames the part originates, job
records, scheme entries, bundle keys and log records. -/

namespace Sys2Proof.Machine

/-! ### Codes of named values: the place in the defining list, the first being 1, with 0 for none (R170) -/

/-- The order of a fault (R125), 1..14. -/
def FaultName.order : FaultName → Nat
  | .missingPage => 1
  | .extraPage => 2
  | .countMismatch => 3
  | .doubleSheet => 4
  | .thinSheet => 5
  | .unreadSheet => 6
  | .overstuff => 7
  | .insertWithheld => 8
  | .insertMiss => 9
  | .insertDouble => 10
  | .insertUnconfirmed => 11
  | .envelopeFault => 12
  | .mismatch => 13
  | .unverified => 14

/-- All faults in the reason order of R125. -/
def FaultName.all : List FaultName :=
  [.missingPage, .extraPage, .countMismatch, .doubleSheet, .thinSheet, .unreadSheet, .overstuff, .insertWithheld,
   .insertMiss, .insertDouble, .insertUnconfirmed, .envelopeFault, .mismatch, .unverified]

/-- A fault set as a number, bit n−1 for the fault of order n (R170). -/
def faultSetNat (l : List FaultName) : Nat :=
  FaultName.all.foldl (fun a f => if l.contains f then a + 2 ^ (f.order - 1) else a) 0

/-- The disposition code of a PIECE record, 1..9 in the order of R123 (R170). -/
def Disposition.code : Disposition → Nat
  | .sorted => 1
  | .handFinish => 2
  | .handSort => 3
  | .diverted => 4
  | .cleared => 5
  | .skipped => 6
  | .aborted => 7
  | .lost => 8
  | .unfed => 9

/-- The reason code of a PIECE record: 1..14 for the faults, 15..22 for the dispositions but UNFED, which is no reason
of R125 and takes the next code here (R170). -/
def Reason.code : Reason → Nat
  | .fault f => f.order
  | .disposition d => 14 + d.code

/-- Class codes of the PIECE record: 0 none, 1 LETTER, 2 FLAT, 3 BULK (R170). -/
def CaliperClass.logCode : Option CaliperClass → Nat
  | none => 0
  | some .letter => 1
  | some .flat => 2
  | some .bulk => 3

/-- Maximum class codes of a scheme entry: 0 LETTER, 1 FLAT, 2 BULK (R170); also the order of R112. -/
def CaliperClass.code : CaliperClass → Nat
  | .letter => 0
  | .flat => 1
  | .bulk => 2

/-- Read kind codes of the PIECE record: 0 none, 1 NO_READ, 2 a read value (R170). -/
def OutputRead.code : OutputRead → Nat
  | .none => 0
  | .noRead => 1
  | .value _ _ => 2

/-- Verification codes of the PIECE record: 0 NONE, 1 VERIFIED, 2 UNREAD, 3 UNVERIFIED (R170). -/
def Verification.code : Verification → Nat
  | .none => 0
  | .verified => 1
  | .unread => 2
  | .unverified => 3

/-- Station kinds 1..9 in the order of R70 (R170). -/
def StationKind.code : StationKind → Nat
  | .sheetFeeder => 1
  | .sheetScanner => 2
  | .sheetDivert => 3
  | .folder => 4
  | .insert => 5
  | .envelope => 6
  | .scanOut => 7
  | .slotCheck => 8
  | .exit => 9

/-- Station modes 1..4 (R170). -/
def StationMode.code : StationMode → Nat
  | .normal => 1
  | .force => 2
  | .skip => 3
  | .off => 4

/-- Station statuses 1..6 in the order of R70 (R170). -/
def StationStatus.code : StationStatus → Nat
  | .ready => 1
  | .low => 2
  | .empty => 3
  | .fault => 4
  | .unknown => 5
  | .absent => 6

/-- Bin states 1..3 in the order of R109 (R170). -/
def BinState.code : BinState → Nat
  | .off => 1
  | .open => 2
  | .fullWait => 3

/-- Reprint entry states 1..3 in the order of R127 (R170). -/
def EntryState.code : EntryState → Nat
  | .open => 1
  | .requested => 2
  | .queued => 3

/-- Run states 1..7 in the order of R146 (R170). -/
def RunState.code : RunState → Nat
  | .idle => 1
  | .ready => 2
  | .running => 3
  | .paused => 4
  | .jammed => 5
  | .draining => 6
  | .closed => 7

/-- Pause and jam reasons in the order of R146, taken as one list, 0 for none (R170; log entry 10). -/
def StopReason.code : Option StopReason → Nat
  | none => 0
  | some .operator => 1
  | some .mismatch => 2
  | some .sequence => 3
  | some .sorter => 4
  | some .occupancy => 5
  | some .accumulatorOverrun => 6
  | some .linkDown => 7

/-- Alert classes 1..8 in priority order (R168, R170). -/
def AlertClass.code : AlertClass → Nat
  | .link => 1
  | .jam => 2
  | .mismatch => 3
  | .sequence => 4
  | .sorter => 5
  | .reserve => 6
  | .station => 7
  | .run => 8

/-- All alert classes in priority order (R168). -/
def AlertClass.all : List AlertClass := [.link, .jam, .mismatch, .sequence, .sorter, .reserve, .station, .run]

/-- The alert class of a detail (the table of 11, Alerts). -/
def AlertDetail.cls : AlertDetail → AlertClass
  | .linkDown => .link
  | .linkUp => .link
  | .ringOverrun => .link
  | .occupancy _ => .jam
  | .accumulatorOverrun => .jam
  | .mismatch .. => .mismatch
  | .strayLimit => .sequence
  | .noBin _ => .sorter
  | .unexpectedLanding _ => .sorter
  | .timeout _ => .sorter
  | .selectUntaken _ => .sorter
  | .markUntaken _ => .sorter
  | .divertUntaken _ => .sorter
  | .recordOverrun => .reserve
  | .reserveDivert => .reserve
  | .logOverflow => .reserve
  | .stationStatus .. => .station
  | .drainComplete => .run

/-- The detail bytes of a NOTICE and of QUERY ALERTS: the detail's code in its class's list, where the class has more
than one kind of detail or only a named one, then the items of its row in order (R170 and the table of 11, Alerts). -/
def AlertDetail.bytes : AlertDetail → List Byte
  | .linkDown => [1]
  | .linkUp => [2]
  | .ringOverrun => [3]
  | .occupancy slot => 1 :: beBytes 1 slot
  | .accumulatorOverrun => [2]
  | .mismatch slot serial seq inc readSeq readInc =>
    beBytes 1 slot ++ beBytes 2 serial ++ beBytes 3 seq ++ beBytes 1 inc ++ beBytes 3 readSeq ++ beBytes 1 readInc
  | .strayLimit => [1]
  | .noBin group => 1 :: beBytes 1 group
  | .unexpectedLanding bin => 2 :: beBytes 1 bin
  | .timeout bin => 3 :: beBytes 1 bin
  | .selectUntaken bin => 4 :: beBytes 1 bin
  | .markUntaken bin => 5 :: beBytes 1 bin
  | .divertUntaken serial => 6 :: beBytes 2 serial
  | .recordOverrun => [1]
  | .reserveDivert => [2]
  | .logOverflow => [3]
  | .stationStatus index status => beBytes 1 index ++ [byteOf status.code]
  | .drainComplete => [1]

/-- Answer codes 0..9 in the order of R165 (R170). -/
def AnswerCode.code : AnswerCode → Nat
  | .ok => 0
  | .state => 1
  | .busy => 2
  | .range => 3
  | .inUse => 4
  | .full => 5
  | .sequence => 6
  | .unknownReprint => 7
  | .limit => 8
  | .locked => 9

/-- The action byte of a SHEET_ACTION (R170): 0 ACCEPT, 1..7 DIVERT with its reason. -/
def SheetVerdict.code : SheetVerdict → Nat
  | .accept => 0
  | .divert .stray => 1
  | .divert .unread => 2
  | .divert .handFinish => 3
  | .divert .overrun => 4
  | .divert .reserve => 5
  | .divert .noRun => 6
  | .divert .lateSheet => 7

/-- FEED_CMD kinds (R170): 1 MANDATORY, 2 OPTIONAL. -/
def FeedKind.code : FeedKind → Nat
  | .mandatory => 1
  | .optional => 2

/-- Bundle close causes 0..5 in the order of R116 (R170). -/
def CloseCause.code : CloseCause → Nat
  | .keyBreak => 0
  | .full => 1
  | .tray => 2
  | .binOff => 3
  | .runEnd => 4
  | .abort => 5

/-- RUN events 1..6 (R170). -/
def RunEvent.code : RunEvent → Nat
  | .open => 1
  | .start => 2
  | .flush => 3
  | .abort => 4
  | .closed => 5
  | .reset => 6

/-! ### Records and entries -/

/-- The nine positions of a destination (R1): digits 1..5, then four digits or four absent positions. -/
def Destination.positions (d : Destination) : List (Option Nat) :=
  d.required.map some ++ (match d.extra with
    | some l => l.map some
    | none => List.replicate 4 none)

/-- The byte of a selection after its station index (R170): mode in bit 7, priority in bits 2..0. A MANDATORY selection has no
priority; its bits 2..0, and bits 6..3 of either, are sent as 0 (log entry 39). -/
def SelectionMode.byte : SelectionMode → Byte
  | .mandatory => 0x80
  | .optional p => byteOf (p % 8)

/-- A job record in the layout of RECORD (R170). The nibbles of absent digits, and the bits to which the layout gives no
meaning, are sent as 0 (log entry 39). -/
def JobRecord.bytes (r : JobRecord) : List Byte :=
  beBytes 3 r.seq ++
  [byteOf (r.inc % 16 * 16 + (if r.reprint then 4 else 0) + (if r.matchRequired then 2 else 0)
     + (if r.handFinish then 1 else 0)),
   byteOf r.pages, byteOf r.panels] ++
  packNibbles (r.dest.positions.map (·.getD 0) ++ [if r.dest.extra.isSome then 1 else 0]) ++
  byteOf r.selections.length :: r.selections.flatMap (fun x => [byteOf x.station, x.mode.byte])

/-- A scheme entry as a full item of LOAD SCHEME (R170). The low half of the fifth pattern byte, a tenth nibble for which there
is no position, and bit 4 of the flags are sent as 0 (log entry 39). -/
def SchemeEntry.bytes (e : SchemeEntry) : List Byte :=
  1 :: packNibbles (e.pattern.map (·.getD 15)) ++
  [byteOf e.group,
   byteOf ((if e.enabled then 128 else 0) + e.maxClass.code * 32 + e.keyLength % 16),
   byteOf e.level]

/-- Position i of a bundle key as a nibble: 15 for absent, and for a position past the key's length (R170). -/
def keyNibble (k : BundleKey) (i : Nat) : Nat := ((k[i]?).getD none).getD 15

/-- A bundle key as 5 bytes: positions 1..9 in nibbles, then the key length (R170). -/
def keyBytes (k : BundleKey) : List Byte :=
  packNibbles ((List.range 9).map (keyNibble k) ++ [k.length])

/-! ### Log records (R136 to R141, R170) -/

/-- Whether the read part follows (R138): a read value that differs from the piece's own sequence and incarnation. -/
def PieceLog.readPart (p : PieceLog) : Option (Nat × Nat) :=
  match p.output with
  | .value seq inc => if seq = p.seq && inc = p.inc then none else some (seq, inc)
  | _ => none

/-- The length of a PIECE record: five words and one for each optional part (R137, R138). -/
def PieceLog.length (p : PieceLog) : Nat :=
  5 + (if p.fed.isEmpty then 0 else 1) + (if p.stations.isEmpty then 0 else 1) + (if p.place.isSome then 1 else 0)
    + (if p.readPart.isSome then 1 else 0)

/-- The length of a log record in words (R137 to R141). -/
def LogBody.length : LogBody → Nat
  | .piece p => p.length
  | .bundle _ => 6
  | .tray .. => 3
  | .unfed .. => 2
  | .run _ _ none => 2
  | .run _ _ (some _) => 12
  | .overflow _ => 2

/-- The length of a log record in words. -/
def LogRecord.length (r : LogRecord) : Nat := r.body.length

/-- The kind code of a header word (R170). -/
def LogBody.kindCode : LogBody → Nat
  | .piece _ => 1
  | .bundle _ => 2
  | .tray .. => 3
  | .unfed .. => 4
  | .run .. => 5
  | .overflow _ => 6

/-- The event code of a header word: the RUN event, 0 for other kinds (R170). -/
def LogBody.eventCode : LogBody → Nat
  | .run e _ _ => e.code
  | _ => 0

/-- The header word (R136, R170). -/
def LogRecord.header (r : LogRecord) : Word :=
  BitVec.ofNat 32 (r.body.kindCode * 2 ^ 28 + r.length * 2 ^ 24 + r.body.eventCode * 2 ^ 20 + r.serial % 65536)

/-- The ten counters in the order of R140. -/
def Counters.list (c : Counters) : List Nat :=
  [c.accepted, c.sorted, c.handFinish, c.handSort, c.diverted, c.cleared, c.skipped, c.aborted, c.lost, c.unfed]

/-- A flag as a number. -/
def bit (b : Bool) : Nat := if b then 1 else 0

/-- Match kind codes: 0 none, 1 an entry, 2 residual (R170). -/
def matchKind : Option LoggedMatch → Nat
  | none => 0
  | some m => if m.entry.isSome then 1 else 2

/-- The words of a PIECE record after its header (R170). A field whose value is none, and the bits to which the layout gives no
meaning, are 0 (log entry 39). -/
def PieceLog.words (p : PieceLog) : List Word :=
  [BitVec.ofNat 32 (p.seq * 2 ^ 8 + p.inc % 16 * 2 ^ 4 + p.disposition.code),
   BitVec.ofNat 32 (p.bin.getD 0 * 2 ^ 27 + bit p.bin.isSome * 2 ^ 26 + CaliperClass.logCode p.caliperClass * 2 ^ 24
     + p.output.code * 2 ^ 22 + p.verification.code * 2 ^ 20 + bit p.saturated * 2 ^ 19 + p.reason.code * 2 ^ 14
     + faultSetNat p.faults),
   BitVec.ofNat 32 (p.serial.getD 0 * 2 ^ 16 + p.caliper % 65536),
   BitVec.ofNat 32 (bit p.serial.isSome * 2 ^ 31 + matchKind p.scheme * 2 ^ 29 + bit (!p.fed.isEmpty) * 2 ^ 28
     + bit (!p.stations.isEmpty) * 2 ^ 27 + (p.scheme.bind (·.entry)).getD 0 * 2 ^ 16
     + (p.scheme.map (·.group)).getD 0 * 2 ^ 12 + (p.scheme.map (·.level)).getD 0 * 2 ^ 9)] ++
  (if p.fed.isEmpty then [] else [BitVec.ofNat 32 (stationSetNat p.fed)]) ++
  (if p.stations.isEmpty then [] else [BitVec.ofNat 32 (stationSetNat p.stations)]) ++
  (match p.place with
   | some (first, place) => [BitVec.ofNat 32 (first * 2 ^ 8 + place % 256)]
   | none => []) ++
  (match p.readPart with
   | some (seq, inc) => [BitVec.ofNat 32 (seq * 2 ^ 8 + inc % 16 * 2 ^ 4)]
   | none => [])

/-- The words of a BUNDLE record after its header (R170). The entry index of a residual match, and the bits to which the layout
gives no meaning, are 0 (log entry 39). -/
def BundleLog.words (b : BundleLog) : List Word :=
  [BitVec.ofNat 32 (b.bin * 2 ^ 27 + b.group * 2 ^ 23 + b.count * 2 ^ 15 + b.level * 2 ^ 12 + b.cause.code * 2 ^ 9
     + bit b.demoted * 2 ^ 8 + bit b.continued * 2 ^ 7),
   BitVec.ofNat 32 ((List.range 8).foldl (fun a i => a * 16 + keyNibble b.key i) 0),
   BitVec.ofNat 32 (keyNibble b.key 8 * 2 ^ 28 + b.key.length * 2 ^ 24 + bit b.entry.isNone * 2 ^ 9 + b.entry.getD 0),
   BitVec.ofNat 32 (b.first * 2 ^ 8),
   BitVec.ofNat 32 (b.last * 2 ^ 8)]

/-- The words of a record after its header (R170). The bits to which the layout gives no meaning are 0 (log entry 39). -/
def LogBody.words : LogBody → List Word
  | .piece p => p.words
  | .bundle b => b.words
  | .tray bin landed bundles => [BitVec.ofNat 32 (bin * 2 ^ 27 + landed), BitVec.ofNat 32 bundles]
  | .unfed seq inc => [BitVec.ofNat 32 (seq * 2 ^ 8 + inc % 16 * 2 ^ 4)]
  | .run _ id none => [id]
  | .run _ id (some c) => id :: c.list.map (BitVec.ofNat 32 ·)
  | .overflow lost => [BitVec.ofNat 32 lost]

/-- The words of a log record (R136, R170). -/
def LogRecord.words (r : LogRecord) : List Word := r.header :: r.body.words

/-- The bytes of a log record in an ANSWER: its words, each high byte first (R143, R170). -/
def LogRecord.bytes (r : LogRecord) : List Byte := r.words.flatMap (fun w => beBytes 4 w.toNat)

/-! ### Frames the part originates (R170) -/

/-- The kind code of an own frame (R170). -/
def OwnBody.kindCode : OwnBody → Nat
  | .answer .. => 8
  | .notice .. => 9
  | .recordHold => 10
  | .recordGo => 11
  | .sheetAction .. => 17
  | .foldSet _ => 18
  | .feedPermit _ => 19
  | .pitch _ => 20
  | .feedCmd .. => 21
  | .envCmd _ => 23
  | .scanArm _ => 25
  | .divertCmd _ => 29
  | .binSelect _ => 32
  | .bundleMark _ => 34

/-- The payload of an own frame (R170). -/
def OwnBody.payload : OwnBody → List Byte
  | .answer tag code part last content => tag :: byteOf code.code :: byteOf (part % 8 + (if last then 128 else 0)) :: content
  | .notice cls count detail => byteOf cls.code :: byteOf count :: detail.bytes
  | .recordHold => []
  | .recordGo => []
  | .sheetAction serial verdict seq inc => byteOf serial :: byteOf verdict.code :: (beBytes 3 seq ++ [byteOf inc])
  | .foldSet panels => [byteOf panels]
  | .feedPermit on => [flagByte on]
  | .pitch number => [byteOf number]
  | .feedCmd tag kind => [byteOf tag, byteOf kind.code]
  | .envCmd tag => [byteOf tag]
  | .scanArm tag => [byteOf tag]
  | .divertCmd tag => [byteOf tag]
  | .binSelect tag => [byteOf tag]
  | .bundleMark count => [byteOf count]

/-- An own frame as a ring frame: source node 0, TAKEN clear (R160, R170). -/
def OwnFrame.toRing (f : OwnFrame) : RingFrame :=
  { header := { dst := f.dst, src := 0, taken := false }, kind := byteOf f.body.kindCode, payload := f.body.payload }

end Sys2Proof.Machine
end

