-- ==== Sys2Proof/Machine/Operands.lean ====
section
/-! DEFINITION. Reading the operands of a request from its payload bytes in the layouts of R170: the job record, the
table items of LOAD and the codes of named values. A payload whose length does not match its layout reads as none, which
every request refuses with RANGE (R165). -/

namespace Sys2Proof.Machine

/-! ### Codes -/

/-- A station kind from its code (R170). -/
def stationKindOf : Nat → Option StationKind
  | 1 => some .sheetFeeder
  | 2 => some .sheetScanner
  | 3 => some .sheetDivert
  | 4 => some .folder
  | 5 => some .insert
  | 6 => some .envelope
  | 7 => some .scanOut
  | 8 => some .slotCheck
  | 9 => some .exit
  | _ => none

/-- A station mode from its code (R170). -/
def stationModeOf : Nat → Option StationMode
  | 1 => some .normal
  | 2 => some .force
  | 3 => some .skip
  | 4 => some .off
  | _ => none

/-- The status a STATION_STATUS may carry, from its code (R72, R170). -/
def reportedStatusOf : Nat → Option StationStatus
  | 1 => some .ready
  | 2 => some .low
  | 3 => some .empty
  | 4 => some .fault
  | _ => none

/-- A maximum class from its code (R170). -/
def caliperClassOf : Nat → Option CaliperClass
  | 0 => some .letter
  | 1 => some .flat
  | 2 => some .bulk
  | _ => none

/-- An alert class from its code (R170). -/
def alertClassOf : Nat → Option AlertClass
  | 1 => some .link
  | 2 => some .jam
  | 3 => some .mismatch
  | 4 => some .sequence
  | 5 => some .sorter
  | 6 => some .reserve
  | 7 => some .station
  | 8 => some .run
  | _ => none

/-! ### The job record (R170) -/

/-- The selections of a RECORD frame, two bytes each. -/
def readSelections : List Byte → List Selection
  | station :: mode :: rest =>
    { station := station.toNat,
      mode := if mode.msb then .mandatory else .optional (mode.toNat % 8) } :: readSelections rest
  | _ => []

/-- The nine nibbles of the destination positions (R170). -/
def destinationNibbles (body : List Byte) : List Nat := (((body.drop 6).take 5).flatMap nibbles).take 9

/-- The job record in the bytes after the tag of a RECORD frame, or none when their number does not match the layout. No
range is checked here (R3 does that). -/
def readRecord (body : List Byte) : Option JobRecord :=
  if 12 ≤ body.length && body.length == 12 + 2 * field body 11 1 then
    let b3 := field body 3 1
    let digits := destinationNibbles body
    some
      { seq := field body 0 3, inc := b3 / 16, reprint := b3 / 4 % 2 == 1, pages := field body 4 1,
        panels := field body 5 1, selections := readSelections (body.drop 12),
        dest :=
          { required := digits.take 5, extra := if field body 10 1 % 2 == 1 then some (digits.drop 5) else none },
        matchRequired := b3 / 2 % 2 == 1, handFinish := b3 % 2 == 1 }
  else none

/-! ### LOAD items (R170) -/

/-- The fields of a stock profile as sent. -/
structure StockFields where
  averaging : Nat
  nominal : Nat
  tolerance : Nat
  margin : Nat
deriving DecidableEq, Repr

/-- The PROFILE table as sent (R166). -/
structure ProfileFields where
  stocks : List StockFields
  allowance : Nat
  limit : Nat
  letterLimit : Nat
  flatLimit : Nat
  sheetLimit : Nat
  strayLimit : Nat
  length : Nat
  pulses : Nat
  window : Nat
  high : Nat
  low : Nat
  reserve : Nat
deriving DecidableEq, Repr

/-- The stock profile at a byte of a LOAD PROFILE. -/
def readStock (items : List Byte) (start : Nat) : StockFields :=
  { averaging := field items start 1, nominal := field items (start + 1) 2, tolerance := field items (start + 3) 1,
    margin := field items (start + 4) 2 }

/-- The 42 bytes of a LOAD PROFILE (R170). -/
def readProfile (items : List Byte) : Option ProfileFields :=
  if items.length = 42 then
    some
      { stocks := [readStock items 0, readStock items 6, readStock items 12, readStock items 18],
        allowance := field items 24 2, limit := field items 26 2, letterLimit := field items 28 2,
        flatLimit := field items 30 2, sheetLimit := field items 32 1, strayLimit := field items 33 1,
        length := field items 34 1, pulses := field items 35 2, window := field items 37 1,
        high := field items 38 1, low := field items 39 1, reserve := field items 40 2 }
  else none

/-- The track kinds (R70). -/
def StationKind.onTrack : StationKind → Bool
  | .insert => true
  | .envelope => true
  | .scanOut => true
  | .slotCheck => true
  | .exit => true
  | _ => false

/-- The kinds that have a result window (R70). -/
def StationKind.hasWindow : StationKind → Bool
  | .insert => true
  | .envelope => true
  | .scanOut => true
  | _ => false

/-- One item of LOAD STATION (R170): the outer none for a kind code that names no kind, the inner none for the EMPTY mark.
Fields that do not apply to the kind are stored as 0, and a loaded entry has mode NORMAL, status UNKNOWN and late count 0
(R71). -/
def readStation (item : List Byte) : Option (Option StationEntry) :=
  if field item 0 1 = 0 then some none
  else
    match stationKindOf (field item 1 1) with
    | none => none
    | some k =>
      some (some
        { node := field item 0 1, kind := k,
          offset := if k.onTrack then field item 2 1 else 0,
          window := if k.hasWindow then field item 3 1 % 16 else 0,
          caliper := if k = .insert then field item 4 2 else 0,
          lateLimit := field item 3 1 / 16, mode := .normal, status := .unknown, late := 0 })

/-- The items of LOAD STATION, six bytes each; none when one of them names no kind. -/
def readStationItems : Nat → List Byte → Option (List (Option StationEntry))
  | 0, _ => some []
  | n + 1, bytes =>
    match readStation (bytes.take 6), readStationItems n (bytes.drop 6) with
    | some e, some rest => some (e :: rest)
    | _, _ => none

/-- First position and items of LOAD STATION (R71, R170). -/
def readStations (items : List Byte) : Option (Nat × List (Option StationEntry)) :=
  if items.length = 2 + 6 * field items 1 1 then
    match readStationItems (field items 1 1) (items.drop 2) with
    | some l => some (field items 0 1, l)
    | none => none
  else none

/-- A full item of LOAD SCHEME after its marker (R170), none when a field lies outside its range (R103). The key length is
clamped to 1..9 (R104). The low half of the fifth pattern byte, for which there is no position, and bit 4 of the flags are
ignored (log entry 37). -/
def readSchemeEntry (bytes : List Byte) : Option SchemeEntry :=
  let pattern := ((bytes.take 5).flatMap nibbles).take 9
  let flags := field bytes 6 1
  match caliperClassOf (flags / 32 % 4) with
  | none => none
  | some c =>
    if pattern.all (fun d => decide (d ≤ 9) || d == 15) && decide (field bytes 5 1 ≤ 15) && decide (field bytes 7 1 ≤ 7)
    then
      some
        { enabled := flags / 128 == 1, pattern := pattern.map (fun d => if d = 15 then none else some d),
          group := field bytes 5 1, maxClass := c, keyLength := max 1 (min 9 (flags % 16)), level := field bytes 7 1 }
    else none

/-- The items of LOAD SCHEME: exactly `n` of them and nothing after; a DISABLED mark is the power-on entry (R104). A
marker other than 0 and 1 is refused (the model's reading, log entry 43). -/
def readSchemeItems : Nat → List Byte → Option (List SchemeEntry)
  | 0, [] => some []
  | 0, _ => none
  | _ + 1, [] => none
  | n + 1, marker :: rest =>
    if marker = 0 then
      match readSchemeItems n rest with
      | some l => some (SchemeEntry.powerOn :: l)
      | none => none
    else if marker = 1 && decide (8 ≤ rest.length) then
      match readSchemeEntry (rest.take 8), readSchemeItems n (rest.drop 8) with
      | some e, some l => some (e :: l)
      | _, _ => none
    else none

/-- Page, start offset and items of LOAD SCHEME after its range step (R103). -/
def readScheme (items : List Byte) : Option (Nat × Nat × List SchemeEntry) :=
  let page := field items 0 1
  let start := field items 1 1
  let n := field items 2 1
  if 3 ≤ items.length && decide (page ≤ 31) && decide (start ≤ 15) && decide (1 ≤ n) && decide (n ≤ 32) then
    match readSchemeItems n (items.drop 3) with
    | some l => some (page, start, l)
    | none => none
  else none

/-- The fields of LOAD GROUP as sent (R108, R170). -/
structure GroupFields where
  group : Nat
  chain : List Nat
  target : Nat
  minimum : Nat
  demote : Nat
deriving DecidableEq, Repr

/-- The bytes of LOAD GROUP: group, chain length, that many bins, B, Q and the demote level (R170). -/
def readGroup (items : List Byte) : Option GroupFields :=
  let n := field items 1 1
  if 2 ≤ items.length && items.length == 5 + n && decide (n ≤ 4) then
    some
      { group := field items 0 1, chain := ((items.drop 2).take n).map (·.toNat), target := field items (2 + n) 1,
        minimum := field items (3 + n) 1, demote := field items (4 + n) 1 }
  else none

/-- Bin, node address and capacity of LOAD BIN (R110, R170). -/
def readBin (items : List Byte) : Option (Nat × Nat × Nat) :=
  if items.length = 4 then some (field items 0 1, field items 1 1, field items 2 2) else none

end Sys2Proof.Machine
end

