-- ==== Sys2Proof/Machine/Ops.lean ====
section
/-! DEFINITION. The operations every block shares: the two queues of RING OUT (R163), raising an alert (R168), the
ANSWER (R165), reading and writing the tables, and a station set ABSENT or FAULT (R73, R74). -/

namespace Sys2Proof.Machine

/-- Add an element to a set held as a list without repeats. -/
def addOnce {α : Type} [DecidableEq α] (x : α) (l : List α) : List α := if x ∈ l then l else l ++ [x]

/-! ### The own-frame queue (R163) -/

/-- The own-frame queue holds 32 frames: a frame queued now is dropped (R163). -/
def ownFull (s : State) : Bool := decide (Config.ownCapacity ≤ s.ring.own.length)

/-- Append a frame to the own-frame queue. -/
def pushOwn (dst : Node) (body : OwnBody) (s : State) : State :=
  s.setRing { s.ring with own := s.ring.own ++ [⟨dst, body⟩] }

/-- Queue a frame of a kind without an untaken rule (R162): on a full queue it is dropped with no effect. -/
def sendPlain (dst : Node) (body : OwnBody) (s : State) : State :=
  if ownFull s then s else pushOwn dst body s

/-- The strapped supervisor address names a node that can send to the part (R165). -/
def supervisorReachable (s : State) : Bool := s.supervisor != 0 && s.supervisor != Config.broadcast

/-- Queue an ANSWER, NOTICE, RECORD_HOLD or RECORD_GO to the supervisor; with a strapped address of 0 or 63 it is not
queued (R165). None of these kinds has an untaken rule (R162). -/
def sendSupervisor (body : OwnBody) (s : State) : State :=
  if supervisorReachable s then sendPlain s.supervisor body s else s

/-- The parts of an ANSWER's content, in part-number order (R165). Every part but the last holds exactly 116 bytes: R165 does not
say where a longer content is divided (the model's choice, log entry 47). -/
def answerParts (tag : Byte) (code : AnswerCode) : Nat → Nat → List Byte → List OwnBody
  | 0, part, content => [.answer tag code part true content]
  | fuel + 1, part, content =>
    if content.length ≤ Config.answerChunk then [.answer tag code part true content]
    else .answer tag code part false (content.take Config.answerChunk) ::
      answerParts tag code fuel (part + 1) (content.drop Config.answerChunk)

/-- Answer a request with its tag, a code and the content its rule lists (R165). -/
def sendAnswer (tag : Byte) (code : AnswerCode) (content : List Byte) (s : State) : State :=
  (answerParts tag code 7 0 content).foldl (fun s b => sendSupervisor b s) s

/-! ### Alerts (R168) -/

/-- The place of a class in the table of alerts. -/
def AlertClass.index : AlertClass → Fin 8
  | .link => 0
  | .jam => 1
  | .mismatch => 2
  | .sequence => 3
  | .sorter => 4
  | .reserve => 5
  | .station => 6
  | .run => 7

/-- The alert record of a class (R168). -/
def alertOf (c : AlertClass) (s : State) : Alert := s.channel.alerts.get c.index

/-- Write the alert record of a class. -/
def setAlert (c : AlertClass) (a : Alert) (s : State) : State :=
  s.setChannel { s.channel with alerts := s.channel.alerts.set c.index a }

/-- Raise an alert with the given detail in the detail's class (R168): the count rises, saturating at 255, and a class
that was not pending becomes pending with the detail and queues a NOTICE. -/
def raiseAlert (d : AlertDetail) (s : State) : State :=
  let a := alertOf d.cls s
  let count := min 255 (a.count + 1)
  if a.pending then setAlert d.cls { a with count := count } s
  else sendSupervisor (.notice d.cls count d)
    (setAlert d.cls { pending := true, detail := some d, count := count } s)

/-! ### The forward buffer (R163) -/

/-- Queue a frame to be forwarded; on a full buffer it is dropped and LINK is raised with RING_OVERRUN (R163). -/
def forwardFrame (f : RingFrame) (s : State) : State :=
  if Config.forwardCapacity ≤ s.ring.forward.length then raiseAlert .ringOverrun s
  else s.setRing { s.ring with forward := s.ring.forward ++ [f] }

/-! ### The station table (R70) -/

/-- The entry at a position of the station table, none when the position is empty or above 23. -/
def stationAt (i : Nat) (s : State) : Option StationEntry := (s.track.stations[i]?).getD none

/-- Write a position of the station table. -/
def putStation (i : Nat) (e : Option StationEntry) (s : State) : State :=
  s.setTrack { s.track with stations := s.track.stations.setIfInBounds i e }

/-- The positions and entries of the station table that satisfy a test, in increasing index. -/
def stationsWhere (test : StationEntry → Bool) (s : State) : List (Nat × StationEntry) :=
  (List.range 24).filterMap fun i =>
    match stationAt i s with
    | some e => if test e then some (i, e) else none
    | none => none

/-- The entry of a kind the table holds at most once (R71), with its index. -/
def stationOfKind (k : StationKind) (s : State) : Option (Nat × StationEntry) :=
  (stationsWhere (fun e => e.kind == k) s).head?

/-- The entry at a node address, with its index. -/
def stationOfNode (n : Nat) (s : State) : Option (Nat × StationEntry) :=
  (stationsWhere (fun e => e.node == n) s).head?

/-- The node address of a station entry as a destination. -/
def StationEntry.dst (e : StationEntry) : Node := BitVec.ofNat 6 e.node

/-- Set a station's reported status to ABSENT; STATION is raised when it was not ABSENT already (R73). -/
def markAbsent (i : Nat) (e : StationEntry) (s : State) : State :=
  let s1 := putStation i (some { e with status := .absent }) s
  if e.status = .absent then s1 else raiseAlert (.stationStatus i .absent) s1

/-- The part of R73 common to every untaken station frame: the entry at the frame's destination is set ABSENT. A
destination that holds no entry leaves the table unchanged. -/
def nodeAbsent (dst : Node) (s : State) : State :=
  match stationOfNode dst.toNat s with
  | some (i, e) => markAbsent i e s
  | none => s

/-- Queue a station frame whose only untaken effect is that of R73 (FOLD_SET, FEED_PERMIT); a full queue drops it, which
is handed back at once as untaken (R163). -/
def sendStation (dst : Node) (body : OwnBody) (s : State) : State :=
  if ownFull s then nodeAbsent dst s else pushOwn dst body s

/-- A report received too late raises the station's late count, saturating at 15; at or above the late limit the status
becomes FAULT, and STATION is raised when it was not FAULT already (R74). -/
def lateReport (i : Nat) (e : StationEntry) (s : State) : State :=
  let late := min 15 (e.late + 1)
  if e.lateLimit ≤ late then
    let s1 := putStation i (some { e with late := late, status := .fault }) s
    if e.status = .fault then s1 else raiseAlert (.stationStatus i .fault) s1
  else putStation i (some { e with late := late }) s

/-! ### Groups, bins and pages (R102, R107, R109) -/

/-- A bin of the bin table; an index above 31 names no bin and reads as an unloaded one. -/
def binAt (b : Nat) (s : State) : Bin := (s.sort.bins[b]?).getD Bin.powerOn

/-- Write a bin of the bin table. -/
def putBin (b : Nat) (x : Bin) (s : State) : State :=
  s.setSort { s.sort with bins := s.sort.bins.setIfInBounds b x }

/-- The bin loaded with a node address (R113). -/
def binOfNode (n : Nat) (s : State) : Option Nat :=
  (List.range 32).find? fun b => (binAt b s).node == some n

/-- A group of the group table. -/
def groupAt (g : Nat) (s : State) : Group := (s.sort.groups[g]?).getD Group.powerOn

/-- Write a group of the group table. -/
def putGroup (g : Nat) (x : Group) (s : State) : State :=
  s.setSort { s.sort with groups := s.sort.groups.setIfInBounds g x }

/-- The bin's group: the group whose chain holds the bin, or none (R107). -/
def groupOfBin (b : Nat) (s : State) : Option Nat :=
  (List.range 16).find? fun g => (groupAt g s).chain.contains b

/-- A page's in-use count (R102). -/
def pageUseAt (p : Nat) (s : State) : Nat := (s.sort.pageUse[p]?).getD 0

/-- Write a page's in-use count. -/
def putPageUse (p n : Nat) (s : State) : State :=
  s.setSort { s.sort with pageUse := s.sort.pageUse.setIfInBounds p n }

/-! ### The slot queue (R63) -/

/-- The piece in a slot, if any. -/
def pieceAt (n : Nat) (s : State) : Option Piece := (s.track.slots[n]?).getD none

/-- Write a slot of the slot queue. -/
def putSlot (n : Nat) (p : Option Piece) (s : State) : State :=
  s.setTrack { s.track with slots := s.track.slots.set n p }

/-- The track's piece count (R63). -/
def pieceCount (s : State) : Nat := s.track.slots.countP (·.isSome)

/-- A piece's tag: the low 8 bits of its serial (R63). -/
def Piece.tag (p : Piece) : Nat := p.serial % 256

/-- A flight's tag (R109). -/
def Flight.tag (f : Flight) : Nat := f.serial % 256

/-! ### Counts that blocks ask of each other -/

/-- The collations in the two pockets (R24). -/
def pocketCount (s : State) : Nat :=
  (match s.collation.collecting with | .empty => 0 | _ => 1) + (if s.collation.staging.isSome then 1 else 0)

/-- The in-flight count of the reserve gate (R27): collations in the pockets plus pieces on the track. -/
def inFlightCount (s : State) : Nat := pocketCount s + pieceCount s

/-- The free reprint entries (R127). -/
def reprintFree (s : State) : Nat := Config.reprintCapacity - s.reprints.length

/-- The entries in all bins' in-flight lists (R159). -/
def flightTotal (s : State) : Nat := (s.sort.bins.toList.map (·.flights.length)).sum

/-- The words the log's records occupy (R136). -/
def logUsed (s : State) : Nat := (s.log.records.map (·.length)).sum

/-- The free words of the log (R136). -/
def logFree (s : State) : Nat := Config.logCapacity - logUsed s

end Sys2Proof.Machine
end

