-- ==== Sys2Proof/Machine/Caliper.lean ====
section
/-! DEFINITION. Caliper arithmetic (03): the reference of a stock (R43), the classification and learning of a reading
(R45, R46), the piece caliper and the fill check at commit (R51 to R55), and the caliper class (R58). -/

namespace Sys2Proof.Machine

/-! ### Stocks -/

/-- A stock of the Caliper Unit, 0..3; a number above 3 names none and reads as the power-on stock. -/
def stockAt (i : Nat) (s : State) : Stock := (s.caliper.stocks[i]?).getD Stock.powerOn

/-- Write a stock. -/
def putStock (i : Nat) (x : Stock) (s : State) : State :=
  s.setCaliper { s.caliper with stocks := s.caliper.stocks.setIfInBounds i x }

/-- The reference REF (R43): NOM with an empty ring, and else the mean of the ring rounded to the nearest µm, a half
upward. -/
def Stock.reference (x : Stock) : Nat :=
  if x.ring.isEmpty then x.nominal else (x.ring.sum + x.ring.length / 2) / x.ring.length

/-- The margin (R45). -/
def Stock.marginNow (x : Stock) : Nat := max (x.reference * x.tolerance / 64) x.margin

/-- The upper threshold U (R45). -/
def Stock.upper (x : Stock) : Nat := min (x.reference + x.marginNow) 4094

/-- The thin threshold (R45). -/
def Stock.thin (x : Stock) : Nat := x.reference / 4

/-- The class of a sheet (R45). -/
inductive SheetClass where
  | single
  | double
  | thin
deriving DecidableEq, Repr

/-- The class and the SATURATED note of a reading against a stock: the first line of R45's table that it satisfies. -/
def Stock.classify (x : Stock) (m : Nat) : SheetClass × Bool :=
  if m = 4095 then (.double, true)
  else if x.upper ≤ m && m ≤ 4094 then (.double, false)
  else if m ≤ x.thin then (.thin, false)
  else (.single, false)

/-- Drop the oldest readings of a ring until it holds at most `w` (R42, R46). -/
def trimRing (w : Nat) (ring : List Nat) : List Nat := ring.drop (ring.length - w)

/-- Learning (R46): a SINGLE reading joins the newest end of the ring, which is trimmed to W. -/
def Stock.learn (x : Stock) (m : Nat) (c : SheetClass) : Stock :=
  if c = .single then { x with ring := trimRing x.averaging (x.ring ++ [m]) } else x

/-- A stock with its ring emptied (R44). -/
def Stock.relearn (x : Stock) : Stock := { x with ring := [] }

/-- All four rings emptied (R44). -/
def emptyRings (s : State) : State := s.setCaliper { s.caliper with stocks := s.caliper.stocks.map Stock.relearn }

/-! ### The piece caliper (R51 to R55) -/

/-- A caliper held saturating at 65,535 µm (R51). -/
def satCaliper (n : Nat) : Nat := min Config.caliperLimit n

/-- The stack caliper (R51). -/
def Collation.stack (c : Collation) : Nat := satCaliper (c.sheets.map (·.reading)).sum

/-- The folded caliper (R51). -/
def Collation.folded (c : Collation) : Nat := satCaliper (c.job.panels * c.stack)

/-- The SATURATED note of a piece (R51). -/
def Collation.pieceSaturated (c : Collation) : Bool :=
  c.sheets.any (·.saturated) || decide (Config.caliperLimit < (c.sheets.map (·.reading)).sum)
    || decide (Config.caliperLimit < c.job.panels * c.stack)

/-- The effective action of an INSERT station for a piece (R80). -/
inductive EffectiveAction where
  | noFeed
  | mandatory
  | optional (priority : Nat)
  | forced
deriving DecidableEq, Repr

/-- A candidate of the fill check (R54): its station, slot offset, nominal caliper, priority (8 for a forced feed) and the
plan entry it has while it stays. -/
structure Candidate where
  station : Nat
  offset : Nat
  caliper : Nat
  priority : Nat
  entry : PlanEntry
deriving DecidableEq, Repr

/-- Candidate `a` is dropped before `b` (R54): the higher priority number, then the larger slot offset, then the higher
station index. -/
def Candidate.before (a b : Candidate) : Bool :=
  decide (b.priority < a.priority) ||
  (a.priority == b.priority && (decide (b.offset < a.offset) || (a.offset == b.offset && decide (b.station < a.station))))

/-- The candidate to drop next (R54). -/
def worstCandidate : List Candidate → Option Candidate
  | [] => none
  | a :: rest =>
    match worstCandidate rest with
    | none => some a
    | some b => some (if a.before b then a else b)

/-- Drop candidates while the total exceeds the envelope limit (R54): what is left, and the stations dropped. -/
def dropCandidates (limit base : Nat) : Nat → List Candidate → List Nat → List Candidate × List Nat
  | 0, cs, dropped => (cs, dropped)
  | fuel + 1, cs, dropped =>
    if base + (cs.map (·.caliper)).sum ≤ limit then (cs, dropped)
    else
      match worstCandidate cs with
      | none => (cs, dropped)
      | some w => dropCandidates limit base fuel (cs.filter (fun c => c.station != w.station)) (dropped ++ [w.station])

/-- What the Caliper Unit writes at commit (R55): plan, DROPPED_FOR_FILL set, live caliper, and whether the piece is
OVERSTUFF (R53). -/
structure FillResult where
  plan : List (Nat × PlanEntry)
  dropped : List Nat
  caliper : Nat
  overstuff : Bool
deriving DecidableEq, Repr

/-- The plan entry that a kept candidate or a mandatory feed has, none for every other station (R54, R55). -/
def planEntryOf (kept : List Candidate) (i : Nat) : EffectiveAction → PlanEntry
  | .mandatory => .mandatory
  | _ =>
    match kept.find? (fun c => c.station == i) with
    | some c => c.entry
    | none => .none

/-- The candidate a station gives, if its effective action is an optional or a forced feed (R54). -/
def candidateOf (i : Nat) (e : StationEntry) : EffectiveAction → Option Candidate
  | .optional p => some { station := i, offset := e.offset, caliper := e.caliper, priority := p, entry := .optional p }
  | .forced => some { station := i, offset := e.offset, caliper := e.caliper, priority := 8, entry := .forced }
  | _ => none

/-- An empty plan: every INSERT station's entry is none (R52, R53). -/
def emptyPlan (actions : List (Nat × StationEntry × EffectiveAction)) : List (Nat × PlanEntry) :=
  actions.map (fun a => (a.1, .none))

/-- The base of the fill check (R53): the folded caliper, the envelope allowance and the nominal caliper of every
mandatory feed, held saturating. -/
def fillBase (allowance folded : Nat) (actions : List (Nat × StationEntry × EffectiveAction)) : Nat :=
  satCaliper (folded + allowance +
    (actions.map (fun a => if a.2.2 = .mandatory then a.2.1.caliper else 0)).sum)

/-- The plan and live caliper of a piece at commit (R52 to R55), from the INSERT stations in increasing index with their
effective actions. -/
def fillCheck (allowance limit folded : Nat) (diverted : Bool)
    (actions : List (Nat × StationEntry × EffectiveAction)) : FillResult :=
  if diverted then
    { plan := emptyPlan actions, dropped := [], caliper := satCaliper (folded + allowance), overstuff := false }
  else
    let base := fillBase allowance folded actions
    if limit < base then { plan := emptyPlan actions, dropped := [], caliper := base, overstuff := true }
    else
      let cs := actions.filterMap (fun a => candidateOf a.1 a.2.1 a.2.2)
      let r := dropCandidates limit base cs.length cs []
      { plan := actions.map (fun a => (a.1, planEntryOf r.1 a.1 a.2.2)), dropped := r.2,
        caliper := base + (r.1.map (·.caliper)).sum, overstuff := false }

/-- The caliper class of a live caliper with the class limits in force (R58). -/
def caliperClass (caliper : Nat) (s : State) : CaliperClass :=
  if caliper ≤ s.caliper.letterLimit then .letter
  else if caliper ≤ s.caliper.flatLimit then .flat
  else .bulk

end Sys2Proof.Machine
end

