-- ==== Sys2Proof/Machine/Flags.lean ====
section
/-! DEFINITION. The flags the part keeps from its other state: the held flag of flow control (R14 to R16), the feed
permit (R157), DRIVE_RUN (R158), and the run state with its reason (R146, R150). -/

namespace Sys2Proof.Machine

/-! ### Flow control -/

/-- Set the held flag and send RECORD_HOLD (R15). -/
def holdFlow (s : State) : State := sendSupervisor .recordHold (s.setChannel { s.channel with held := true })

/-- Clear the held flag and send RECORD_GO (R16). -/
def releaseFlow (s : State) : State := sendSupervisor .recordGo (s.setChannel { s.channel with held := false })

/-- The check after an acceptance (R15): RECORD_HOLD when it brought the count to H with the flag clear. -/
def checkHold (s : State) : State :=
  if !s.channel.held && s.queue.records.length == s.queue.high then holdFlow s else s

/-- The check after a removal (R16): RECORD_GO when the count is at or below the low mark with the flag set. -/
def checkGo (s : State) : State :=
  if s.channel.held && decide (s.queue.records.length ≤ s.queue.low) then releaseFlow s else s

/-- The check after a PROFILE load that changed a mark (R14). -/
def checkMarks (s : State) : State :=
  if !s.channel.held && decide (s.queue.high ≤ s.queue.records.length) then holdFlow s else checkGo s

/-! ### The feed permit and the run state -/

/-- The conditions of the feed permit (R157). -/
def permitConditions (s : State) : Bool :=
  s.line.state == .running && !s.line.ending && !s.queue.records.isEmpty &&
  decide (s.track.length + 2 ≤ reprintFree s) && decide (s.log.reserve ≤ logFree s)

/-- Re-evaluate the feed permit (R157): a changed value is held and sent to the SHEET_FEEDER entry, if there is one. -/
def evalPermit (s : State) : State :=
  if permitConditions s = s.line.permit then s
  else
    let s1 := s.setLine { s.line with permit := permitConditions s }
    match stationOfKind .sheetFeeder s with
    | some (_, e) => sendStation e.dst (.feedPermit (permitConditions s)) s1
    | none => s1

/-- DRIVE_RUN is on only in RUNNING and DRAINING (R158). -/
def RunState.drives : RunState → Bool
  | .running => true
  | .draining => true
  | _ => false

/-- Move the run state (R146, R157, R158): the reason becomes the one given, DRIVE_RUN follows the state and the feed
permit is re-evaluated. -/
def enterState (st : RunState) (reason : Option StopReason) (s : State) : State :=
  evalPermit (s.setLine { s.line with state := st, reason := reason, drive := st.drives })

/-- The state that a stop request asks for: PAUSED for the pauses, JAMMED for the jams (R150). -/
def StopReason.target : StopReason → RunState
  | .operator => .paused
  | .mismatch => .paused
  | .sequence => .paused
  | .sorter => .paused
  | .occupancy => .jammed
  | .accumulatorOverrun => .jammed
  | .linkDown => .jammed

/-- The run states in which a stop request changes the state: the table of R150. A cell that "does not arise" is left
unchanged. -/
def StopReason.takenIn : StopReason → RunState → Bool
  | .operator, st => st == .running || st == .draining
  | .sequence, st => st == .running
  | .mismatch, st => st == .running || st == .draining
  | .sorter, st => st == .running || st == .draining
  | .accumulatorOverrun, st => st == .running || st == .paused
  | .occupancy, st => st == .running || st == .paused || st == .draining
  | .linkDown, st => st == .running || st == .paused || st == .draining

/-- A pause or jam asked for by a block (R150). The ending flag is kept. -/
def requestStop (r : StopReason) (s : State) : State :=
  if r.takenIn s.line.state then enterState r.target (some r) s else s

end Sys2Proof.Machine
end

