-- ==== Sys2Proof/Machine/Scheme.lean ====
section
/-! DEFINITION. Matching a destination against the scheme table (R97 to R101). -/

namespace Sys2Proof.Machine

/-- The scheme entry at an index; an index above 511 names none and reads as a disabled entry. -/
def schemeAt (i : Nat) (s : State) : SchemeEntry := (s.sort.scheme[i]?).getD SchemeEntry.powerOn

/-- One pattern position against one destination position (R97). -/
def positionMatches (pattern dest : Option Nat) : Bool :=
  match pattern with
  | none => true
  | some d => dest == some d

/-- An entry matches a destination when all nine positions match (R97). -/
def SchemeEntry.matches (e : SchemeEntry) (d : Destination) : Bool :=
  (e.pattern.zip d.positions).all (fun x => positionMatches x.1 x.2)

/-- The specificity of an entry: the number of positions that name a digit (R97). -/
def SchemeEntry.specificity (e : SchemeEntry) : Nat := e.pattern.countP (·.isSome)

/-- The better of the best match so far and an entry at a higher index (R98): only a higher specificity replaces it. -/
def betterMatch (d : Destination) (best : Option (Nat × SchemeEntry)) (x : Nat × SchemeEntry) :
    Option (Nat × SchemeEntry) :=
  if x.2.enabled && x.2.matches d then
    match best with
    | none => some x
    | some b => if b.2.specificity < x.2.specificity then some x else some b
  else best

/-- The best match of a destination among the enabled entries that match it (R98). -/
def bestMatch (d : Destination) (s : State) : Option (Nat × SchemeEntry) :=
  (s.sort.scheme.toList.zipIdx.map (fun x => (x.2, x.1))).foldl (betterMatch d) none

/-- The bundle key of a destination for a key length (R100). -/
def bundleKey (k : Nat) (d : Destination) : BundleKey := d.positions.take k

/-- The scheme match of a destination (R99 to R101). -/
def schemeMatch (d : Destination) (s : State) : SchemeMatch :=
  match bestMatch d s with
  | some (i, e) => { entry := some i, group := e.group, key := bundleKey e.keyLength d, level := e.level }
  | none => { entry := none, group := 0, key := bundleKey 5 d, level := 0 }

/-- The page of an entry index (R96). -/
def pageOf (i : Nat) : Nat := i / 16

/-- A commit raises the in-use count of its match's page and the reference count of its match's group (R102, R107). -/
def raiseMatchCounts (m : SchemeMatch) (s : State) : State :=
  let s1 := match m.entry with
    | some i => putPageUse (pageOf i) (pageUseAt (pageOf i) s + 1) s
    | none => s
  putGroup m.group { groupAt m.group s1 with refs := (groupAt m.group s1).refs + 1 } s1

/-- A piece leaving the track lowers the counts its commit raised (R68, R69, R102, R107). -/
def lowerMatchCounts (m : SchemeMatch) (s : State) : State :=
  let s1 := match m.entry with
    | some i => putPageUse (pageOf i) (pageUseAt (pageOf i) s - 1) s
    | none => s
  putGroup m.group { groupAt m.group s1 with refs := (groupAt m.group s1).refs - 1 } s1

/-- The maximum class of a match: of its entry in the table, or BULK for a residual match (R99, R101). -/
def maxClassOf (m : SchemeMatch) (s : State) : CaliperClass :=
  match m.entry with
  | some i => (schemeAt i s).maxClass
  | none => .bulk

end Sys2Proof.Machine
end

