-- ==== Sys2Proof/Machine/Piece.lean ====
section
/-! DEFINITION. The piece on the track: effective modes and actions (R79, R80), divert marking (R83), results within a
window (R86, R90, R92), windows closed without a result (R87, R90, R94), commit (R66) and the insert, envelope and scan
arrivals (R81, R82, R89, R91) with the untaken rules of their commands (R88, R90, R94). -/

namespace Sys2Proof.Machine

/-! ### Modes and actions -/

/-- The contribution of a reported status (R79). -/
def StationStatus.contribution : StationStatus → StationMode
  | .ready => .normal
  | .low => .normal
  | .empty => .skip
  | .fault => .off
  | .unknown => .off
  | .absent => .off

/-- The more restrictive of the operator mode and the contribution (R79). -/
def moreRestrictive : StationMode → StationMode → StationMode
  | .off, _ => .off
  | _, .off => .off
  | .skip, _ => .skip
  | _, .skip => .skip
  | .force, _ => .force
  | .normal, m => m

/-- The effective mode of a station (R79). -/
def StationEntry.effectiveMode (e : StationEntry) : StationMode := moreRestrictive e.mode e.status.contribution

/-- The mode lets a station act: NORMAL or FORCE (R89, R91). -/
def StationMode.active : StationMode → Bool
  | .normal => true
  | .force => true
  | .skip => false
  | .off => false

/-- A record's selection for a station (R80). -/
def JobRecord.selectionFor (r : JobRecord) (i : Nat) : Option SelectionMode :=
  (r.selections.find? (fun x => x.station == i)).map (·.mode)

/-- The effective action (R80). -/
def effectiveAction : Option SelectionMode → StationMode → EffectiveAction
  | none, .force => .forced
  | none, _ => .noFeed
  | some (.optional p), .normal => .optional p
  | some (.optional p), .force => .optional p
  | some (.optional _), _ => .noFeed
  | some .mandatory, .normal => .mandatory
  | some .mandatory, .force => .mandatory
  | some .mandatory, _ => .noFeed

/-- The effective action of a station for a record, now. -/
def actionFor (r : JobRecord) (i : Nat) (e : StationEntry) : EffectiveAction :=
  effectiveAction (r.selectionFor i) e.effectiveMode

/-! ### Marks, results and closed windows -/

/-- Divert-mark a piece with a fault (R64, R83). -/
def Piece.addFault (f : FaultName) (p : Piece) : Piece := { p with diverted := true, faults := addOnce f p.faults }

/-- The live caliper after I is added, saturating (R56). -/
def Piece.addCaliper (i : Nat) (p : Piece) : Piece := { p with caliper := min Config.caliperLimit (p.caliper + i) }

/-- The live caliper after I is subtracted (R56). -/
def Piece.subCaliper (i : Nat) (p : Piece) : Piece := { p with caliper := p.caliper - i }

/-- The plan entry of a piece for a station, none where the plan lists no entry. -/
def Piece.planFor (p : Piece) (i : Nat) : PlanEntry :=
  match p.plan.find? (fun x => x.1 == i) with
  | some x => x.2
  | none => .none

/-- The open window of a piece for a station (R67). -/
def Piece.windowFor (p : Piece) (i : Nat) : Option Window := p.windows.find? (fun w => w.station == i)

/-- Open a window (R67). -/
def Piece.openWindow (w : Window) (p : Piece) : Piece := { p with windows := p.windows ++ [w] }

/-- Remove a station's window from the list (R67). -/
def Piece.closeWindow (i : Nat) (p : Piece) : Piece := { p with windows := p.windows.filter (fun w => w.station != i) }

/-- A feed result (R85). -/
inductive FeedOutcome where
  | fed
  | miss
  | double
deriving DecidableEq, Repr

/-- A feed result taken within its window, by the kind of the command (R86); `i` is the station and `cal` its I. -/
def Piece.feedResult (i cal : Nat) (kind : FeedKind) (r : FeedOutcome) (p : Piece) : Piece :=
  match r, kind with
  | .fed, _ => { p with fed := addOnce i p.fed }
  | .miss, .mandatory => p.addFault .insertMiss
  | .miss, .optional => ({ p with missed := addOnce i p.missed } : Piece).subCaliper cal
  | .double, _ => ({ p.addFault .insertDouble with fed := addOnce i p.fed } : Piece).addCaliper cal

/-- A failed output read (R94). -/
def Piece.failedRead (p : Piece) : Piece :=
  if p.job.matchRequired then { p.addFault .unverified with verification := .unverified }
  else { p with verification := .unread }

/-- A window closed without a result, by passing or by leaving: an insert station's (R87), the envelope's (R90) or the
scanner's (R94). -/
def Piece.unanswered (w : Window) (p : Piece) : Piece :=
  match w.kind with
  | .feed .mandatory => p.addFault .insertUnconfirmed
  | .feed .optional => { p with missed := addOnce w.station p.missed }
  | .envelope => p.addFault .envelopeFault
  | .scan => p.failedRead

/-- Close the windows that satisfy a test without a result, in list order (R67). -/
def Piece.expireWhere (test : Window → Bool) (p : Piece) : Piece :=
  (p.windows.filter test).foldl (fun p w => p.unanswered w)
    { p with windows := p.windows.filter (fun w => !test w) }

/-- The windows a piece in slot `n` has passed close by passing (R67). -/
def Piece.passWindows (n : Nat) (p : Piece) : Piece := p.expireWhere (fun w => decide (w.closing < n))

/-- Every window still open closes by leaving (R68). -/
def Piece.leaveWindows (p : Piece) : Piece := p.expireWhere (fun _ => true)

/-! ### Finding the piece of a report (R63, R85) -/

/-- The kinds of an INSERT station's windows (R85, R88). -/
def feedWindows : List WindowKind := [.feed .mandatory, .feed .optional]

/-- A piece holds an open window for a station, of one of the kinds given. -/
def Piece.awaits (kinds : List WindowKind) (i : Nat) (p : Piece) : Bool :=
  (p.windowFor i).any fun w => kinds.contains w.kind

/-- The slot of the piece with a tag and an open window for a station, of one of the kinds given: those of FEED_CMD and
FEED_RESULT (R85, R88), of ENV_CMD and ENV_RESULT (R90), or of SCAN_ARM and ADDR_SCAN (R92, R94). At most one piece has a tag
(R63). -/
def slotOfWindow (kinds : List WindowKind) (i tag : Nat) (s : State) : Option Nat :=
  (List.range s.track.slots.length).find? fun n =>
    match pieceAt n s with
    | some p => p.tag == tag && p.awaits kinds i
    | none => false

/-- Change the piece in a slot; an empty slot is left as it is. -/
def updatePiece (n : Nat) (f : Piece → Piece) (s : State) : State :=
  match pieceAt n s with
  | some p => putSlot n (some (f p)) s
  | none => s

/-- Take a feed result within its window (R86): the window closes by result. -/
def takeFeed (i cal : Nat) (r : FeedOutcome) (p : Piece) : Piece :=
  match p.windowFor i with
  | some { kind := .feed k, .. } => (p.closeWindow i).feedResult i cal k r
  | _ => p

/-- A feed result or an untaken FEED_CMD for a tag at a station: acts on the piece whose feed window is open, if any. -/
def feedOutcomeAt (i cal tag : Nat) (r : FeedOutcome) (s : State) : State :=
  match slotOfWindow feedWindows i tag s with
  | some n => updatePiece n (takeFeed i cal r) s
  | none => s

/-- An ENV_FAULT for a tag while its ENVELOPE window is open (R90). -/
def envelopeFaultAt (i tag : Nat) (s : State) : State :=
  match slotOfWindow [.envelope] i tag s with
  | some n => updatePiece n (fun p => (p.closeWindow i).addFault .envelopeFault) s
  | none => s

/-- A failed read for a tag while its SCAN_OUT window is open (R94). -/
def failedReadAt (i tag : Nat) (s : State) : State :=
  match slotOfWindow [.scan] i tag s with
  | some n => updatePiece n (fun p => (p.closeWindow i).failedRead) s
  | none => s

/-! ### Untaken station commands -/

/-- The untaken rule of FEED_CMD (R88): the station ABSENT, and a MISS while the window is open. The MISS acts by the kind kept
with the window, not by the kind byte of the frame that returned; they differ only for a frame that outlived its run and meets a
window of the same tag in a later one (the model's choice, log entry 42). -/
def feedUntaken (dst : Node) (tag : Nat) (s : State) : State :=
  match stationOfNode dst.toNat s with
  | some (i, e) => feedOutcomeAt i e.caliper tag .miss (markAbsent i e s)
  | none => s

/-- The untaken rule of ENV_CMD (R90). -/
def envUntaken (dst : Node) (tag : Nat) (s : State) : State :=
  match stationOfNode dst.toNat s with
  | some (i, e) => envelopeFaultAt i tag (markAbsent i e s)
  | none => s

/-- The untaken rule of SCAN_ARM (R94). -/
def armUntaken (dst : Node) (tag : Nat) (s : State) : State :=
  match stationOfNode dst.toNat s with
  | some (i, e) => failedReadAt i tag (markAbsent i e s)
  | none => s

/-! ### Arrivals (R67) -/

/-- The window an arrival at a station opens (R67). -/
def StationEntry.windowOf (e : StationEntry) (i : Nat) (k : WindowKind) : Window :=
  { station := i, closing := e.offset + e.window, kind := k }

/-- Make a feed (R84): the window opens and FEED_CMD is queued; a full own-frame queue hands it back at once (R88). -/
def sendFeed (i n : Nat) (e : StationEntry) (p : Piece) (k : FeedKind) (s : State) : State :=
  let s1 := putSlot n (some (p.openWindow (e.windowOf i (.feed k)))) s
  if ownFull s1 then feedUntaken e.dst p.tag s1 else pushOwn e.dst (.feedCmd p.tag k) s1

/-- A forced feed decided at arrival against the live caliper (R57, R82). -/
def forcedAtArrival (i n : Nat) (e : StationEntry) (p : Piece) (s : State) : State :=
  if p.caliper + e.caliper ≤ s.caliper.limit then sendFeed i n e (p.addCaliper e.caliper) .optional s
  else putSlot n (some { p with dropped := addOnce i p.dropped }) s

/-- The arrival of an unmarked piece at an INSERT station (R81, R82). -/
def insertArrival (i n : Nat) (e : StationEntry) (p : Piece) (s : State) : State :=
  match p.planFor i, actionFor p.job i e with
  | .mandatory, .mandatory => sendFeed i n e p .mandatory s
  | .mandatory, _ => putSlot n (some (p.addFault .insertWithheld)) s
  | .optional _, .optional _ => sendFeed i n e p .optional s
  | .optional _, _ =>
    putSlot n (some (({ p with withheld := addOnce i p.withheld } : Piece).subCaliper e.caliper)) s
  | .forced, .forced => sendFeed i n e p .optional s
  | .forced, _ => putSlot n (some (p.subCaliper e.caliper)) s
  | .none, .forced => if i ∈ p.dropped then s else forcedAtArrival i n e p s
  | .none, _ => s

/-- The arrival of an unmarked piece at the ENVELOPE station (R89). -/
def envelopeArrival (i n : Nat) (e : StationEntry) (p : Piece) (s : State) : State :=
  if e.effectiveMode.active then
    let s1 := putSlot n (some (p.openWindow (e.windowOf i .envelope))) s
    if ownFull s1 then envUntaken e.dst p.tag s1 else pushOwn e.dst (.envCmd p.tag) s1
  else putSlot n (some (p.addFault .envelopeFault)) s

/-- The arrival of an unmarked piece at the SCAN_OUT station (R91). -/
def scanArrival (i n : Nat) (e : StationEntry) (p : Piece) (s : State) : State :=
  if e.effectiveMode.active then
    let s1 := putSlot n (some (p.openWindow (e.windowOf i .scan))) s
    if ownFull s1 then armUntaken e.dst p.tag s1 else pushOwn e.dst (.scanArm p.tag) s1
  else putSlot n (some p.failedRead) s

/-- The arrival of the piece in slot `n` at a station (R67): nothing for a divert-marked piece (R83), an empty slot, or a
station that is no INSERT, ENVELOPE or SCAN_OUT. -/
def arriveAt (n i : Nat) (s : State) : State :=
  match pieceAt n s, stationAt i s with
  | some p, some e =>
    if p.diverted then s
    else
      match e.kind with
      | .insert => insertArrival i n e p s
      | .envelope => envelopeArrival i n e p s
      | .scanOut => scanArrival i n e p s
      | _ => s
  | _, _ => s

/-- The stations at a slot in the order of their arrivals: INSERT in increasing index, ENVELOPE, SCAN_OUT (R67). -/
def arrivalOrder (n : Nat) (s : State) : List Nat :=
  ((stationsWhere (fun e => e.kind == .insert && e.offset == n) s) ++
   (stationsWhere (fun e => e.kind == .envelope && e.offset == n) s) ++
   (stationsWhere (fun e => e.kind == .scanOut && e.offset == n) s)).map (·.1)

/-- The arrivals of the piece in slot `n` (step 5 of R65). -/
def slotArrivals (n : Nat) (s : State) : State :=
  if (pieceAt n s).isSome then (arrivalOrder n s).foldl (fun s i => arriveAt n i s) s else s

/-- The arrivals of an advance, slot by slot (step 5 of R65; log entry 12). -/
def arrivals (s : State) : State :=
  (List.range s.track.slots.length).foldl (fun s n => slotArrivals n s) s

/-! ### Commit (R66) -/

/-- The INSERT stations in increasing index with their effective actions for a record (step 3 of R66). -/
def insertActions (r : JobRecord) (s : State) : List (Nat × StationEntry × EffectiveAction) :=
  (stationsWhere (fun e => e.kind == .insert) s).map (fun x => (x.1, x.2, actionFor r x.1 x.2))

/-- A MANDATORY selection whose effective action is no feed (R66, R80). -/
def withheldMandatory (r : JobRecord) (a : Nat × StationEntry × EffectiveAction) : Bool :=
  r.selectionFor a.1 == some .mandatory && a.2.2 == .noFeed

/-- An OPTIONAL selection whose effective action is no feed (R66, R80). -/
def withheldOptional (r : JobRecord) (a : Nat × StationEntry × EffectiveAction) : Bool :=
  match r.selectionFor a.1 with
  | some (.optional _) => a.2.2 == .noFeed
  | _ => false

/-- The piece record that a commit builds from a collation (steps 1 to 5 of R66). -/
def buildPiece (c : Collation) (s : State) : Piece :=
  let actions := insertActions c.job s
  let held := actions.any (withheldMandatory c.job)
  let faults := if held then addOnce .insertWithheld c.faults else c.faults
  let marked := !c.faults.isEmpty || held
  let fill := fillCheck s.caliper.allowance s.caliper.limit c.folded marked actions
  { serial := s.track.nextSerial, job := c.job, collationFaults := c.faults,
    diverted := marked || fill.overstuff,
    faults := if fill.overstuff then addOnce .overstuff faults else faults,
    caliper := fill.caliper, plan := fill.plan, dropped := fill.dropped,
    withheld := (actions.filter (withheldOptional c.job)).map (·.1),
    missed := [], fed := [], saturated := c.pieceSaturated, scheme := schemeMatch c.job.dest s, windows := [],
    output := .none, verification := .none }

/-- The commit of a collation at slot 0 (R66): the piece takes the next serial, and its match raises the counts of its
page and group. -/
def commit (c : Collation) (s : State) : State :=
  let p := buildPiece c s
  raiseMatchCounts p.scheme
    (s.setTrack { s.track with
      slots := s.track.slots.set 0 (some p), nextSerial := (s.track.nextSerial + 1) % 65536 })

end Sys2Proof.Machine
end

