-- ==== Sys2Proof/Machine/Reconcile.lean ====
section
/-! DEFINITION. Reconciliation: writing the audit log (R141), the Reprint List (R127, R128), the run counters (R133),
dispositions (R124, R125), the bundle close (R116) and the drain-completion check (R152). -/

namespace Sys2Proof.Machine

/-! ### Writing the log (R141) -/

/-- Write one record at the newest end with the current log serial, which rises by one, modulo 65,536 (R136). -/
def appendLog (b : LogBody) (s : State) : State :=
  s.setLog { s.log with
    records := s.log.records ++ [⟨s.log.serial, b⟩], serial := (s.log.serial + 1) % 65536 }

/-- Set the lost count. -/
def setLost (n : Nat) (s : State) : State := s.setLog { s.log with lost := n }

/-- A write request at the Audit Log (R141). With the lost count 0 the record is written if it fits, and else counted as
the first loss, with the RESERVE alert. With a lost count above 0 an OVERFLOW marker and the record are written if both
fit, and else the loss is counted. A write changes the free count, so the feed permit is re-evaluated (R144). -/
def writeLog (b : LogBody) (s : State) : State :=
  if s.log.lost = 0 then
    if b.length ≤ logFree s then evalPermit (appendLog b s)
    else raiseAlert .logOverflow (setLost 1 s)
  else if b.length + 2 ≤ logFree s then
    evalPermit (appendLog b (setLost 0 (appendLog (.overflow s.log.lost) s)))
  else setLost (min 65535 (s.log.lost + 1)) s

/-! ### The Reprint List (R127, R128) -/

/-- Append a new OPEN entry (R127). The list never holds more than 256 entries. -/
def createEntry (seq inc : Nat) (reason : Reason) (s : State) : State :=
  if s.reprints.length < Config.reprintCapacity then
    s.setReprints (s.reprints ++ [{ seq := seq, inc := inc, reason := reason, state := .open }])
  else s

/-- The entry of a sequence (R6). -/
def entryOf (seq : Nat) (s : State) : Option ReprintEntry := s.reprints.find? (fun e => e.seq == seq)

/-- Change the first entry that satisfies a test. -/
def updateEntry (test : ReprintEntry → Bool) (change : ReprintEntry → ReprintEntry) :
    List ReprintEntry → List ReprintEntry
  | [] => []
  | e :: rest => if test e then change e :: rest else e :: updateEntry test change rest

/-- The QUEUED entry of a sequence. -/
def ReprintEntry.isQueued (seq : Nat) (e : ReprintEntry) : Bool := e.seq == seq && e.state == .queued

/-- An accepted reprint record moves its entry to QUEUED (R7). -/
def queueEntry (seq : Nat) (s : State) : State :=
  s.setReprints (updateEntry (fun e => e.seq == seq) (fun e => { e with state := .queued }) s.reprints)

/-- The QUEUED entry of a sequence returns to OPEN in its place, with a new reason where one is given (R128). -/
def reopenEntry (seq : Nat) (reason : Option Reason) (s : State) : State :=
  s.setReprints (updateEntry (ReprintEntry.isQueued seq)
    (fun e => { e with state := .open, reason := reason.getD e.reason }) s.reprints)

/-- The QUEUED entry of a sequence is removed as a collation opens on its record (R28); the change of the free count
re-evaluates the feed permit (R127). -/
def removeEntry (seq : Nat) (s : State) : State :=
  evalPermit (s.setReprints (s.reprints.eraseP (ReprintEntry.isQueued seq)))

/-- What a disposition does to the Reprint List (R123, R124). -/
inductive EntryEffect where
  | none
  | create (seq inc : Nat) (reason : Reason)
  | reopen (seq : Nat) (reason : Option Reason)
deriving DecidableEq, Repr

/-- Carry out a disposition's effect on the Reprint List. -/
def applyEntry : EntryEffect → State → State
  | .none, s => s
  | .create seq inc reason, s => createEntry seq inc reason s
  | .reopen seq reason, s => reopenEntry seq reason s

/-! ### Run counters and dispositions (R124, R125, R133) -/

/-- One more, saturating at 16,777,215 (R133). -/
def countUp (n : Nat) : Nat := min Config.counterLimit (n + 1)

/-- The counters after a disposition (R133). -/
def Counters.bump (d : Disposition) (c : Counters) : Counters :=
  match d with
  | .sorted => { c with sorted := countUp c.sorted }
  | .handFinish => { c with handFinish := countUp c.handFinish }
  | .handSort => { c with handSort := countUp c.handSort }
  | .diverted => { c with diverted := countUp c.diverted }
  | .cleared => { c with cleared := countUp c.cleared }
  | .skipped => { c with skipped := countUp c.skipped }
  | .aborted => { c with aborted := countUp c.aborted }
  | .lost => { c with lost := countUp c.lost }
  | .unfed => { c with unfed := countUp c.unfed }

/-- Count a disposition at Line Control. -/
def countDisposition (d : Disposition) (s : State) : State :=
  s.setLine { s.line with counters := s.line.counters.bump d }

/-- The reason of a disposition (R125): the lowest-numbered fault of the fault set, or the disposition itself. -/
def reasonOf (faults : List FaultName) (d : Disposition) : Reason :=
  match FaultName.all.find? (fun f => faults.contains f) with
  | some f => .fault f
  | none => .disposition d

/-- A disposition (R124): the counter, the reprint entry, the log record, and the feed permit where the number of
entries changed. The drain-completion check of its last step is `drainCheck`, made where the disposing rule has it. -/
def dispose (d : Disposition) (e : EntryEffect) (b : LogBody) (s : State) : State :=
  let s1 := writeLog b (applyEntry e (countDisposition d s))
  if s1.reprints.length = s.reprints.length then s1 else evalPermit s1

/-- The station sets of the dropped part: the union of DROPPED_FOR_FILL and WITHHELD (R138). -/
def unionStations (dropped withheld : List Nat) : List Nat :=
  dropped ++ withheld.filter (fun i => !dropped.contains i)

/-- The PIECE record of a piece from the track or the exit (R124, R137). `cls` is given for a classed piece. -/
def Piece.logOf (d : Disposition) (cls : Option CaliperClass) (p : Piece) : PieceLog :=
  { seq := p.job.seq, inc := p.job.inc, disposition := d, reason := reasonOf p.faults d, faults := p.faults,
    saturated := p.saturated, serial := some p.serial, caliper := p.caliper, verification := p.verification,
    output := p.output,
    scheme := some { entry := p.scheme.entry, group := p.scheme.group, level := p.scheme.level },
    caliperClass := cls, bin := none, fed := p.fed, stations := unionStations p.dropped p.withheld, place := none }

/-- The PIECE record of an in-flight entry, for SORTED and LOST (R124, R137). -/
def Flight.logOf (d : Disposition) (bin : Nat) (place : Option (Nat × Nat)) (f : Flight) : PieceLog :=
  { seq := f.seq, inc := f.inc, disposition := d, reason := .disposition d, faults := [],
    saturated := f.saturated, serial := some f.serial, caliper := f.caliper, verification := f.verification,
    output := f.output, scheme := some { entry := f.entry, group := f.group, level := f.level },
    caliperClass := some f.caliperClass, bin := some bin, fed := f.fed,
    stations := unionStations f.dropped f.withheld, place := place }

/-- The sum of the readings of a sheet list (R35, R51). -/
def Collation.readingSum (c : Collation) : Nat := (c.sheets.map (·.reading)).sum

/-- The SATURATED note of a collation disposed from a pocket (R124). -/
def Collation.saturated (c : Collation) : Bool :=
  c.sheets.any (·.saturated) || decide (Config.caliperLimit < c.readingSum)

/-- The PIECE record of a collation disposed from a pocket (R124, R137). -/
def Collation.logOf (d : Disposition) (c : Collation) : PieceLog :=
  { seq := c.job.seq, inc := c.job.inc, disposition := d, reason := reasonOf c.faults d, faults := c.faults,
    saturated := c.saturated, serial := none, caliper := min Config.caliperLimit c.readingSum, verification := .none,
    output := .none, scheme := none, caliperClass := none, bin := none, fed := [], stations := [], place := none }

/-- The PIECE record of a record skipped from the queue (R124, R137). -/
def JobRecord.logOf (d : Disposition) (r : JobRecord) : PieceLog :=
  { seq := r.seq, inc := r.inc, disposition := d, reason := .disposition d, faults := [], saturated := false,
    serial := none, caliper := 0, verification := .none, output := .none, scheme := none, caliperClass := none,
    bin := none, fed := [], stations := [], place := none }

/-- Dispose a piece from the track or the exit; DIVERTED, CLEARED and ABORTED create an entry, HAND_SORT none (R123). -/
def disposePiece (d : Disposition) (cls : Option CaliperClass) (p : Piece) (s : State) : State :=
  dispose d (if d = .handSort then .none else .create p.job.seq p.job.inc (reasonOf p.faults d))
    (.piece (p.logOf d cls)) s

/-- Dispose a flight SORTED or LOST: no entry (R123). -/
def disposeFlight (d : Disposition) (bin : Nat) (place : Option (Nat × Nat)) (f : Flight) (s : State) : State :=
  dispose d .none (.piece (f.logOf d bin place)) s

/-- Dispose a collation from a pocket: HAND_FINISH creates no entry, CLEARED and ABORTED create one (R123). -/
def disposeCollation (d : Disposition) (c : Collation) (s : State) : State :=
  dispose d (if d = .handFinish then .none else .create c.job.seq c.job.inc (reasonOf c.faults d))
    (.piece (c.logOf d)) s

/-! ### The bundle close (R116) -/

/-- The group a bin's bundles are judged with: the bin's group, or the power-on values when it has none, which no bundle
of a reachable state meets (R108; log entry 16). -/
def judgingGroup (b : Nat) (s : State) : Group :=
  match groupOfBin b s with
  | some g => groupAt g s
  | none => Group.powerOn

/-- The BUNDLE record of a closing bundle (R116): a count of at least Q keeps the level it carries, a smaller count takes
the group's demote level and the DEMOTED note. -/
def bundleLog (b : Nat) (cause : CloseCause) (u : Bundle) (s : State) : BundleLog :=
  let g := judgingGroup b s
  { bin := b, group := (groupOfBin b s).getD 0, key := u.key, count := u.count,
    level := if g.minimum ≤ u.count then u.level else g.demote, cause := cause, entry := u.entry,
    first := u.first, last := u.last, demoted := decide (u.count < g.minimum), continued := u.continued }

/-- The untaken rule of BUNDLE_MARK (R116): SORTER with MARK_UNTAKEN and the bin. -/
def markUntaken (b : Nat) (s : State) : State := raiseAlert (.markUntaken b) s

/-- A node address of the bin table as a destination. -/
def nodeOf (n : Nat) : Node := BitVec.ofNat 6 n

/-- Send BUNDLE_MARK with the count to the bin's node (R116). -/
def sendBundleMark (b count : Nat) (s : State) : State :=
  match (binAt b s).node with
  | some n => if ownFull s then markUntaken b s else pushOwn (nodeOf n) (.bundleMark count) s
  | none => s

/-- Close a bin's open bundle for a cause (R116): the BUNDLE record, the tray bundle count, the bundle empty, and
BUNDLE_MARK for the cause FULL. A bin without an open bundle is left as it is. -/
def closeBundle (b : Nat) (cause : CloseCause) (s : State) : State :=
  match (binAt b s).bundle with
  | none => s
  | some u =>
    let s1 := writeLog (.bundle (bundleLog b cause u s)) s
    let s2 := putBin b { binAt b s1 with bundle := none, trayBundles := (binAt b s1).trayBundles + 1 } s1
    if cause = .full then sendBundleMark b u.count s2 else s2

/-- The BIN_OFF close of R111: an OFF bin with an empty in-flight list closes its open bundle. -/
def closeIfOff (b : Nat) (s : State) : State :=
  if (binAt b s).state = .off && (binAt b s).flights.isEmpty then closeBundle b .binOff s else s

/-! ### Drain completion (R152) -/

/-- Nothing is left on the line: pockets EMPTY, no piece on the track, every in-flight list empty (R152). -/
def drained (s : State) : Bool :=
  s.collation.collecting == .empty && s.collation.staging == none && s.track.slots.all (·.isNone) &&
  s.sort.bins.toList.all (·.flights.isEmpty)

/-- Drain completion (R152): bundles close RUN_END in bin order, the RUN CLOSED record is asked for, the state becomes
CLOSED and RUN is raised with DRAIN_COMPLETE. -/
def completeDrain (s : State) : State :=
  let s1 := (List.range 32).foldl (fun s b => closeBundle b .runEnd s) s
  let s2 := writeLog (.run .closed s1.line.runId (some s1.line.counters)) s1
  raiseAlert .drainComplete (enterState .closed none s2)

/-- The drain-completion check, made while the state is DRAINING (R152). -/
def drainCheck (s : State) : State :=
  if s.line.state == .draining && drained s then completeDrain s else s

/-! ### The record queue's removals (R10, R16) -/

/-- Remove the head record (R10 to R12): the count falls by one, the check of R16 is made, and a queue that is now empty
re-evaluates the feed permit (R157). -/
def removeHead (s : State) : State :=
  let s1 := checkGo (s.setQueue { s.queue with records := s.queue.records.tail })
  if s1.queue.records.isEmpty then evalPermit s1 else s1

/-- One record of the queue is removed and disposed UNFED; the QUEUED entry of a reprint record returns to OPEN with its
reason kept (R12). -/
def unfedRecord (r : JobRecord) (s : State) : State :=
  dispose .unfed (if r.reprint then .reopen r.seq none else .none) (.unfed r.seq r.inc) (removeHead s)

/-- The queue is emptied from head to tail, each record UNFED, and the feed permit re-evaluated after the last (R12). -/
def unfedAll (s : State) : State :=
  evalPermit (s.queue.records.foldl (fun s r => unfedRecord r s) s)

end Sys2Proof.Machine
end

