-- ==== Sys2Proof/Machine/Sorting.lean ====
section
/-! DEFINITION. The exit and the sorter: the exit divert (R126), bin selection (R112), landing and bundles (R114, R115),
sweeps (R117), FULL (R118), timeouts (R119), untaken selections (R120), BIN_MODE (R111) and ABORT at the bins (R121). -/

namespace Sys2Proof.Machine

/-! ### The exit divert (R126) -/

/-- The untaken rule of DIVERT_CMD (R126): the station ABSENT, SORTER with DIVERT_UNTAKEN, and a SORTER pause. -/
def divertUntaken (dst : Node) (serial : Nat) (s : State) : State :=
  requestStop .sorter (raiseAlert (.divertUntaken serial) (nodeAbsent dst s))

/-- Keep the serial of a DIVERT_CMD that is sent, in place of an older one with the same tag. -/
def noteDivert (serial : Nat) (s : State) : State :=
  s.setTrack { s.track with
    divertSerials := serial :: s.track.divertSerials.filter (fun x => x % 256 != serial % 256) }

/-- A piece leaves by the exit divert (R126): DIVERT_CMD with its tag is sent to the EXIT entry, if the table holds one, and the
piece is disposed, with the drain-completion check of that disposition (R124). A DIVERT_CMD that a full own-frame queue drops is
handed back once the disposition is made, which then stands (R126, R163). -/
def divertPiece (d : Disposition) (cls : Option CaliperClass) (p : Piece) (s : State) : State :=
  let disposed := fun t => drainCheck (disposePiece d cls p t)
  match stationOfKind .exit s with
  | some (_, e) =>
    if ownFull s then divertUntaken e.dst p.serial (disposed s)
    else disposed (pushOwn e.dst (.divertCmd p.tag) (noteDivert p.serial s))
  | none => disposed s

/-! ### Flights that fail (R119, R120) -/

/-- Remove a flight from a bin's list, wherever it stands, and lower the committed count (R119, R120). -/
def dropFlight (b : Nat) (f : Flight) (s : State) : State :=
  putBin b { binAt b s with
    flights := (binAt b s).flights.erase f, committed := (binAt b s).committed - 1 } s

/-- The untaken rule of BIN_SELECT for a bin (R120): the bin OFF, the flight with the tag LOST, SORTER with SELECT_UNTAKEN,
the BIN_OFF close and the drain-completion check. The alert is raised without such a flight too (the model's reading, log
entry 45). -/
def selectUntaken (b tag : Nat) (s : State) : State :=
  let s1 := putBin b { binAt b s with state := .off } s
  let s2 := match (binAt b s1).flights.find? (fun f => f.tag == tag) with
    | some f => disposeFlight .lost b none f (dropFlight b f s1)
    | none => s1
  drainCheck (closeIfOff b (raiseAlert (.selectUntaken b) s2))

/-- An entry has timed out: its selection pitch lies at least the sorter window behind, modulo 256 (R119). -/
def timedOut (s : State) (f : Flight) : Bool :=
  decide (s.sort.window ≤ (s.track.pitch + 256 - f.pitch % 256) % 256)

/-- One timed-out flight (R119): removed and LOST, SORTER with TIMEOUT, a SORTER pause asked for, the BIN_OFF close and
the drain-completion check. -/
def timeoutFlight (b : Nat) (f : Flight) (s : State) : State :=
  let s1 := disposeFlight .lost b none f (dropFlight b f s)
  drainCheck (closeIfOff b (requestStop .sorter (raiseAlert (.timeout b) s1)))

/-- The examination of one bin's in-flight entries (R119). -/
def timeoutBin (b : Nat) (s : State) : State :=
  ((binAt b s).flights.filter (timedOut s)).foldl (fun s f => timeoutFlight b f s) s

/-- The examination of every in-flight entry of every bin against the pitch number (R119). R119 gives no order among the bins;
that they are taken in index order, each list from head to tail, is the model's choice (log entry 40). -/
def sorterTimeouts (s : State) : State := (List.range 32).foldl (fun s b => timeoutBin b s) s

/-! ### Selection (R112) -/

/-- A bin that can take a piece: OPEN, committed count below the capacity, fewer than 8 flights (R112). -/
def Bin.accepts (x : Bin) : Bool :=
  x.state == .open && decide (x.committed < x.capacity.getD 0) && decide (x.flights.length < Config.flightCapacity)

/-- The first bin of a group's chain that can take a piece (R112). -/
def searchChain (g : Nat) (s : State) : Option Nat := (groupAt g s).chain.find? (fun b => (binAt b s).accepts)

/-- The in-flight entry of a piece selected at a pitch number, with the group it goes to and its class (R109, R112). -/
def Piece.flight (p : Piece) (group pitch : Nat) (cls : CaliperClass) : Flight :=
  { serial := p.serial, seq := p.job.seq, inc := p.job.inc, key := p.scheme.key, entry := p.scheme.entry,
    level := p.scheme.level, pitch := pitch, group := group, caliperClass := cls, caliper := p.caliper,
    saturated := p.saturated, fed := p.fed, dropped := p.dropped, withheld := p.withheld, output := p.output,
    verification := p.verification }

/-- A bin after a selection: the entry at the tail, the committed count raised, FULL_WAIT at the capacity (R112). -/
def Bin.select (f : Flight) (x : Bin) : Bin :=
  { x with
    flights := x.flights ++ [f], committed := x.committed + 1,
    state := if x.capacity = some (x.committed + 1) then .fullWait else x.state }

/-- Send a piece to a bin (step 5 of R112). The whole selection is made before a BIN_SELECT dropped for a full own-frame
queue acts (R120, R163; log entry 13). -/
def selectInto (b : Nat) (f : Flight) (s : State) : State :=
  let s1 := putBin b ((binAt b s).select f) s
  match (binAt b s).node with
  | some n => if ownFull s1 then selectUntaken b f.tag s1 else pushOwn (nodeOf n) (.binSelect f.tag) s1
  | none => s1

/-- The selection for a piece that is not divert-marked (R112). The notice of NO_BIN follows the exit divert, a DIVERT_CMD
dropped there included (log entry 29). -/
def selectBin (p : Piece) (s : State) : State :=
  let cls := caliperClass p.caliper s
  let g := if (maxClassOf p.scheme s).code < cls.code then 0 else p.scheme.group
  match searchChain g s with
  | some b => selectInto b (p.flight g s.track.pitch cls) s
  | none =>
    match searchChain 0 s with
    | some b => selectInto b (p.flight 0 s.track.pitch cls) s
    | none =>
      let q := { p with scheme := { p.scheme with group := g } }
      raiseAlert (.noBin g) (divertPiece .handSort (some cls) q s)

/-- The exit handling of a piece that has left the track (step 4 of R68). -/
def exitPiece (p : Piece) (s : State) : State :=
  if p.diverted then divertPiece .diverted none p s
  else selectBin p s

/-- The piece in slot L−1 leaves the track (R68): its windows close by leaving, its slot empties, the counts of its match
fall, and the exit handling follows. -/
def exitSlot (s : State) : State :=
  let n := s.track.slots.length - 1
  match pieceAt n s with
  | some p =>
    let q := p.leaveWindows
    exitPiece q (lowerMatchCounts q.scheme (putSlot n none s))
  | none => s

/-! ### Landing and bundles (R114, R115) -/

/-- A bin after a landing piece has joined its open bundle (R115). -/
def Bin.join (f : Flight) (x : Bin) : Bin :=
  match x.bundle with
  | none =>
    { x with
      bundle := some
        { key := f.key, count := 1, first := f.seq, last := f.seq, entry := f.entry, level := f.level,
          continued := x.previousKey == some f.key }
      previousKey := none }
  | some u => { x with bundle := some { u with count := u.count + 1, last := f.seq } }

/-- The bundle part of a landed piece's record: the first sequence of its bundle and its position (R114). -/
def Bin.place (x : Bin) : Option (Nat × Nat) := x.bundle.map (fun u => (u.first, u.count))

/-- The open bundle's key differs from a landing piece's (R100, R114). -/
def Bin.breaks (f : Flight) (x : Bin) : Bool :=
  match x.bundle with
  | some u => u.key != f.key
  | none => false

/-- The open bundle has reached the bundle target of the bin's group (R114). -/
def bundleFull (b : Nat) (s : State) : Bool :=
  match (binAt b s).bundle, groupOfBin b s with
  | some u, some g => decide ((groupAt g s).target ≤ u.count)
  | _, _ => false

/-- A LANDED event (R114). -/
def landedAt (b : Nat) (s : State) : State :=
  match (binAt b s).flights with
  | [] => raiseAlert (.unexpectedLanding b) s
  | f :: rest =>
    let s1 := putBin b { binAt b s with flights := rest, landed := (binAt b s).landed + 1 } s
    let s2 := if (binAt b s1).breaks f then closeBundle b .keyBreak s1 else s1
    let s3 := putBin b ((binAt b s2).join f) s2
    let s4 := disposeFlight .sorted b (binAt b s3).place f s3
    let s5 := if bundleFull b s4 then closeBundle b .full s4 else s4
    drainCheck (closeIfOff b s5)

/-- The state of a bin after a sweep (step 4 of R117). -/
def Bin.reopen (x : Bin) : BinState :=
  match x.state with
  | .fullWait => if x.committed < x.capacity.getD 0 then .open else .fullWait
  | st => st

/-- A SWEPT event (R117). -/
def sweptAt (b : Nat) (s : State) : State :=
  let key := (binAt b s).bundle.map (·.key)
  let s1 := closeBundle b .tray s
  let s2 := putBin b { binAt b s1 with previousKey := key } s1
  let s3 := writeLog (.tray b (binAt b s2).landed (binAt b s2).trayBundles) s2
  let x : Bin := { binAt b s3 with landed := 0, committed := (binAt b s3).flights.length, trayBundles := 0 }
  putBin b { x with state := x.reopen } s3

/-- A FULL event: an OPEN bin becomes FULL_WAIT (R118). -/
def fullAt (b : Nat) (s : State) : State :=
  if (binAt b s).state = .open then putBin b { binAt b s with state := .fullWait } s else s

/-! ### BIN_MODE and ABORT (R111, R121) -/

/-- BIN_MODE ON (R111). -/
def binOn (b : Nat) (s : State) : State :=
  putBin b { binAt b s with
    state := if (binAt b s).capacity = some (binAt b s).committed then .fullWait else .open } s

/-- BIN_MODE OFF (R111). -/
def binOff (b : Nat) (s : State) : State := closeIfOff b (putBin b { binAt b s with state := .off } s)

/-- ABORT at one bin (R121): every flight from head to tail LOST, then the open bundle closed with cause ABORT. -/
def abortBin (b : Nat) (s : State) : State :=
  closeBundle b .abort
    ((binAt b s).flights.foldl (fun s f => disposeFlight .lost b none f (dropFlight b f s)) s)

/-- ABORT at the bins, in index order (R121). -/
def abortBins (s : State) : State := (List.range 32).foldl (fun s b => abortBin b s) s

end Sys2Proof.Machine
end

