-- ==== Sys2Proof/Machine/Collation.lean ====
section
/-! DEFINITION. Sheet collation (02): the SHEET_ACTION and its untaken rule (R22, R23), strays, the reserve gate and
overruns (R26, R27, R29, R37), opening and filling a collation (R28, R30 to R34), hand-finish (R35), the pockets (R36,
R38 to R40). -/

namespace Sys2Proof.Machine

/-! ### The scan (R21) -/

/-- A sheet scan after R21's handling: `read` holds sequence, incarnation, page index and page count of an OK read. -/
structure Scan where
  serial : Nat
  stock : Nat
  read : Option (Nat × Nat × Nat × Nat)
  caliper : Nat
deriving DecidableEq, Repr

/-- A page index or page count in 1..64 (R21). -/
def pageInRange (n : Nat) : Bool := decide (1 ≤ n) && decide (n ≤ 64)

/-- The scan of a frame (R21): an OK read with a page index or page count of 0 or above 64 is NO_READ, and a reading above
4,095 µm is taken as 4,095 µm. -/
def scanOf (r : RawScan) : Scan :=
  { serial := r.serial.toNat, stock := r.stock.toNat % 4,
    read :=
      if !r.stock.msb && pageInRange r.page.toNat && pageInRange r.pages.toNat then
        some (r.seq.toNat, r.inc.toNat, r.page.toNat, r.pages.toNat)
      else none,
    caliper := min 4095 r.caliper.toNat }

/-! ### SHEET_ACTION (R22, R23) -/

/-- A collation with a fault added; a fault already present is not added twice (R24). -/
def Collation.addFault (f : FaultName) (c : Collation) : Collation := { c with faults := addOnce f c.faults }

/-- The collation is of a sequence and incarnation. -/
def Collation.isOf (seq inc : Nat) (c : Collation) : Bool := c.job.seq == seq && c.job.inc == inc

/-- Write the collecting pocket. -/
def setCollecting (x : Collecting) (s : State) : State := s.setCollation { s.collation with collecting := x }

/-- Write the staging pocket. -/
def setStaging (x : Option Collation) (s : State) : State := s.setCollation { s.collation with staging := x }

/-- The slot of the piece of a sequence and incarnation on the track (R23). -/
def slotOfRecord (seq inc : Nat) (s : State) : Option Nat :=
  (List.range s.track.slots.length).find? fun n =>
    match pieceAt n s with
    | some p => p.job.seq == seq && p.job.inc == inc
    | none => false

/-- MISSING_PAGE added to a piece's collation faults, with its divert mark (R23). -/
def Piece.missPage (p : Piece) : Piece :=
  { p.addFault .missingPage with collationFaults := addOnce .missingPage p.collationFaults }

/-- The piece of a sequence and incarnation on the track, if any, receives MISSING_PAGE (R23). -/
def missPageOnTrack (seq inc : Nat) (s : State) : State :=
  match slotOfRecord seq inc s with
  | some n => updatePiece n Piece.missPage s
  | none => s

/-- The staging collation of a sequence and incarnation, or else the piece on the track, receives MISSING_PAGE (R23). -/
def missPageBehind (seq inc : Nat) (s : State) : State :=
  match s.collation.staging with
  | some c =>
    if c.isOf seq inc then setStaging (some (c.addFault .missingPage)) s else missPageOnTrack seq inc s
  | none => missPageOnTrack seq inc s

/-- An untaken ACCEPT (R23): MISSING_PAGE goes to the collation of the frame's sequence and incarnation in a pocket, and
else to the piece on the track. -/
def missPage (seq inc : Nat) (s : State) : State :=
  match s.collation.collecting with
  | .collecting c =>
    if c.isOf seq inc then setCollecting (.collecting (c.addFault .missingPage)) s else missPageBehind seq inc s
  | .complete c =>
    if c.isOf seq inc then setCollecting (.complete (c.addFault .missingPage)) s else missPageBehind seq inc s
  | .empty => missPageBehind seq inc s

/-- The untaken rule of SHEET_ACTION (R23). -/
def sheetActionLost (dst : Node) (accept : Bool) (seq inc : Nat) (s : State) : State :=
  let s1 := nodeAbsent dst s
  if accept then missPage seq inc s1 else s1

/-- Answer a sheet with a SHEET_ACTION to the SHEET_DIVERT entry, if there is one (R22). A DIVERT carries sequence and
incarnation 0 (R170; log entry 11). -/
def answerSheet (serial : Nat) (v : SheetVerdict) (seq inc : Nat) (s : State) : State :=
  match stationOfKind .sheetDivert s with
  | some (_, e) =>
    if ownFull s then sheetActionLost e.dst (v == .accept) seq inc s
    else pushOwn e.dst (.sheetAction serial v seq inc) s
  | none => s

/-- Answer DIVERT with a reason. -/
def divertSheet (x : Scan) (r : DivertReason) (s : State) : State := answerSheet x.serial (.divert r) 0 0 s

/-! ### The pockets (R36, R40) -/

/-- A COMPLETE collecting collation moves into an EMPTY staging pocket (R36). -/
def moveToStaging (s : State) : State :=
  match s.collation.collecting, s.collation.staging with
  | .complete c, none => setCollecting .empty (setStaging (some c) s)
  | _, _ => s

/-- The collation in the collecting pocket ends: a normal one becomes COMPLETE and moves to an EMPTY staging pocket
(R31, R36); a hand-finish one is disposed HAND_FINISH and the pocket becomes EMPTY (R35). -/
def endCollation (c : Collation) (s : State) : State :=
  if c.handFinish then drainCheck (disposeCollation .handFinish c (setCollecting .empty s))
  else moveToStaging (setCollecting (.complete c) s)

/-- A COLLECTING collation is closed unfinished: it receives MISSING_PAGE and ends (R33, R39). -/
def closeCollation (c : Collation) (s : State) : State := endCollation (c.addFault .missingPage) s

/-- A COLLECTING collation is closed at the sheet limit (R34): a normal one receives MISSING_PAGE, a hand-finish one is
disposed as it stands. -/
def closeAtLimit (c : Collation) (s : State) : State :=
  if c.handFinish then endCollation c s else closeCollation c s

/-! ### Adding a sheet (R30, R31, R34) -/

/-- The next expected page index after a sheet (steps 3 and 6 of R30). -/
def nextExpected (next page : Nat) (cls : SheetClass) : Nat :=
  if page < next then next else if cls = .double then page + 2 else page + 1

/-- The faults a sheet sets (steps 3 to 7 of R30). -/
def sheetFaults (c : Collation) (page pages : Nat) (cls : SheetClass) : List FaultName :=
  (if c.next < page then [FaultName.missingPage] else []) ++
  (if page < c.next then [FaultName.extraPage] else []) ++
  (if c.job.pages < page then [FaultName.extraPage] else []) ++
  (if pages ≠ c.job.pages then [FaultName.countMismatch] else []) ++
  (match cls with
   | .double => [FaultName.doubleSheet]
   | .thin => [FaultName.thinSheet]
   | .single => [])

/-- A collation after a sheet (steps 2 to 7 of R30). -/
def Collation.addSheet (page pages reading : Nat) (cls : SheetClass × Bool) (c : Collation) : Collation :=
  { c with
    sheets := c.sheets ++ [{ reading := reading, saturated := cls.2 }]
    next := nextExpected c.next page cls.1
    faults := (sheetFaults c page pages cls.1).foldl (fun l f => addOnce f l) c.faults }

/-- The sheet just added is the collation's last (R31). -/
def completes (c : Collation) (page : Nat) (cls : SheetClass) : Bool :=
  page == c.job.pages || (cls == .double && page + 1 == c.job.pages)

/-- The completion check of R31 and then the sheet-limit check of R34. -/
def checkCompletion (page : Nat) (cls : SheetClass) (s : State) : State :=
  match s.collation.collecting with
  | .collecting c =>
    if completes c page cls then endCollation c s
    else if s.collation.sheetLimit ≤ c.sheets.length then closeAtLimit c s
    else s
  | _ => s

/-- The answer to a sheet added to a collation (step 9 of R30): ACCEPT with the collation's sequence and incarnation, or
DIVERT HAND_FINISH in hand-finish mode (R35). -/
def answerAdded (x : Scan) (c : Collation) (s : State) : State :=
  if c.handFinish then divertSheet x .handFinish s else answerSheet x.serial .accept c.job.seq c.job.inc s

/-- Add a sheet to the collation in the COLLECTING pocket (R30): classification and learning (R45, R46), the collation's
fields, the stray run count, the answer, and the checks of R31 and R34. -/
def addSheet (x : Scan) (page pages : Nat) (c : Collation) (s : State) : State :=
  let cls := (stockAt x.stock s).classify x.caliper
  let s1 := putStock x.stock ((stockAt x.stock s).learn x.caliper cls.1) s
  let c1 := c.addSheet page pages x.caliper cls
  let s2 := s1.setCollation { s1.collation with collecting := .collecting c1, strays := 0 }
  checkCompletion page cls.1 (answerAdded x c1 s2)

/-! ### Judging against the head record (R26 to R29, R37) -/

/-- A stray (R29). -/
def straySheet (x : Scan) (s : State) : State :=
  let n := min 15 (s.collation.strays + 1)
  let s1 := divertSheet x .stray (s.setCollation { s.collation with strays := n })
  if s.collation.strayLimit ≤ n then requestStop .sequence (raiseAlert .strayLimit s1) else s1

/-- An accumulator overrun (R37). -/
def overrunSheet (x : Scan) (s : State) : State :=
  requestStop .accumulatorOverrun (raiseAlert .accumulatorOverrun (divertSheet x .overrun s))

/-- The reserve gate is open (R27): the free reprint entries exceed the in-flight count. -/
def gateOpen (s : State) : Bool := decide (inFlightCount s < reprintFree s)

/-- A sheet met with the gate shut (R27). -/
def reserveSheet (x : Scan) (s : State) : State := raiseAlert .reserveDivert (divertSheet x .reserve s)

/-- The collation record of an opening (R28). -/
def Collation.start (r : JobRecord) : Collation :=
  { job := r, sheets := [], next := 1, faults := [], handFinish := r.handFinish }

/-- A sheet opens a collation on the head record (R28): the queue removes the record, a reprint record's QUEUED entry is
removed, and the sheet is added. -/
def openCollation (x : Scan) (page pages : Nat) (r : JobRecord) (s : State) : State :=
  let s1 := removeHead s
  let s2 := if r.reprint then removeEntry r.seq s1 else s1
  let c := Collation.start r
  addSheet x page pages c (setCollecting (.collecting c) s2)

/-- Judge a sheet against the head record, the collecting pocket being EMPTY or COMPLETE (R26). -/
def judgeHead (x : Scan) (s : State) : State :=
  match x.read, s.queue.records.head? with
  | some (seq, inc, page, pages), some r =>
    if seq = r.seq && inc = r.inc then
      match s.collation.collecting with
      | .empty =>
        if r.reprint || gateOpen s then openCollation x page pages r s else reserveSheet x s
      | _ => overrunSheet x s
    else straySheet x s
  | _, _ => straySheet x s

/-- Judge a sheet against the collation of a COLLECTING pocket (R30, R32, R33). -/
def judgeCollecting (x : Scan) (c : Collation) (s : State) : State :=
  match x.read with
  | none => divertSheet x .unread (setCollecting (.collecting (c.addFault .unreadSheet)) s)
  | some (seq, inc, page, pages) =>
    if c.isOf seq inc then addSheet x page pages c s else judgeHead x (closeCollation c s)

/-- Route a sheet scan by run state and collecting pocket (R25). -/
def takeScan (x : Scan) (s : State) : State :=
  if s.line.state = .idle then divertSheet x .noRun s
  else if s.line.state = .closed || s.line.ending then divertSheet x .lateSheet s
  else
    match s.collation.collecting with
    | .collecting c => judgeCollecting x c s
    | _ => judgeHead x s

/-! ### Ending collations from outside (R39, R40) -/

/-- FLUSH closes a COLLECTING pocket and leaves the rest (R39). -/
def flushPocket (s : State) : State :=
  match s.collation.collecting with
  | .collecting c => closeCollation c s
  | _ => s

/-- Dispose the staging pocket's collation, if it holds one, and empty the pocket (R40). -/
def disposeStaging (d : Disposition) (s : State) : State :=
  match s.collation.staging with
  | some c => disposeCollation d c (setStaging none s)
  | none => s

/-- Dispose the collecting pocket's collation, if it holds one, and empty the pocket (R40). -/
def disposeCollecting (d : Disposition) (s : State) : State :=
  match s.collation.collecting with
  | .collecting c => disposeCollation d c (setCollecting .empty s)
  | .complete c => disposeCollation d c (setCollecting .empty s)
  | .empty => s

end Sys2Proof.Machine
end

