-- ==== Sys2Proof/Machine/Track.lean ====
section
/-! DEFINITION. The encoder and the pitch advance (R59, R60, R62, R65, R67, R38), and the pieces that leave the track by a
request (R69). -/

namespace Sys2Proof.Machine

/-! ### The work of an advance (R65) -/

/-- The boundary above which EP and NB are lowered (R60). -/
def lowerAbove : Int := 1073741824

/-- Step 1 of an advance (R60, R62, R65): NB rises by P and the pitch number by one, modulo 256; EP and NB are lowered
by NB − P when NB stands above 1,073,741,824; PITCH is broadcast with the new pitch number. -/
def markPitch (s : State) : State :=
  let t := s.track
  let nb := t.boundary + t.pulses
  let t1 : TrackUnit := { t with boundary := nb, pitch := (t.pitch + 1) % 256 }
  let t2 : TrackUnit :=
    if lowerAbove < nb then { t1 with boundary := t.pulses, position := t.position - (nb - t.pulses) } else t1
  sendPlain Config.broadcast (.pitch t2.pitch) (s.setTrack t2)

/-- The slots after every piece but the one at the exit has moved one slot downstream, with the windows a piece has passed
closed (step 3 of R65). Slot 0 is empty. -/
def movedSlots (slots : List (Option Piece)) : List (Option Piece) :=
  (none :: slots.dropLast).mapIdx (fun n x => x.map (·.passWindows n))

/-- Every window that its piece has passed closes (R67). -/
def passAllWindows (s : State) : State :=
  s.setTrack { s.track with slots := s.track.slots.mapIdx (fun n x => x.map (·.passWindows n)) }

/-- Step 3 of an advance. -/
def moveSlots (s : State) : State := s.setTrack { s.track with slots := movedSlots s.track.slots }

/-- Send FOLD_SET with the released collation's fold panel count to the FOLDER entry, if there is one (R38). -/
def sendFold (panels : Nat) (s : State) : State :=
  match stationOfKind .folder s with
  | some (_, e) => sendStation e.dst (.foldSet panels) s
  | none => s

/-- Step 4 of an advance (R38, R65): the staging collation is committed at slot 0, FOLD_SET is sent, and a COMPLETE
collecting collation moves into staging. -/
def releaseStaging (s : State) : State :=
  match s.collation.staging with
  | some c => moveToStaging (sendFold c.job.panels (commit c (setStaging none s)))
  | none => s

/-- A pitch advance (R65), with the Sort Unit's examination of the flights after the track's work (R119; log entry 14). -/
def advance (s : State) : State :=
  sorterTimeouts (arrivals (releaseStaging (moveSlots (exitSlot (markPitch s)))))

/-- A flight times out at the next advance: its selection pitch lies at least the sorter window behind the pitch number that
the advance sets (R119). -/
def timeoutDue (s : State) : Bool :=
  let t := s.setTrack { s.track with pitch := (s.track.pitch + 1) % 256 }
  t.sort.bins.toList.any (fun x => x.flights.any (timedOut t))

/-! ### The encoder (R59, R60) -/

/-- A run is open: every state but IDLE (R59). -/
def runOpen (s : State) : Bool := s.line.state != .idle

/-- A forward pulse of an open run: EP rises by one, and a pulse that makes EP equal to NB is a pitch advance (R60). -/
def forwardPulse (s : State) : State :=
  let s1 := s.setTrack { s.track with position := s.track.position + 1 }
  if s1.track.position = s1.track.boundary then advance s1 else s1

/-- A reverse pulse of an open run; one that finds EP at its least value is not counted (R59). -/
def reversePulse (s : State) : State :=
  if s.track.position ≤ -2147483648 then s
  else s.setTrack { s.track with position := s.track.position - 1 }

/-- A step in which both channels change together (R59). -/
def encoderError (s : State) : State :=
  s.setTrack { s.track with encoderErrors := min 255 (s.track.encoderErrors + 1) }

/-- One quadrature step (R59): pulses are counted while a run is open, and a step without direction raises the encoder
error count (log entry 9). -/
def encoderStep (e : EncoderStep) (s : State) : State :=
  match e with
  | .forward => if runOpen s then forwardPulse s else s
  | .reverse => if runOpen s then reversePulse s else s
  | .both => encoderError s

/-! ### Removal from the track (R69) -/

/-- Remove the piece in a slot and dispose it (R69): its windows go with it, the counts of its match fall, and no frame is
sent. An empty slot is left as it is. -/
def removePiece (d : Disposition) (n : Nat) (s : State) : State :=
  match pieceAt n s with
  | some p => disposePiece d none p (lowerMatchCounts p.scheme (putSlot n none s))
  | none => s

/-- ABORT on the track: every piece, from slot L−1 toward slot 0 (R69). -/
def abortTrack (s : State) : State :=
  (List.range s.track.slots.length).reverse.foldl (fun s n => removePiece .aborted n s) s

/-- CLEAR_SLOTS on a range of slots, first to last (R69). -/
def clearRange (first last : Nat) (s : State) : State :=
  (List.range' first (last + 1 - first)).foldl (fun s n => removePiece .cleared n s) s

/-- The pieces in a range of slots. -/
def piecesIn (first last : Nat) (s : State) : Nat :=
  (List.range' first (last + 1 - first)).countP (fun n => (pieceAt n s).isSome)

end Sys2Proof.Machine
end

