-- ==== Sys2Proof/Machine/Intake.lean ====
section
/-! DEFINITION. The intake of a RECORD frame (R2 to R9) and SKIP_RECORD, LOG_READ and REPRINT_READ (R132, R143, R129). -/

namespace Sys2Proof.Machine

/-! ### RECORD (R2) -/

/-- The state step of R2: READY, RUNNING, PAUSED or JAMMED with the ending flag clear. -/
def intakeOpen (s : State) : Bool :=
  (s.line.state == .ready || s.line.state == .running || s.line.state == .paused || s.line.state == .jammed)
    && !s.line.ending

/-- A selection names an INSERT station (R3). -/
def namesInsert (x : Selection) (s : State) : Bool :=
  match stationAt x.station s with
  | some e => e.kind == .insert
  | none => false

/-- The structural checks (R3). -/
def structureOk (r : JobRecord) (s : State) : Bool :=
  decide (1 ≤ r.pages) && decide (r.pages ≤ 64) && decide (1 ≤ r.panels) && decide (r.panels ≤ 3) &&
  r.dest.required.all (· ≤ 9) && (r.dest.extra.getD []).all (· ≤ 9) &&
  decide (r.selections.length ≤ 8) && r.selections.all (fun x => namesInsert x s) &&
  decide ((r.selections.map (·.station)).Nodup) && (r.reprint || r.inc == 0)

/-- A selection's priority 0 is stored as 1 (R4). -/
def Selection.clamp (x : Selection) : Selection :=
  match x.mode with
  | .optional 0 => { x with mode := .optional 1 }
  | _ => x

/-- The adjustments of R4: priorities, and hand-finish forced on above the sheet limit. -/
def JobRecord.clamp (sheetLimit : Nat) (r : JobRecord) : JobRecord :=
  { r with selections := r.selections.map Selection.clamp, handFinish := r.handFinish || decide (sheetLimit < r.pages) }

/-- The refusal of a reprint record, if any (R6). -/
def reprintRefusal (r : JobRecord) (s : State) : Option AnswerCode :=
  match entryOf r.seq s with
  | none => some .unknownReprint
  | some e =>
    if e.state = .queued then some .unknownReprint
    else if e.inc = 15 then some .limit
    else if r.inc = e.inc + 1 then none
    else some .unknownReprint

/-- The refusal of the sequence step, if any (R2, R5, R6). -/
def sequenceRefusal (r : JobRecord) (s : State) : Option AnswerCode :=
  if s.line.counters.accepted = Config.counterLimit then some .limit
  else if r.reprint then reprintRefusal r s
  else
    match s.queue.last with
    | none => none
    | some last => if last < r.seq then none else some .sequence

/-- The four steps of R2 on the bytes of a RECORD frame: the record as accepted, or the refusal. -/
def judgeRecord (body : List Byte) (s : State) : Except AnswerCode JobRecord :=
  if intakeOpen s then
    match readRecord body with
    | none => .error .range
    | some r =>
      if structureOk r s then
        match sequenceRefusal r s with
        | some code => .error code
        | none =>
          if Config.queueCapacity ≤ s.queue.records.length then .error .full
          else .ok (r.clamp s.collation.sheetLimit)
      else .error .range
  else .error .state

/-- Count an acceptance (R7, R133). -/
def countAccepted (s : State) : State :=
  s.setLine { s.line with counters := { s.line.counters with accepted := countUp s.line.counters.accepted } }

/-- The acceptance of a record (R7). -/
def acceptRecord (r : JobRecord) (s : State) : State :=
  let s1 := s.setQueue { s.queue with
    records := s.queue.records ++ [r], last := if r.reprint then s.queue.last else some r.seq }
  let s2 := countAccepted (if r.reprint then queueEntry r.seq s1 else s1)
  checkHold (if s.queue.records.isEmpty then evalPermit s2 else s2)

/-- A RECORD request (R2, R7, R9). -/
def recordRequest (tag : Byte) (body : List Byte) (s : State) : State :=
  match judgeRecord body s with
  | .ok r => acceptRecord r s
  | .error .full => sendAnswer tag .full [] (raiseAlert .recordOverrun s)
  | .error code => sendAnswer tag code [] s

/-! ### SKIP_RECORD (R132) -/

/-- Dispose a head record SKIPPED (R132). -/
def skipHead (r : JobRecord) (s : State) : State :=
  dispose .skipped
    (if r.reprint then .reopen r.seq (some (.disposition .skipped))
     else .create r.seq r.inc (.disposition .skipped))
    (.piece (r.logOf .skipped)) (removeHead s)

/-- Skip up to `n` head records (R132): the state, and how many were removed. -/
def skipRecords : Nat → State → State × Nat
  | 0, s => (s, 0)
  | n + 1, s =>
    match s.queue.records.head? with
    | none => (s, 0)
    | some r =>
      if r.reprint || decide (inFlightCount s < reprintFree s) then
        let x := skipRecords n (skipHead r s)
        (x.1, x.2 + 1)
      else (s, 0)

/-- A SKIP_RECORD request (R132, R147). -/
def skipRequest (tag : Byte) (operands : List Byte) (s : State) : State :=
  if s.line.state = .paused || s.line.state = .jammed then
    if operands.length = 1 && 1 ≤ field operands 0 1 && field operands 0 1 ≤ 8 then
      let x := skipRecords (field operands 0 1) s
      sendAnswer tag .ok (beBytes 1 x.2) x.1
    else sendAnswer tag .range [] s
  else sendAnswer tag .state [] s

/-! ### LOG_READ (R143) -/

/-- The whole records taken from the oldest end while their total length stays at most `n` words (R143). -/
def takeRecords : Nat → List LogRecord → List LogRecord
  | _, [] => []
  | n, r :: rest => if r.length ≤ n then r :: takeRecords (n - r.length) rest else []

/-- A LOG_READ request (R143). Removing records changes the free count, so the feed permit is re-evaluated (R144). -/
def logReadRequest (tag : Byte) (operands : List Byte) (s : State) : State :=
  if operands.length = 1 && 1 ≤ field operands 0 1 && field operands 0 1 ≤ 30 then
    let taken := takeRecords (field operands 0 1) s.log.records
    let s1 := s.setLog { s.log with records := s.log.records.drop taken.length }
    sendAnswer tag .ok (listBytes LogRecord.bytes taken) (if taken.isEmpty then s1 else evalPermit s1)
  else sendAnswer tag .range [] s

/-! ### REPRINT_READ (R129) -/

/-- The first `n` OPEN entries, oldest first (R129). -/
def openEntries (n : Nat) (l : List ReprintEntry) : List ReprintEntry := (l.filter (fun e => e.state == .open)).take n

/-- The list after its first `n` OPEN entries became REQUESTED (R129). -/
def requestEntries : Nat → List ReprintEntry → List ReprintEntry
  | _, [] => []
  | 0, l => l
  | n + 1, e :: rest =>
    if e.state = .open then { e with state := .requested } :: requestEntries n rest
    else e :: requestEntries (n + 1) rest

/-- A reprint entry in an ANSWER: sequence, incarnation and reason (R129, R170). -/
def ReprintEntry.bytes (e : ReprintEntry) : List Byte :=
  beBytes 3 e.seq ++ [byteOf e.inc, byteOf e.reason.code]

/-- A REPRINT_READ request (R129). The number of OPEN entries left is sent in two bytes, as QUERY REPRINT sends the numbers of
entries, whose range is 0..256; R129 gives this number no range (the model's choice, log entry 10). -/
def reprintReadRequest (tag : Byte) (operands : List Byte) (s : State) : State :=
  if operands.length = 1 && 1 ≤ field operands 0 1 && field operands 0 1 ≤ 16 then
    let n := field operands 0 1
    let taken := openEntries n s.reprints
    let s1 := s.setReprints (requestEntries n s.reprints)
    sendAnswer tag .ok
      (listBytes ReprintEntry.bytes taken ++ beBytes 2 (s1.reprints.countP (fun e => e.state == .open))) s1
  else sendAnswer tag .range [] s

end Sys2Proof.Machine
end

