-- ==== Sys2Proof/Machine/Control.lean ====
section
/-! DEFINITION. The CONTROL requests (R147): OPEN_RUN, START, PAUSE, RESUME, FLUSH, ABORT, CLOSE_RUN, RESET_LINE,
CLEAR_SLOTS, STATION_MODE, BIN_MODE, RELEARN and ACK_ALERT. Each judges the run state first, then the length of its
operands (R165), and is answered when its work is done. -/

namespace Sys2Proof.Machine

/-- Every entry's late count set to 0 (R70, R74). -/
def clearLate (s : State) : State :=
  s.setTrack { s.track with stations := s.track.stations.map (Option.map (fun e => { e with late := 0 })) }

/-- The track as OPEN_RUN and RESET_LINE leave it: slot queue empty, EP, pitch number, error count and next serial 0,
NB = P, jam slot NONE, late counts 0 (R59, R63, R70, R76). -/
def clearTrack (s : State) : State :=
  clearLate (s.setTrack { s.track with
    slots := List.replicate s.track.length none, position := 0, boundary := s.track.pulses, pitch := 0,
    encoderErrors := 0, nextSerial := 0, jamSlot := none })

/-- Both pockets EMPTY and the stray run count 0 (R24). -/
def clearPockets (s : State) : State :=
  s.setCollation { s.collation with collecting := .empty, staging := none, strays := 0 }

/-! ### Opening and running -/

/-- The work of OPEN_RUN (R18): the header, the counters (R133), the last accepted sequence (R5), the pockets (R24), the
rings (R44), the track (R59, R63), READY, and the RUN OPEN record. -/
def openRun (id : Word) (s : State) : State :=
  let s1 := s.setLine { s.line with runId := id, locked := true, counters := Counters.zero }
  let s2 := clearTrack (emptyRings (clearPockets (s1.setQueue { s1.queue with last := none })))
  writeLog (.run .open id none) (enterState .ready none s2)

/-- OPEN_RUN (R18, R147). -/
def openRunRequest (tag : Byte) (operands : List Byte) (s : State) : State :=
  if s.line.locked then sendAnswer tag .locked [] s
  else if operands.length = 4 then sendAnswer tag .ok [] (openRun (BitVec.ofNat 32 (field operands 0 4)) s)
  else sendAnswer tag .range [] s

/-- A request without operands that is taken in some states and refused with STATE in the others (R147). -/
def plainRequest (taken : Bool) (work : State → State) (tag : Byte) (operands : List Byte) (s : State) : State :=
  if taken then
    if operands.isEmpty then sendAnswer tag .ok [] (work s) else sendAnswer tag .range [] s
  else sendAnswer tag .state [] s

/-- The work of START (R148). -/
def startRun (s : State) : State := enterState .running none (writeLog (.run .start s.line.runId none) s)

/-- START (R147, R148). -/
def startRequest (tag : Byte) (operands : List Byte) (s : State) : State :=
  plainRequest (s.line.state == .ready) startRun tag operands s

/-- PAUSE (R147, R148). -/
def pauseRequest (tag : Byte) (operands : List Byte) (s : State) : State :=
  plainRequest (s.line.state == .running || s.line.state == .draining)
    (enterState .paused (some .operator)) tag operands s

/-- The work of RESUME (R149). -/
def resumeRun (s : State) : State :=
  if s.line.ending then drainCheck (enterState .draining none s) else enterState .running none s

/-- RESUME (R147, R149). -/
def resumeRequest (tag : Byte) (operands : List Byte) (s : State) : State :=
  plainRequest (s.line.state == .paused || (s.line.state == .jammed && s.ring.linkUp)) resumeRun tag operands s

/-! ### Ending a run -/

/-- The check of FLUSH, made from DRAINING and from PAUSED (step 6 of R151). -/
def flushCheck (s : State) : State := if drained s then completeDrain s else s

/-- Set the ending flag; the feed permit falls (R151, R153). -/
def setEnding (s : State) : State := evalPermit (s.setLine { s.line with ending := true })

/-- The work of FLUSH, its six steps in order (R151). -/
def flushRun (s : State) : State :=
  let s1 := writeLog (.run .flush s.line.runId none) s
  let s2 := flushPocket (unfedAll (setEnding s1))
  flushCheck (if s2.line.state = .running then enterState .draining none s2 else s2)

/-- FLUSH (R147, R151): BUSY while the ending flag is set, STATE in a state that does not take it. -/
def flushRequest (tag : Byte) (operands : List Byte) (s : State) : State :=
  if s.line.ending then sendAnswer tag .busy [] s
  else plainRequest (s.line.state == .running || s.line.state == .paused) flushRun tag operands s

/-- The work of ABORT, its eight steps in order (R153). -/
def abortRun (s : State) : State :=
  let s1 := writeLog (.run .abort s.line.runId none) s
  let s2 := setEnding (s1.setLine { s1.line with drive := false })
  let s3 := abortBins (abortTrack (disposeCollecting .aborted (disposeStaging .aborted (unfedAll s2))))
  enterState .closed none (writeLog (.run .closed s3.line.runId (some s3.line.counters)) s3)

/-- ABORT (R147, R153). -/
def abortRequest (tag : Byte) (operands : List Byte) (s : State) : State :=
  plainRequest (s.line.state != .idle && s.line.state != .closed) abortRun tag operands s

/-- The header released, the counters 0 and the ending flag clear (R19, R133, R146). -/
def releaseHeader (s : State) : State :=
  s.setLine { s.line with runId := 0, locked := false, counters := Counters.zero, ending := false }

/-- The work of CLOSE_RUN (R154). -/
def closeRun (s : State) : State :=
  let s1 := (releaseHeader s).setReprints []
  enterState .idle none (s1.setQueue { s1.queue with last := none })

/-- CLOSE_RUN (R147, R154). -/
def closeRunRequest (tag : Byte) (operands : List Byte) (s : State) : State :=
  plainRequest (s.line.state == .closed) closeRun tag operands s

/-- The Record Queue at RESET_LINE (R13): emptied without dispositions, and RECORD_GO if the held flag is set. -/
def resetQueue (s : State) : State :=
  let s1 := s.setQueue { s.queue with records := [], last := none }
  if s1.channel.held then releaseFlow s1 else s1

/-- A bin at RESET_LINE (R109). -/
def Bin.resetLine (x : Bin) : Bin :=
  { x with committed := x.landed, flights := [], bundle := none, previousKey := none }

/-- The Sort Unit at RESET_LINE: flights and bundles dropped, page and group counts 0 (R102, R107, R109). -/
def resetSort (s : State) : State :=
  s.setSort { s.sort with
    pageUse := Vector.replicate 32 0, groups := s.sort.groups.map (fun g => { g with refs := 0 }),
    bins := s.sort.bins.map Bin.resetLine }

/-- The work of RESET_LINE, its four steps in order (R155). -/
def resetLine (s : State) : State :=
  let s1 := resetQueue (writeLog (.run .reset s.line.runId none) s)
  let s2 := emptyRings (resetSort (clearTrack (clearPockets s1)))
  enterState .idle none (releaseHeader (s2.setReprints []))

/-- RESET_LINE, taken in every state (R147, R155). -/
def resetLineRequest (tag : Byte) (operands : List Byte) (s : State) : State :=
  plainRequest true resetLine tag operands s

/-! ### CLEAR_SLOTS (R156) -/

/-- The operands of CLEAR_SLOTS (R170): the range, if one is named, and whether the staging and the collecting pocket
are named. -/
structure ClearOperands where
  range : Option (Nat × Nat)
  staging : Bool
  collecting : Bool
deriving DecidableEq, Repr

/-- The operands of CLEAR_SLOTS for a track of `length` slots, or none when they are refused with RANGE (R156). A range flag
above 1 and a pocket choice above 3 are refused, and without a range the slots are not examined (the model's reading, log
entry 43). -/
def readClear (length : Nat) (operands : List Byte) : Option ClearOperands :=
  let flag := field operands 0 1
  let first := field operands 1 1
  let last := field operands 2 1
  let pockets := field operands 3 1
  if operands.length = 4 && flag ≤ 1 && pockets ≤ 3 && (flag == 1 || pockets != 0)
      && (flag == 0 || (decide (first ≤ last) && decide (last < length))) then
    some
      { range := if flag = 1 then some (first, last) else none,
        staging := pockets % 2 == 1, collecting := decide (2 ≤ pockets) }
  else none

/-- The pockets of a CLEAR_SLOTS (steps 1 and 2 of R156). -/
def clearNamedPockets (c : ClearOperands) (s : State) : State :=
  let s1 := if c.staging then disposeStaging .cleared s else s
  let s2 := if c.collecting then disposeCollecting .cleared s1 else s1
  if c.staging && !c.collecting then moveToStaging s2 else s2

/-- The slots of a CLEAR_SLOTS (step 3 of R156). -/
def clearNamedSlots (c : ClearOperands) (s : State) : State :=
  match c.range with
  | some (first, last) => clearRange first last s
  | none => s

/-- How many collations a CLEAR_SLOTS clears. -/
def collationsCleared (c : ClearOperands) (s : State) : Nat :=
  (if c.staging && s.collation.staging.isSome then 1 else 0) +
  (if c.collecting && s.collation.collecting != .empty then 1 else 0)

/-- How many pieces a CLEAR_SLOTS clears. -/
def piecesCleared (c : ClearOperands) (s : State) : Nat :=
  match c.range with
  | some (first, last) => piecesIn first last s
  | none => 0

/-- CLEAR_SLOTS (R147, R156). -/
def clearSlotsRequest (tag : Byte) (operands : List Byte) (s : State) : State :=
  if s.line.state = .jammed then
    match readClear s.track.length operands with
    | some c =>
      sendAnswer tag .ok (beBytes 1 (collationsCleared c s) ++ beBytes 1 (piecesCleared c s))
        (evalPermit (clearNamedSlots c (clearNamedPockets c s)))
    | none => sendAnswer tag .range [] s
  else sendAnswer tag .state [] s

/-! ### Modes, relearning and alerts -/

/-- Set the operator mode of every non-empty entry (R78). -/
def setAllModes (m : StationMode) (s : State) : State :=
  s.setTrack { s.track with stations := s.track.stations.map (Option.map (fun e => { e with mode := m })) }

/-- STATION_MODE (R78): position 255 names ALL. -/
def stationModeRequest (tag : Byte) (operands : List Byte) (s : State) : State :=
  let position := field operands 0 1
  match stationModeOf (field operands 1 1) with
  | none => sendAnswer tag .range [] s
  | some m =>
    if operands.length ≠ 2 then sendAnswer tag .range [] s
    else if position = 255 then sendAnswer tag .ok [] (setAllModes m s)
    else
      match stationAt position s with
      | some e => sendAnswer tag .ok [] (putStation position (some { e with mode := m }) s)
      | none => sendAnswer tag .range [] s

/-- A bin that BIN_MODE may name: 0..31 and loaded (R111). -/
def binLoaded (b : Nat) (s : State) : Bool := decide (b ≤ 31) && (binAt b s).node.isSome

/-- BIN_MODE ON (R111). -/
def binOnRequest (tag bin : Byte) (s : State) : State :=
  if binLoaded bin.toNat s then sendAnswer tag .ok [] (binOn bin.toNat s) else sendAnswer tag .range [] s

/-- BIN_MODE OFF (R111). -/
def binOffRequest (tag bin : Byte) (s : State) : State :=
  if binLoaded bin.toNat s then sendAnswer tag .ok [] (binOff bin.toNat s) else sendAnswer tag .range [] s

/-- BIN_MODE with its operands as sent (R111, R170): 1 ON, 2 OFF, any other mode or length RANGE. -/
def binModeRequest (tag : Byte) (operands : List Byte) (s : State) : State :=
  match operands with
  | [bin, mode] =>
    if mode = 1 then binOnRequest tag bin s
    else if mode = 2 then binOffRequest tag bin s
    else sendAnswer tag .range [] s
  | _ => sendAnswer tag .range [] s

/-- RELEARN (R44): 255 names all stocks. -/
def relearnRequest (tag : Byte) (operands : List Byte) (s : State) : State :=
  let i := field operands 0 1
  if operands.length ≠ 1 then sendAnswer tag .range [] s
  else if i = 255 then sendAnswer tag .ok [] (emptyRings s)
  else if i ≤ 3 then sendAnswer tag .ok [] (putStock i (stockAt i s).relearn s)
  else sendAnswer tag .range [] s

/-- ACK_ALERT (R169). -/
def ackRequest (tag : Byte) (operands : List Byte) (s : State) : State :=
  match alertClassOf (field operands 0 1) with
  | some c =>
    if operands.length = 1 then sendAnswer tag .ok [] (setAlert c Alert.clear s) else sendAnswer tag .range [] s
  | none => sendAnswer tag .range [] s

end Sys2Proof.Machine
end

