-- ==== Sys2Proof/Machine/Loads.lean ====
section
/-! DEFINITION. The LOAD requests: PROFILE (R166 with R14, R42, R50, R61, R144), STATION (R71), SCHEME (R103, R104),
GROUP (R108) and BIN (R110). -/

namespace Sys2Proof.Machine

/-! ### LOAD PROFILE (R166) -/

/-- A station entry fits a track of `length` slots (R61): its slot offset lies on the track, and an EXIT stands at the last
slot. -/
def StationEntry.fits (length : Nat) (e : StationEntry) : Bool :=
  decide (e.offset < length) && (e.kind != .exit || e.offset + 1 == length)

/-- The range step of R166. -/
def profileInRange (p : ProfileFields) (s : State) : Bool :=
  decide (1 ≤ p.high) && decide (p.high ≤ 64) && decide (1 ≤ p.sheetLimit) && decide (p.sheetLimit ≤ 24) &&
  decide (1 ≤ p.strayLimit) && decide (p.strayLimit ≤ 15) && decide (8 ≤ p.length) && decide (p.length ≤ 96) &&
  decide (16 ≤ p.pulses) && decide (p.pulses ≤ 4095) && decide (1 ≤ p.window) && decide (p.window ≤ 15) &&
  (stationsWhere (fun _ => true) s).all (fun x => x.2.fits p.length)

/-- The in-use step of R166: the track holds a piece and L, P, E or CMAX as sent differs from its stored value. -/
def profileInUse (p : ProfileFields) (s : State) : Bool :=
  pieceCount s != 0 &&
  (p.length != s.track.length || p.pulses != s.track.pulses || p.allowance != s.caliper.allowance
    || p.limit != s.caliper.limit)

/-- A value clamped into a range. -/
def clampTo (lo hi n : Nat) : Nat := max lo (min hi n)

/-- The clamps of a stock profile (R42). -/
def StockFields.clamp (f : StockFields) : StockFields :=
  { averaging := clampTo 1 15 f.averaging, nominal := clampTo 1 4094 f.nominal, tolerance := clampTo 1 63 f.tolerance,
    margin := clampTo 1 1023 f.margin }

/-- A stock after a load (R42): a change of NOM, T or D empties its ring, and a smaller W alone trims it. -/
def Stock.load (f : StockFields) (x : Stock) : Stock :=
  { averaging := f.averaging, nominal := f.nominal, tolerance := f.tolerance, margin := f.margin,
    ring :=
      if f.nominal = x.nominal && f.tolerance = x.tolerance && f.margin = x.margin then trimRing f.averaging x.ring
      else [] }

/-- Load one stock profile. -/
def loadStock (i : Nat) (f : StockFields) (s : State) : State := putStock i ((stockAt i s).load f.clamp) s

/-- Load the four stock profiles in order. -/
def loadStocks (l : List StockFields) (s : State) : State :=
  l.zipIdx.foldl (fun s x => loadStock x.2 x.1 s) s

/-- The envelope profile and class limits, clamped (R50). -/
def loadEnvelope (p : ProfileFields) (s : State) : State :=
  s.setCaliper { s.caliper with
    allowance := min 2047 p.allowance, limit := clampTo 1 32767 p.limit, letterLimit := p.letterLimit,
    flatLimit := max p.letterLimit p.flatLimit }

/-- The track profile (R61): a new L resizes the empty slot queue, a new P sets NB to EP plus the new P. -/
def loadTrack (p : ProfileFields) (s : State) : State :=
  s.setTrack { s.track with
    length := p.length, pulses := p.pulses,
    slots := if p.length = s.track.length then s.track.slots else List.replicate p.length none,
    boundary := if p.pulses = s.track.pulses then s.track.boundary else s.track.position + p.pulses }

/-- The low mark, clamped below the high mark (R14). -/
def lowMark (p : ProfileFields) : Nat := min (p.high - 1) p.low

/-- The limits, marks, sorter window and log reserve (R14, R24, R61, R144). -/
def loadLimits (p : ProfileFields) (s : State) : State :=
  let s1 := s.setCollation { s.collation with sheetLimit := p.sheetLimit, strayLimit := p.strayLimit }
  let s2 := s1.setSort { s1.sort with window := p.window }
  let s3 := s2.setLog { s2.log with reserve := clampTo 64 4096 p.reserve }
  s3.setQueue { s3.queue with high := p.high, low := lowMark p }

/-- The write of a PROFILE load and what its changed fields do (steps 4 and 5 of R166). -/
def writeProfile (p : ProfileFields) (s : State) : State :=
  let s1 := loadLimits p (loadTrack p (loadEnvelope p (loadStocks p.stocks s)))
  let s2 := if p.high = s.queue.high && lowMark p = s.queue.low then s1 else checkMarks s1
  evalPermit s2

/-- LOAD PROFILE (R166). -/
def loadProfileRequest (tag : Byte) (items : List Byte) (s : State) : State :=
  if s.line.state = .idle || s.line.state = .ready then
    match readProfile items with
    | none => sendAnswer tag .range [] s
    | some p =>
      if profileInRange p s then
        if profileInUse p s then sendAnswer tag .inUse [] s else sendAnswer tag .ok [] (writeProfile p s)
      else sendAnswer tag .range [] s
  else sendAnswer tag .state [] s

/-! ### LOAD STATION (R71) -/

/-- The station table as it would stand after a write of items from a first position. -/
def tableAfter (first : Nat) (l : List (Option StationEntry)) (t : Vector (Option StationEntry) 24) :
    Vector (Option StationEntry) 24 :=
  l.zipIdx.foldl (fun t x => t.setIfInBounds (first + x.2) x.1) t

/-- The entries of a station table. -/
def tableEntries (t : Vector (Option StationEntry) 24) : List StationEntry := t.toList.filterMap id

/-- The entry's own fields pass R71: node address, slot offset, window, I, late limit, and an EXIT at the last slot. -/
def entryOk (e : StationEntry) (s : State) : Bool :=
  decide (2 ≤ e.node) && decide (e.node ≤ 62) && e.node != s.supervisor.toNat && (binOfNode e.node s).isNone &&
  e.fits s.track.length && decide (e.window ≤ 7) && decide (e.caliper ≤ 4095) && decide (1 ≤ e.lateLimit) &&
  decide (e.lateLimit ≤ 15)

/-- The kinds the table holds at most once (R71). -/
def StationKind.single : StationKind → Bool
  | .insert => false
  | .slotCheck => false
  | _ => true

/-- Two entries of a table may stand together (R71): different nodes, no second entry of a single kind, INSERT before and
SCAN_OUT not before the ENVELOPE. -/
def entriesAgree (a b : StationEntry) : Bool :=
  a.node != b.node && !(a.kind.single && a.kind == b.kind) &&
  !(a.kind == .insert && b.kind == .envelope && decide (b.offset ≤ a.offset)) &&
  !(b.kind == .insert && a.kind == .envelope && decide (a.offset ≤ b.offset)) &&
  !(a.kind == .scanOut && b.kind == .envelope && decide (a.offset < b.offset)) &&
  !(b.kind == .scanOut && a.kind == .envelope && decide (b.offset < a.offset))

/-- The table passes the checks of R71. -/
def tableOk (l : List StationEntry) (s : State) : Bool :=
  l.all (fun e => entryOk e s) && decide (l.Pairwise (fun a b => entriesAgree a b = true))

/-- LOAD STATION (R71). -/
def loadStationRequest (tag : Byte) (items : List Byte) (s : State) : State :=
  if s.line.state = .idle then
    match readStations items with
    | none => sendAnswer tag .range [] s
    | some (first, l) =>
      let t := tableAfter first l s.track.stations
      if 1 ≤ l.length && l.length ≤ 8 && first + l.length ≤ 24 && tableOk (tableEntries t) s then
        sendAnswer tag .ok [] (s.setTrack { s.track with stations := t })
      else sendAnswer tag .range [] s
  else sendAnswer tag .state [] s

/-! ### LOAD SCHEME (R103, R104) -/

/-- The write of an accepted load (R104): item j at offset (o + j) mod 16 of the page, in order. -/
def writeScheme (page start : Nat) (l : List SchemeEntry) (s : State) : State :=
  s.setSort { s.sort with
    scheme := l.zipIdx.foldl
      (fun t x => t.setIfInBounds (16 * page + (start + x.2) % 16) x.1) s.sort.scheme }

/-- The run states that refuse LOAD SCHEME (R103). -/
def schemeFrozen (s : State) : Bool := s.line.state == .running || s.line.state == .draining

/-- LOAD SCHEME (R103). -/
def loadSchemeRequest (tag : Byte) (items : List Byte) (s : State) : State :=
  if schemeFrozen s then sendAnswer tag .state [] s
  else
    match readScheme items with
    | none => sendAnswer tag .range [] s
    | some (page, start, l) =>
      if pageUseAt page s = 0 then sendAnswer tag .ok [] (writeScheme page start l s) else sendAnswer tag .inUse [] s

/-! ### LOAD GROUP (R108) -/

/-- The range step of R108. -/
def groupInRange (f : GroupFields) (s : State) : Bool :=
  decide (f.group ≤ 15) && f.chain.all (fun b => decide (b ≤ 31)) && decide f.chain.Nodup &&
  f.chain.all (fun b => (List.range 16).all (fun g => g == f.group || !(groupAt g s).chain.contains b)) &&
  decide (f.demote ≤ 7)

/-- A bin has entries in its in-flight list or a non-empty open bundle (R108). -/
def binBusy (b : Nat) (s : State) : Bool := !(binAt b s).flights.isEmpty || (binAt b s).bundle.isSome

/-- The in-use step of R108. -/
def groupInUse (f : GroupFields) (s : State) : Bool :=
  (groupAt f.group s).refs != 0 || (groupAt f.group s).chain.any (fun b => binBusy b s)
    || f.chain.any (fun b => binBusy b s)

/-- The group as loaded, with the clamps of R108. -/
def GroupFields.toGroup (f : GroupFields) (refs : Nat) : Group :=
  let target := max 1 f.target
  { chain := f.chain, target := target, minimum := min target (max 1 f.minimum), demote := f.demote, refs := refs }

/-- LOAD GROUP (R108). -/
def loadGroupRequest (tag : Byte) (items : List Byte) (s : State) : State :=
  match readGroup items with
  | none => sendAnswer tag .range [] s
  | some f =>
    if groupInRange f s then
      if groupInUse f s then sendAnswer tag .inUse [] s
      else sendAnswer tag .ok [] (putGroup f.group (f.toGroup (groupAt f.group s).refs) s)
    else sendAnswer tag .range [] s

/-! ### LOAD BIN (R110) -/

/-- The range checks of R110. -/
def binInRange (b node capacity : Nat) (s : State) : Bool :=
  decide (b ≤ 31) && decide (2 ≤ node) && decide (node ≤ 62) && node != s.supervisor.toNat &&
  (List.range 32).all (fun c => c == b || (binAt c s).node != some node) && (stationOfNode node s).isNone &&
  decide (1 ≤ capacity) && decide (capacity ≤ 2000) && decide ((binAt b s).landed ≤ capacity)

/-- LOAD BIN (R110). The range checks come before the in-use check (the model's reading, log entry 44). -/
def loadBinRequest (tag : Byte) (items : List Byte) (s : State) : State :=
  match readBin items with
  | none => sendAnswer tag .range [] s
  | some (b, node, capacity) =>
    if binInRange b node capacity s then
      if (binAt b s).state = .off && !binBusy b s then
        sendAnswer tag .ok [] (putBin b { binAt b s with node := some node, capacity := some capacity } s)
      else sendAnswer tag .inUse [] s
    else sendAnswer tag .range [] s

end Sys2Proof.Machine
end

