-- ==== Sys2Proof/Machine/Queries.lean ====
section
/-! DEFINITION. The QUERY requests (R167): each is taken in every state, changes nothing but the queue its ANSWER joins, and
answers with the items its rule lists, in order, in the encoding of R170. -/

namespace Sys2Proof.Machine

/-- A query whose index must lie below a bound (R167): a payload of another length or an index outside the range is refused
with RANGE. Subjects without an index take any (bound 65,536). -/
def queryRequest (bound : Nat) (content : Nat → State → List Byte) (tag : Byte) (index : List Byte) (s : State) :
    State :=
  if index.length = 2 && field index 0 2 < bound then sendAnswer tag .ok (content (field index 0 2) s) s
  else sendAnswer tag .range [] s

/-- A value that may be none: a presence byte, then the value's bytes. -/
def presentBytes {α : Type} (bytes : α → List Byte) : Option α → List Byte
  | none => [0]
  | some x => 1 :: bytes x

/-- A fault set in 2 bytes (R170). -/
def faultBytes (l : List FaultName) : List Byte := beBytes 2 (faultSetNat l)

/-- A station set in 3 bytes (R170). -/
def stationSetBytes (l : List Nat) : List Byte := beBytes 3 (stationSetNat l)

/-! ### RUN (R159, R41) -/

/-- A collation as the run-status query reports it (R41). -/
def Collation.statusBytes (c : Collation) : List Byte :=
  beBytes 3 c.job.seq ++ [byteOf c.job.inc, flagByte c.job.reprint, flagByte c.handFinish, byteOf c.sheets.length,
    byteOf c.next] ++ faultBytes c.faults

/-- The collecting pocket: its state 1..3, and its collation when it holds one (R41). -/
def collectingBytes : Collecting → List Byte
  | .empty => [1]
  | .collecting c => 2 :: c.statusBytes
  | .complete c => 3 :: c.statusBytes

/-- The staging pocket: 1 EMPTY, or 2 HOLDING and its collation (R41). -/
def stagingBytes : Option Collation → List Byte
  | none => [1]
  | some c => 2 :: c.statusBytes

/-- The content of QUERY RUN (R159). The ten run counters follow without a count byte of their own, their number being fixed,
the total of the in-flight entries takes two bytes, and the collecting pocket stands before the staging pocket, each with its
collation after its state (the model's choices, log entry 10). -/
def runContent (s : State) : List Byte :=
  [byteOf s.line.state.code, flagByte s.line.ending, byteOf (StopReason.code s.line.reason)] ++
  beBytes 4 s.line.runId.toNat ++ [flagByte s.line.locked] ++
  s.line.counters.list.flatMap (beBytes 3) ++
  [flagByte s.line.permit, flagByte s.line.drive, if s.ring.linkUp then 1 else 2,
   byteOf s.queue.records.length, byteOf (pieceCount s)] ++
  beBytes 2 (flightTotal s) ++ beBytes 2 (reprintFree s) ++ beBytes 2 (logFree s) ++
  collectingBytes s.collation.collecting ++ stagingBytes s.collation.staging ++ [byteOf s.collation.strays]

/-- QUERY RUN (R159). -/
def queryRunRequest (tag : Byte) (index : List Byte) (s : State) : State :=
  queryRequest 65536 (fun _ s => runContent s) tag index s

/-! ### QUEUE (R20) -/

/-- The content of QUERY QUEUE (R20). -/
def queueContent (i : Nat) (s : State) : List Byte :=
  [byteOf s.queue.records.length, flagByte s.channel.held, byteOf s.queue.high, byteOf s.queue.low] ++
  optionBytes 3 s.queue.last ++ presentBytes JobRecord.bytes s.queue.records[i]?

/-- QUERY QUEUE (R20). -/
def queryQueueRequest (tag : Byte) (index : List Byte) (s : State) : State := queryRequest 64 queueContent tag index s

/-! ### TRACK, PIECE, STATION (R77) -/

/-- A signed count in four bytes, two's complement. -/
def signedBytes (v : Int) : List Byte := beBytes 4 (BitVec.ofInt 32 v).toNat

/-- The content of QUERY TRACK (R77). EP and NB take four bytes, and the slots are a list of L items, each a tag or the presence
byte 0 (the model's choice, log entry 10). -/
def trackContent (s : State) : List Byte :=
  [byteOf s.track.length] ++ beBytes 2 s.track.pulses ++ [byteOf s.sort.window] ++
  signedBytes s.track.position ++ signedBytes s.track.boundary ++
  [byteOf s.track.pitch, byteOf s.track.encoderErrors] ++ beBytes 2 s.track.nextSerial ++ [byteOf (pieceCount s)] ++
  listBytes (fun x => optionBytes 1 (x.map Piece.tag)) s.track.slots ++ optionBytes 1 s.track.jamSlot

/-- QUERY TRACK (R77). -/
def queryTrackRequest (tag : Byte) (index : List Byte) (s : State) : State :=
  queryRequest 65536 (fun _ s => trackContent s) tag index s

/-- A plan entry: its code (0 none, 1 mandatory, 2 optional, 3 forced) and its priority, 0 for none (log entry 10). -/
def PlanEntry.bytes : PlanEntry → List Byte
  | .none => [0, 0]
  | .mandatory => [1, 0]
  | .optional p => [2, byteOf p]
  | .forced => [3, 0]

/-- An output read of QUERY PIECE: the code that the PIECE record has for it, and the sequence and incarnation of a read value
only (R64, R77; the model's choice, log entry 10). -/
def OutputRead.bytes : OutputRead → List Byte
  | .none => [0]
  | .noRead => [1]
  | .value seq inc => 2 :: (beBytes 3 seq ++ [byteOf inc])

/-- A scheme match: entry index or residual, group, key, level (R64, R101). Residual is sent as an index that is none (log
entry 10). -/
def SchemeMatch.bytes (m : SchemeMatch) : List Byte :=
  optionBytes 2 m.entry ++ [byteOf m.group] ++ keyBytes m.key ++ [byteOf m.level]

/-- Every field of R64 for a piece, in its order. The plan is a list with a count byte, its entries in increasing station
index without the index, each in the code of `PlanEntry.bytes`, and the verification result has its code of the PIECE record
(the model's choices, log entry 10). -/
def Piece.bytes (p : Piece) : List Byte :=
  beBytes 2 p.serial ++ [byteOf p.tag] ++ p.job.bytes ++ faultBytes p.collationFaults ++ [flagByte p.diverted] ++
  faultBytes p.faults ++ beBytes 2 p.caliper ++ listBytes (fun x => x.2.bytes) p.plan ++
  stationSetBytes p.dropped ++ stationSetBytes p.withheld ++ stationSetBytes p.missed ++ stationSetBytes p.fed ++
  [flagByte p.saturated] ++ p.scheme.bytes ++
  listBytes (fun w => [byteOf w.station, byteOf w.closing]) p.windows ++ p.output.bytes ++ [byteOf p.verification.code]

/-- QUERY PIECE (R77): a slot of L or more is refused. -/
def queryPieceRequest (tag : Byte) (index : List Byte) (s : State) : State :=
  queryRequest s.track.length (fun i s => presentBytes Piece.bytes (pieceAt i s)) tag index s

/-- Every field of R70 for an entry, and its effective mode (R77, R79). -/
def StationEntry.bytes (e : StationEntry) : List Byte :=
  [byteOf e.node, byteOf e.kind.code, byteOf e.offset, byteOf e.window] ++ beBytes 2 e.caliper ++
  [byteOf e.lateLimit, byteOf e.mode.code, byteOf e.status.code, byteOf e.late, byteOf e.effectiveMode.code]

/-- QUERY STATION (R77). -/
def queryStationRequest (tag : Byte) (index : List Byte) (s : State) : State :=
  queryRequest 24 (fun i s => presentBytes StationEntry.bytes (stationAt i s)) tag index s

/-! ### BIN, GROUP (R122) -/

/-- An in-flight entry as QUERY BIN reports it (R122). -/
def Flight.bytes (f : Flight) : List Byte :=
  beBytes 2 f.serial ++ beBytes 3 f.seq ++ [byteOf f.inc] ++ keyBytes f.key ++ [byteOf f.pitch]

/-- An open bundle's record (R109). Residual is sent as an entry index that is none (log entry 10). -/
def Bundle.bytes (u : Bundle) : List Byte :=
  keyBytes u.key ++ [byteOf u.count] ++ beBytes 3 u.first ++ beBytes 3 u.last ++ optionBytes 2 u.entry ++
  [byteOf u.level, flagByte u.continued]

/-- The content of QUERY BIN (R122): the fields of R109, then the in-flight entries, the open bundle and the group. The list and
the bundle stand where R122 names them, after the tray bundle count and the previous tray key, and not a second time among the
fields of R109 (the model's choice, log entry 10). -/
def binContent (b : Nat) (s : State) : List Byte :=
  let x := binAt b s
  optionBytes 1 x.node ++ optionBytes 2 x.capacity ++ [byteOf x.state.code] ++ beBytes 2 x.landed ++
  beBytes 2 x.committed ++ beBytes 2 x.trayBundles ++ presentBytes keyBytes x.previousKey ++
  listBytes Flight.bytes x.flights ++ presentBytes Bundle.bytes x.bundle ++ optionBytes 1 (groupOfBin b s)

/-- QUERY BIN (R122). -/
def queryBinRequest (tag : Byte) (index : List Byte) (s : State) : State := queryRequest 32 binContent tag index s

/-- The content of QUERY GROUP (R122). The items of each bin of the chain follow without a count byte of their own: the chain's
count byte stands before them (the model's choice, log entry 10). -/
def groupContent (g : Nat) (s : State) : List Byte :=
  let x := groupAt g s
  listBytes (fun b => [byteOf b]) x.chain ++ [byteOf x.target, byteOf x.minimum, byteOf x.demote, byteOf x.refs] ++
  x.chain.flatMap (fun b =>
    [byteOf (binAt b s).state.code] ++ beBytes 2 (binAt b s).committed ++ [byteOf (binAt b s).flights.length])

/-- QUERY GROUP (R122). -/
def queryGroupRequest (tag : Byte) (index : List Byte) (s : State) : State := queryRequest 16 groupContent tag index s

/-! ### SCHEME, STOCK (R106, R49) -/

/-- The content of QUERY SCHEME (R106). -/
def schemeContent (i : Nat) (s : State) : List Byte :=
  (schemeAt i s).bytes ++ [byteOf (schemeAt i s).specificity, byteOf (pageOf i), byteOf (pageUseAt (pageOf i) s)]

/-- QUERY SCHEME (R106). -/
def querySchemeRequest (tag : Byte) (index : List Byte) (s : State) : State :=
  queryRequest 512 schemeContent tag index s

/-- The content of QUERY STOCK (R49). One byte is both the number of readings k and the count byte before the list of readings
(the model's choice, log entry 10). -/
def stockContent (i : Nat) (s : State) : List Byte :=
  let x := stockAt i s
  [byteOf x.averaging] ++ beBytes 2 x.nominal ++ [byteOf x.tolerance] ++ beBytes 2 x.margin ++
  listBytes (beBytes 2) x.ring ++ beBytes 2 x.ring.sum ++ beBytes 2 x.reference ++ beBytes 2 x.marginNow ++
  beBytes 2 x.upper ++ beBytes 2 x.thin

/-- QUERY STOCK (R49). -/
def queryStockRequest (tag : Byte) (index : List Byte) (s : State) : State := queryRequest 4 stockContent tag index s

/-! ### LOG, REPRINT, ALERTS (R145, R130, R169) -/

/-- The content of QUERY LOG (R145). -/
def logContent (s : State) : List Byte :=
  beBytes 2 (logUsed s) ++ beBytes 2 (logFree s) ++ beBytes 2 s.log.records.length ++
  optionBytes 2 (s.log.records.head?.map (·.serial)) ++ beBytes 2 s.log.serial ++ beBytes 2 s.log.lost ++
  [byteOf ((s.log.records.head?.map (·.length)).getD 0)] ++ beBytes 2 s.log.reserve

/-- QUERY LOG (R145). -/
def queryLogRequest (tag : Byte) (index : List Byte) (s : State) : State :=
  queryRequest 65536 (fun _ s => logContent s) tag index s

/-- The number of entries in a state (R130). -/
def entriesIn (st : EntryState) (s : State) : Nat := s.reprints.countP (fun e => e.state == st)

/-- The content of QUERY REPRINT (R130). -/
def reprintContent (i : Nat) (s : State) : List Byte :=
  beBytes 2 (entriesIn .open s) ++ beBytes 2 (entriesIn .requested s) ++ beBytes 2 (entriesIn .queued s) ++
  beBytes 2 (reprintFree s) ++ presentBytes (fun e => e.bytes ++ [byteOf e.state.code]) s.reprints[i]?

/-- QUERY REPRINT (R130). -/
def queryReprintRequest (tag : Byte) (index : List Byte) (s : State) : State :=
  queryRequest 256 reprintContent tag index s

/-- The highest-priority pending class (R169). -/
def highestPending (s : State) : Option AlertClass := AlertClass.all.find? (fun c => (alertOf c s).pending)

/-- The content of QUERY ALERTS (R169). With no class pending, the one byte 0 stands for the class and no byte for its detail;
then each class's flag and count follow class by class, in priority order and without a count byte, their number being fixed
(the model's choices, log entry 10). -/
def alertsContent (s : State) : List Byte :=
  (match highestPending s with
   | some c => byteOf c.code :: ((alertOf c s).detail.map AlertDetail.bytes).getD []
   | none => [0]) ++
  AlertClass.all.flatMap (fun c => [flagByte (alertOf c s).pending, byteOf (alertOf c s).count])

/-- QUERY ALERTS (R169). -/
def queryAlertsRequest (tag : Byte) (index : List Byte) (s : State) : State :=
  queryRequest 65536 (fun _ s => alertsContent s) tag index s

end Sys2Proof.Machine
end

