-- ==== Sys2Proof/Machine/Reports.lean ====
section
/-! DEFINITION. The reports of the stations and bins: STATION_STATUS (R72), SLOT_REPORT (R75, R76), FEED_RESULT (R85),
ENV_RESULT (R90), ADDR_SCAN (R92, R93) and BIN_EVENT (R113), each with the sources it is acted on from. -/

namespace Sys2Proof.Machine

/-- The station of a kind at a source node: the entry whose node it is, when it is of that kind (R21, R75, R85, R90,
R92). -/
def stationFor (k : StationKind) (src : Node) (s : State) : Option (Nat × StationEntry) :=
  match stationOfNode src.toNat s with
  | some (i, e) => if e.kind = k then some (i, e) else none
  | none => none

/-- STATION_STATUS from an entry (R72): the status is replaced, a READY report clears the late count, and STATION is raised
on a change to LOW, EMPTY or FAULT. Another value is taken and discarded. -/
def statusReport (i : Nat) (e : StationEntry) (value : Byte) (s : State) : State :=
  match reportedStatusOf value.toNat with
  | none => s
  | some .ready => putStation i (some { e with status := .ready, late := 0 }) s
  | some st =>
    let s1 := putStation i (some { e with status := st }) s
    if e.status = st then s1 else raiseAlert (.stationStatus i st) s1

/-- An occupancy fault (R76): the jam slot, JAM with OCCUPANCY, the occupancy jam, and the divert mark of a piece that an
ABSENT report did not see. -/
def occupancyFault (slot : Nat) (s : State) : State :=
  let s1 := s.setTrack { s.track with jamSlot := some slot }
  let s2 := requestStop .occupancy (raiseAlert (.occupancy slot) s1)
  updatePiece slot (fun p => { p with diverted := true }) s2

/-- SLOT_REPORT from a SLOT_CHECK entry (R75). -/
def slotReport (i : Nat) (e : StationEntry) (pitch occupancy : Byte) (s : State) : State :=
  if !runOpen s || !(occupancy == 1 || occupancy == 2) then s
  else if pitch.toNat ≠ s.track.pitch then lateReport i e s
  else if (occupancy == 1) = (pieceAt e.offset s).isSome then s
  else occupancyFault e.offset s

/-- A feed result from its code (R170). -/
def feedOutcomeOf : Nat → Option FeedOutcome
  | 1 => some .fed
  | 2 => some .miss
  | 3 => some .double
  | _ => none

/-- FEED_RESULT from an INSERT entry (R85): discarded in IDLE or with another result value, within a window the result of
that window (R86), and late otherwise. -/
def feedReport (i : Nat) (e : StationEntry) (tag result : Byte) (s : State) : State :=
  match feedOutcomeOf result.toNat with
  | none => s
  | some r =>
    if !runOpen s then s
    else if (slotOfWindow feedWindows i tag.toNat s).isSome then feedOutcomeAt i e.caliper tag.toNat r s
    else lateReport i e s

/-- ENV_RESULT from the ENVELOPE entry (R90). -/
def envReport (i : Nat) (e : StationEntry) (tag result : Byte) (s : State) : State :=
  if !runOpen s || !(result == 1 || result == 2) then s
  else
    match slotOfWindow [.envelope] i tag.toNat s with
    | none => lateReport i e s
    | some n =>
      updatePiece n (fun p => if result = 1 then p.closeWindow i else (p.closeWindow i).addFault .envelopeFault) s

/-- A read value differs from the piece's own (R92): MISMATCH, the MATCH alert and the MATCH pause (R93). -/
def mismatchAt (n i seq inc : Nat) (p : Piece) (s : State) : State :=
  let s1 := putSlot n (some (({ p.closeWindow i with output := .value seq inc } : Piece).addFault .mismatch)) s
  requestStop .mismatch (raiseAlert (.mismatch n p.serial p.job.seq p.job.inc seq inc) s1)

/-- A read of the piece in a slot within its SCAN_OUT window (R92): `value` is none for NO_READ. -/
def readAt (n i : Nat) (value : Option (Nat × Nat)) (s : State) : State :=
  match pieceAt n s, value with
  | some p, some (seq, inc) =>
    if seq = p.job.seq && inc = p.job.inc then
      putSlot n (some { p.closeWindow i with output := .value seq inc, verification := .verified }) s
    else mismatchAt n i seq inc p s
  | some p, none => putSlot n (some ({ p.closeWindow i with output := .noRead } : Piece).failedRead) s
  | none, _ => s

/-- ADDR_SCAN from the SCAN_OUT entry (R92). A result byte other than 1 and 2 is taken and discarded without a late count, which
R85 says of FEED_RESULT and R90 of ENV_RESULT, and R92 does not say (the model's reading, log entry 46). -/
def addrReport (i : Nat) (e : StationEntry) (tag result : Byte) (seq : BitVec 24) (inc : Byte) (s : State) : State :=
  if !runOpen s || !(result == 1 || result == 2) then s
  else
    match slotOfWindow [.scan] i tag.toNat s with
    | none => lateReport i e s
    | some n => readAt n i (if result = 1 then some (seq.toNat, inc.toNat) else none) s

end Sys2Proof.Machine
end

