-- ==== Sys2Proof/Machine/Returns.lean ====
section
/-! DEFINITION. Returns (R162): the untaken rule of each kind of frame the part originates, by the frame's destination and
its payload in the layout of R170. -/

namespace Sys2Proof.Machine

/-- The serial of the DIVERT_CMD that carried a tag: the newest one sent with it (R126). -/
def divertSerial (tag : Nat) (s : State) : Option Nat := s.track.divertSerials.find? (fun x => x % 256 == tag)

/-- An untaken DIVERT_CMD (R126). A tag that no DIVERT_CMD sent since the last power-on carried takes a free value as the
serial of the alert (log entry 7). -/
def divertReturn (dst : Node) (tag : Nat) (s : State) : State :=
  match divertSerial tag s with
  | some serial => divertUntaken dst serial s
  | none => divertUntaken dst (Config.strangerSerial s.freeIndex) (s.setFree (s.freeIndex + 1))

/-- An untaken BIN_SELECT at the bin of the frame's destination (R120). A destination that is no loaded bin's node has no
bin, and nothing happens (log entry 15). -/
def selectReturn (dst : Node) (tag : Nat) (s : State) : State :=
  match binOfNode dst.toNat s with
  | some b => selectUntaken b tag s
  | none => s

/-- An untaken BUNDLE_MARK at the bin of the frame's destination (R116; log entry 15). -/
def markReturn (dst : Node) (s : State) : State :=
  match binOfNode dst.toNat s with
  | some b => markUntaken b s
  | none => s

/-- The untaken rule of a kind (the table of R162). ANSWER, NOTICE, PITCH, RECORD_HOLD and RECORD_GO have none, and neither
has a kind the part does not originate, or a payload that is not in the layout of its kind (log entry 17). A SHEET_ACTION
whose action is not 0 counts as a DIVERT (log entry 43). -/
def untakenReturn (dst : Node) (kind : Byte) (payload : List Byte) (s : State) : State :=
  match kind.toNat, payload with
  | 17, [_, action, q2, q1, q0, inc] => sheetActionLost dst (action == 0) (ofBe [q2, q1, q0]) inc.toNat s
  | 18, [_] => nodeAbsent dst s
  | 19, [_] => nodeAbsent dst s
  | 21, [tag, _] => feedUntaken dst tag.toNat s
  | 23, [tag] => envUntaken dst tag.toNat s
  | 25, [tag] => armUntaken dst tag.toNat s
  | 29, [tag] => divertReturn dst tag.toNat s
  | 32, [tag] => selectReturn dst tag.toNat s
  | 34, [_] => markReturn dst s
  | _, _ => s

/-- A return (R162): a TAKEN one ends the frame's life, an untaken one acts by the rule of its kind. -/
def takeReturn (dst : Node) (taken : Bool) (kind : Byte) (payload : List Byte) (s : State) : State :=
  if taken then s else untakenReturn dst kind payload s

end Sys2Proof.Machine
end

