-- ==== Sys2Proof/Machine/Ring.lean ====
section
/-! DEFINITION. The Ring Port: what it does with a frame that passes the check (R161), the management requests by the bytes
of their frames (R165, R170), the reports by kind, the arbiter of RING OUT (R163), the link (R164) and RESET_N (R171). -/

namespace Sys2Proof.Machine

/-! ### Handling by source and destination (R161) -/

/-- A frame with its TAKEN mark set (R161). -/
def markedTaken (f : RingFrame) : RingFrame := { f with header := { f.header with taken := true } }

/-- The Ring Port can receive the frame: there is a signal on RING IN (R164; log entry 18), and the payload is at most 120
bytes long (R160). -/
def receivable (f : RingFrame) (s : State) : Bool := s.ring.linkUp && decide (f.payload.length ≤ Config.payloadLimit)

/-- The handling of R161 for a received frame that is no return of an own kind. `action` is what the owning block does with
it: none when the block does not act on it. A frame to node 0 that is acted on is forwarded marked TAKEN, a broadcast that is
acted on with its mark unchanged, and every other frame unchanged. A frame from node 0 is stripped. -/
def deliver (f : RingFrame) (action : State → Option State) (s : State) : State :=
  if !receivable f s || f.header.src == 0 then s
  else if f.header.dst = 0 then
    match action s with
    | some t => forwardFrame (markedTaken f) t
    | none => forwardFrame f s
  else if f.header.dst = Config.broadcast then forwardFrame f ((action s).getD s)
  else forwardFrame f s

/-- The part acts on a management frame only when it comes from the strapped supervisor address, to node 0 (R161, R165). -/
def fromSupervisor (h : Header) (s : State) : Bool :=
  supervisorReachable s && h.src == s.supervisor && h.dst == 0

/-- What the Supervisor Channel does with a management frame: the request's work, when the frame is the supervisor's. -/
def manage (h : Header) (work : State → State) (s : State) : Option State :=
  if fromSupervisor h s then some (work s) else none

/-- A management request that arrives as a frame of a kind with a payload (R161, R165). -/
def request (h : Header) (kind : Byte) (payload : List Byte) (work : State → State) (s : State) : State :=
  deliver { header := h, kind := kind, payload := payload } (manage h work) s

/-- A report that arrives as a frame of a kind with a payload. -/
def report (h : Header) (kind : Byte) (payload : List Byte) (action : State → Option State) (s : State) : State :=
  deliver { header := h, kind := kind, payload := payload } action s

/-! ### Management requests by their bytes (R165, R170) -/

/-- Refuse a request with RANGE. -/
def refuseRange (tag : Byte) (s : State) : State := sendAnswer tag .range [] s

/-- A management frame without a payload, and so without a tag: refused for its length at the step of the request's own
judgement that R165 names, with a free value as the tag of the ANSWER (log entry 6). Of the kinds, only RECORD has a state
step that does not need the missing bytes. -/
def taglessRequest (kind : Byte) (s : State) : State :=
  sendAnswer (Config.missingTag s.freeIndex) (if kind = 1 && !intakeOpen s then .state else .range) []
    (s.setFree (s.freeIndex + 1))

/-- LOAD by its table code (R170). -/
def loadRequest (tag table : Byte) (items : List Byte) (s : State) : State :=
  match table.toNat with
  | 1 => loadProfileRequest tag items s
  | 2 => loadStationRequest tag items s
  | 3 => loadSchemeRequest tag items s
  | 4 => loadGroupRequest tag items s
  | 5 => loadBinRequest tag items s
  | _ => refuseRange tag s

/-- QUERY by its subject code, in the order of the table of R167. -/
def querySubject (tag subject : Byte) (index : List Byte) (s : State) : State :=
  match subject.toNat with
  | 1 => queryRunRequest tag index s
  | 2 => queryQueueRequest tag index s
  | 3 => queryTrackRequest tag index s
  | 4 => queryPieceRequest tag index s
  | 5 => queryStationRequest tag index s
  | 6 => queryBinRequest tag index s
  | 7 => queryGroupRequest tag index s
  | 8 => querySchemeRequest tag index s
  | 9 => queryStockRequest tag index s
  | 10 => queryLogRequest tag index s
  | 11 => queryReprintRequest tag index s
  | 12 => queryAlertsRequest tag index s
  | _ => refuseRange tag s

/-- CONTROL by its operation code (R170). -/
def controlRequest (tag operation : Byte) (operands : List Byte) (s : State) : State :=
  match operation.toNat with
  | 1 => openRunRequest tag operands s
  | 2 => startRequest tag operands s
  | 3 => pauseRequest tag operands s
  | 4 => resumeRequest tag operands s
  | 5 => flushRequest tag operands s
  | 6 => abortRequest tag operands s
  | 7 => closeRunRequest tag operands s
  | 8 => resetLineRequest tag operands s
  | 9 => clearSlotsRequest tag operands s
  | 10 => skipRequest tag operands s
  | 11 => stationModeRequest tag operands s
  | 12 => binModeRequest tag operands s
  | 13 => relearnRequest tag operands s
  | 14 => ackRequest tag operands s
  | _ => refuseRange tag s

/-- A management request by its kind and payload (R165, R170). A LOAD, QUERY or CONTROL that ends after its tag names no
table, subject or operation and is refused with RANGE. -/
def managementWork (kind : Byte) (payload : List Byte) (s : State) : State :=
  match payload with
  | [] => taglessRequest kind s
  | tag :: rest =>
    match kind.toNat, rest with
    | 1, body => recordRequest tag body s
    | 2, table :: items => loadRequest tag table items s
    | 3, subject :: index => querySubject tag subject index s
    | 4, operation :: operands => controlRequest tag operation operands s
    | 5, operands => logReadRequest tag operands s
    | 6, operands => reprintReadRequest tag operands s
    | _, _ => refuseRange tag s

/-- The management kinds (R161, R170). -/
def isManagement (kind : Byte) : Bool := decide (1 ≤ kind.toNat) && decide (kind.toNat ≤ 6)

/-! ### Reports -/

/-- The scan in the ten bytes of a SHEET_SCAN payload (R170). -/
def readScan : List Byte → Option RawScan
  | [serial, stock, q2, q1, q0, inc, page, pages, c1, c0] =>
    some
      { serial := serial, stock := stock, seq := q2 ++ q1 ++ q0, inc := inc, page := page, pages := pages,
        caliper := c1 ++ c0 }
  | _ => none

/-- The ten bytes of a scan (R170). -/
def scanBytes (x : RawScan) : List Byte :=
  [x.serial, x.stock] ++ beBytes 3 x.seq.toNat ++ [x.inc, x.page, x.pages] ++ beBytes 2 x.caliper.toNat

/-- SHEET_SCAN: acted on from the SHEET_SCANNER entry (R21). -/
def scanAction (h : Header) (x : RawScan) (s : State) : Option State :=
  match stationFor .sheetScanner h.src s with
  | some _ => some (takeScan (scanOf x) s)
  | none => none

/-- STATION_STATUS: acted on from any entry of the station table (R72). -/
def statusAction (h : Header) (value : Byte) (s : State) : Option State :=
  match stationOfNode h.src.toNat s with
  | some (i, e) => some (statusReport i e value s)
  | none => none

/-- SLOT_REPORT: acted on from a SLOT_CHECK entry (R75). -/
def slotAction (h : Header) (pitch occupancy : Byte) (s : State) : Option State :=
  match stationFor .slotCheck h.src s with
  | some (i, e) => some (slotReport i e pitch occupancy s)
  | none => none

/-- FEED_RESULT: acted on from an INSERT entry (R85). -/
def feedAction (h : Header) (tag result : Byte) (s : State) : Option State :=
  match stationFor .insert h.src s with
  | some (i, e) => some (feedReport i e tag result s)
  | none => none

/-- ENV_RESULT: acted on from the ENVELOPE entry (R90). -/
def envAction (h : Header) (tag result : Byte) (s : State) : Option State :=
  match stationFor .envelope h.src s with
  | some (i, e) => some (envReport i e tag result s)
  | none => none

/-- ADDR_SCAN: acted on from the SCAN_OUT entry (R92). -/
def addrAction (h : Header) (tag result : Byte) (seq : BitVec 24) (inc : Byte) (s : State) : Option State :=
  match stationFor .scanOut h.src s with
  | some (i, e) => some (addrReport i e tag result seq inc s)
  | none => none

/-- BIN_EVENT: acted on from a loaded bin's node (R113). -/
def binAction (h : Header) (event : Nat → State → State) (s : State) : Option State :=
  match binOfNode h.src.toNat s with
  | some b => some (event b s)
  | none => none

/-- What a BIN_EVENT does by its event value (R113): 1 LANDED, 2 SWEPT, 3 FULL, and any other value nothing. -/
def binEventOf (value : Byte) (b : Nat) (s : State) : State :=
  match value.toNat with
  | 1 => landedAt b s
  | 2 => sweptAt b s
  | 3 => fullAt b s
  | _ => s

/-- What the owning block does with a frame of a kind that is no management kind: none for a kind the part does not act on,
and for a payload that is not in the kind's layout (log entry 19). -/
def reportAction (h : Header) (kind : Byte) (payload : List Byte) (s : State) : Option State :=
  match kind.toNat, payload with
  | 16, bytes =>
    match readScan bytes with
    | some x => scanAction h x s
    | none => none
  | 22, [tag, result] => feedAction h tag result s
  | 24, [tag, result] => envAction h tag result s
  | 26, [tag, result, q2, q1, q0, inc] => addrAction h tag result (q2 ++ q1 ++ q0) inc s
  | 27, [pitch, occupancy] => slotAction h pitch occupancy s
  | 28, [value] => statusAction h value s
  | 33, [value] => binAction h (binEventOf value) s
  | _, _ => none

/-- What the part does with a frame of any kind (R161). -/
def frameAction (f : RingFrame) (s : State) : Option State :=
  if isManagement f.kind then manage f.header (managementWork f.kind f.payload) s
  else reportAction f.header f.kind f.payload s

/-- A received frame that passes the check (R161): a return of the part's own, or a frame to be delivered. -/
def receive (f : RingFrame) (s : State) : State :=
  if f.header.src = 0 then
    if receivable f s then takeReturn f.header.dst f.header.taken f.kind f.payload s else s
  else deliver f (frameAction f) s

/-- An untaken return of a kind, received while RING IN has a signal (R162, R164). -/
def onReturn (rule : State → State) (s : State) : State := if s.ring.linkUp then rule s else s

/-! ### RING OUT (R163), the link (R164) and RESET_N (R171) -/

/-- RING OUT is free (R163): the oldest frame of the forward buffer is sent if it holds any, and otherwise the oldest own
frame. -/
def sendNext (s : State) : State :=
  match s.ring.forward, s.ring.own with
  | f :: rest, _ => s.setRing { s.ring with forward := rest, out := some f }
  | [], o :: rest => s.setRing { s.ring with own := rest, out := some o.toRing }
  | [], [] => s

/-- RING IN loses its signal while UP (R164). -/
def loseLink (s : State) : State :=
  requestStop .linkDown (raiseAlert .linkDown (s.setRing { s.ring with linkUp := false, forward := [] }))

/-- RING IN has its signal again while DOWN (R164). -/
def regainLink (s : State) : State := raiseAlert .linkUp (s.setRing { s.ring with linkUp := true })

/-- A change of RESET_N: every block at its power-on values, the commands that wait and the free values used so far kept
(R171; log entry 2). -/
def powerOnKeeping (high : Bool) (supervisor : Node) (linkUp : Bool) (s : State) : State :=
  { State.powerOn supervisor linkUp with resetHigh := high, freeIndex := s.freeIndex, pending := s.pending }

/-- RESET_N goes low (R171): the part is held at its power-on values; the straps are not read and the link is not sampled
(log entry 2). -/
def holdReset (s : State) : State := powerOnKeeping false 0 false s

/-- RESET_N goes high (R171): the straps are read, the link status is sampled and the part starts in IDLE. Without a low
level before it there is no release, and nothing happens (log entry 3). -/
def releaseReset (straps : Node) (signal : Bool) (s : State) : State :=
  if s.resetHigh then s else powerOnKeeping true straps signal s

/-- While RESET_N is low the part is held at its power-on values: no event changes it (R171). -/
def whileHigh (work : State → State) (s : State) : State := if s.resetHigh then work s else s

end Sys2Proof.Machine
end

