-- ==== Sys2Proof/Machine/Events.lean ====
section
/-! DEFINITION. The meanings of the events at the pins: RESET_N, the encoder and what its pulses bring about, the frames of RING IN
as such, RING OUT and the link. -/

namespace Sys2Proof.Machine

/-- The three outcomes of a command. Every meaning of this model answers a next state. -/
abbrev Result := Host.Outcome State Fault Refusal

/-- A command taken while RESET_N is high; while it is low the part is held and nothing changes (R171). -/
def take (work : State → State) (s : State) : Result := .next (whileHigh work s)

/-- RESET_N_LOW (R171). -/
def execResetNLow (s : State) : Result :=
  .next (holdReset s)

/-- RESET_N_HIGH (R171). -/
def execResetNHigh (straps : Node) (signal : Bool) (s : State) : Result :=
  .next (releaseReset straps signal s)

/-- ENCODER_PULSE (R59, R60): a forward pulse that brings EP to NB is a pitch advance. -/
def execEncoderPulse (step : EncoderStep) (s : State) : Result :=
  take (encoderStep step) s

/-- The next forward pulse brings EP to NB in an open run: it is a pitch advance (R60). -/
def advanceDue (s : State) : Bool := runOpen s && s.track.position + 1 == s.track.boundary

/-- PITCH_ADVANCE (R60, R65): the forward pulse that brings EP to NB. Where the next forward pulse of the encoder would not
do that, the event has not happened and nothing changes (log entry 3). -/
def execPitchAdvance (s : State) : Result :=
  take (fun s => if advanceDue s then forwardPulse s else s) s

/-- WINDOW_CLOSE_BY_PASSING (R67): every window whose piece stands beyond its closing slot closes without a result. An
advance does so itself (R65); this is the event on its own. -/
def execWindowCloseByPassing (s : State) : Result :=
  take (fun s => if runOpen s then passAllWindows s else s) s

/-- SORTER_TIMEOUT (R119): the advance at which a flight times out, since the flights are examined at an advance only. Where
the next forward pulse is no advance, or no flight times out at it, the event has not happened and nothing changes (log entry
3). -/
def execSorterTimeout (s : State) : Result :=
  take (fun s => if advanceDue s && timeoutDue s then forwardPulse s else s) s

/-- DRAIN_COMPLETE (R152): the drain-completion check. Every step that can complete a drain makes it itself; this is the
event on its own. -/
def execDrainComplete (s : State) : Result :=
  take drainCheck s

/-- FRAME_CHECK_FAIL (R160): bytes that fail the check are dropped. Bytes that pass it are a frame, and are received. -/
def execFrameCheckFail (bytes : List Byte) (s : State) : Result :=
  take (fun s => match checkFrame bytes with
    | none => s
    | some f => receive f s) s

/-- FORWARD_FRAME (R161): a frame received on RING IN that passes the check. -/
def execForwardFrame (f : RingFrame) (s : State) : Result :=
  take (receive f) s

/-- RING_OUT_SEND (R163). -/
def execRingOutSend (s : State) : Result :=
  take sendNext s

/-- LINK_LOSS (R164): loss of signal while UP; while DOWN there is no signal to lose (log entry 3). -/
def execLinkLoss (s : State) : Result :=
  take (fun s => if s.ring.linkUp then loseLink s else s) s

/-- LINK_RETURN (R164): return of signal while DOWN (log entry 3). -/
def execLinkReturn (s : State) : Result :=
  take (fun s => if s.ring.linkUp then s else regainLink s) s


end Sys2Proof.Machine
end

