-- ==== Sys2Proof/Machine/RequestCommands.lean ====
section
/-! DEFINITION. The meanings of RECORD, LOAD and QUERY: each frame is handled by its source and destination (R161), and the
supervisor's is carried out and answered (R165). -/

namespace Sys2Proof.Machine

/-- RECORD (R2). -/
def execRecord (h : Header) (tag : Byte) (body : List Byte) (s : State) : Result :=
  take (request h 1 (tag :: body) (recordRequest tag body)) s

/-- LOAD PROFILE (R166). -/
def execLoadProfile (h : Header) (tag : Byte) (items : List Byte) (s : State) : Result :=
  take (request h 2 (tag :: 1 :: items) (loadProfileRequest tag items)) s

/-- LOAD STATION (R71). -/
def execLoadStation (h : Header) (tag : Byte) (items : List Byte) (s : State) : Result :=
  take (request h 2 (tag :: 2 :: items) (loadStationRequest tag items)) s

/-- LOAD SCHEME (R103). -/
def execLoadScheme (h : Header) (tag : Byte) (items : List Byte) (s : State) : Result :=
  take (request h 2 (tag :: 3 :: items) (loadSchemeRequest tag items)) s

/-- LOAD GROUP (R108). -/
def execLoadGroup (h : Header) (tag : Byte) (items : List Byte) (s : State) : Result :=
  take (request h 2 (tag :: 4 :: items) (loadGroupRequest tag items)) s

/-- LOAD BIN (R110). -/
def execLoadBin (h : Header) (tag : Byte) (items : List Byte) (s : State) : Result :=
  take (request h 2 (tag :: 5 :: items) (loadBinRequest tag items)) s

/-- QUERY RUN (R159). -/
def execQueryRun (h : Header) (tag : Byte) (index : List Byte) (s : State) : Result :=
  take (request h 3 (tag :: 1 :: index) (queryRunRequest tag index)) s

/-- QUERY QUEUE (R20). -/
def execQueryQueue (h : Header) (tag : Byte) (index : List Byte) (s : State) : Result :=
  take (request h 3 (tag :: 2 :: index) (queryQueueRequest tag index)) s

/-- QUERY TRACK (R77). -/
def execQueryTrack (h : Header) (tag : Byte) (index : List Byte) (s : State) : Result :=
  take (request h 3 (tag :: 3 :: index) (queryTrackRequest tag index)) s

/-- QUERY PIECE (R77). -/
def execQueryPiece (h : Header) (tag : Byte) (index : List Byte) (s : State) : Result :=
  take (request h 3 (tag :: 4 :: index) (queryPieceRequest tag index)) s

/-- QUERY STATION (R77). -/
def execQueryStation (h : Header) (tag : Byte) (index : List Byte) (s : State) : Result :=
  take (request h 3 (tag :: 5 :: index) (queryStationRequest tag index)) s

/-- QUERY BIN (R122). -/
def execQueryBin (h : Header) (tag : Byte) (index : List Byte) (s : State) : Result :=
  take (request h 3 (tag :: 6 :: index) (queryBinRequest tag index)) s

/-- QUERY GROUP (R122). -/
def execQueryGroup (h : Header) (tag : Byte) (index : List Byte) (s : State) : Result :=
  take (request h 3 (tag :: 7 :: index) (queryGroupRequest tag index)) s

/-- QUERY SCHEME (R106). -/
def execQueryScheme (h : Header) (tag : Byte) (index : List Byte) (s : State) : Result :=
  take (request h 3 (tag :: 8 :: index) (querySchemeRequest tag index)) s

/-- QUERY STOCK (R49). -/
def execQueryStock (h : Header) (tag : Byte) (index : List Byte) (s : State) : Result :=
  take (request h 3 (tag :: 9 :: index) (queryStockRequest tag index)) s

/-- QUERY LOG (R145). -/
def execQueryLog (h : Header) (tag : Byte) (index : List Byte) (s : State) : Result :=
  take (request h 3 (tag :: 10 :: index) (queryLogRequest tag index)) s

/-- QUERY REPRINT (R130). -/
def execQueryReprint (h : Header) (tag : Byte) (index : List Byte) (s : State) : Result :=
  take (request h 3 (tag :: 11 :: index) (queryReprintRequest tag index)) s

/-- QUERY ALERTS (R169). -/
def execQueryAlerts (h : Header) (tag : Byte) (index : List Byte) (s : State) : Result :=
  take (request h 3 (tag :: 12 :: index) (queryAlertsRequest tag index)) s


end Sys2Proof.Machine
end

