-- ==== Sys2Proof/Machine/ControlCommands.lean ====
section
/-! DEFINITION. The meanings of CONTROL, LOG_READ and REPRINT_READ, and of a management frame that names nothing known (R165). -/

namespace Sys2Proof.Machine

/-- OPEN_RUN (R18). -/
def execOpenRun (h : Header) (tag : Byte) (operands : List Byte) (s : State) : Result :=
  take (request h 4 (tag :: 1 :: operands) (openRunRequest tag operands)) s

/-- START (R148). -/
def execStart (h : Header) (tag : Byte) (operands : List Byte) (s : State) : Result :=
  take (request h 4 (tag :: 2 :: operands) (startRequest tag operands)) s

/-- PAUSE (R148). -/
def execPause (h : Header) (tag : Byte) (operands : List Byte) (s : State) : Result :=
  take (request h 4 (tag :: 3 :: operands) (pauseRequest tag operands)) s

/-- RESUME (R149). -/
def execResume (h : Header) (tag : Byte) (operands : List Byte) (s : State) : Result :=
  take (request h 4 (tag :: 4 :: operands) (resumeRequest tag operands)) s

/-- FLUSH (R151). -/
def execFlush (h : Header) (tag : Byte) (operands : List Byte) (s : State) : Result :=
  take (request h 4 (tag :: 5 :: operands) (flushRequest tag operands)) s

/-- ABORT (R153). -/
def execAbort (h : Header) (tag : Byte) (operands : List Byte) (s : State) : Result :=
  take (request h 4 (tag :: 6 :: operands) (abortRequest tag operands)) s

/-- CLOSE_RUN (R154). -/
def execCloseRun (h : Header) (tag : Byte) (operands : List Byte) (s : State) : Result :=
  take (request h 4 (tag :: 7 :: operands) (closeRunRequest tag operands)) s

/-- RESET_LINE (R155). -/
def execResetLine (h : Header) (tag : Byte) (operands : List Byte) (s : State) : Result :=
  take (request h 4 (tag :: 8 :: operands) (resetLineRequest tag operands)) s

/-- CLEAR_SLOTS (R156). -/
def execClearSlots (h : Header) (tag : Byte) (operands : List Byte) (s : State) : Result :=
  take (request h 4 (tag :: 9 :: operands) (clearSlotsRequest tag operands)) s

/-- SKIP_RECORD (R132). -/
def execSkipRecord (h : Header) (tag : Byte) (operands : List Byte) (s : State) : Result :=
  take (request h 4 (tag :: 10 :: operands) (skipRequest tag operands)) s

/-- STATION_MODE (R78). -/
def execStationMode (h : Header) (tag : Byte) (operands : List Byte) (s : State) : Result :=
  take (request h 4 (tag :: 11 :: operands) (stationModeRequest tag operands)) s

/-- BIN_MODE ON (R111). -/
def execBinModeOn (h : Header) (tag bin : Byte) (s : State) : Result :=
  take (request h 4 [tag, 12, bin, 1] (binOnRequest tag bin)) s

/-- BIN_MODE OFF (R111). -/
def execBinModeOff (h : Header) (tag bin : Byte) (s : State) : Result :=
  take (request h 4 [tag, 12, bin, 2] (binOffRequest tag bin)) s

/-- RELEARN (R44). -/
def execRelearn (h : Header) (tag : Byte) (operands : List Byte) (s : State) : Result :=
  take (request h 4 (tag :: 13 :: operands) (relearnRequest tag operands)) s

/-- ACK_ALERT (R169). -/
def execAckAlert (h : Header) (tag : Byte) (operands : List Byte) (s : State) : Result :=
  take (request h 4 (tag :: 14 :: operands) (ackRequest tag operands)) s

/-- LOG_READ (R143). -/
def execLogRead (h : Header) (tag : Byte) (operands : List Byte) (s : State) : Result :=
  take (request h 5 (tag :: operands) (logReadRequest tag operands)) s

/-- REPRINT_READ (R129). -/
def execReprintRead (h : Header) (tag : Byte) (operands : List Byte) (s : State) : Result :=
  take (request h 6 (tag :: operands) (reprintReadRequest tag operands)) s

/-- A management frame whose operation, table or subject is unknown (R165): taken and refused with RANGE. -/
def execUnknownManagementRequest (h : Header) (kind : Byte) (payload : List Byte) (s : State) : Result :=
  take (request h kind payload (managementWork kind payload)) s


end Sys2Proof.Machine
end

