-- ==== Sys2Proof/Machine/ReportCommands.lean ====
section
/-! DEFINITION. The meanings of the reports of stations and bins. -/

namespace Sys2Proof.Machine

/-- SHEET_SCAN (R21, R25). -/
def execSheetScan (h : Header) (scan : RawScan) (s : State) : Result :=
  take (report h 16 (scanBytes scan) (scanAction h scan)) s

/-- STATION_STATUS (R72). -/
def execStationStatus (h : Header) (value : Byte) (s : State) : Result :=
  take (report h 28 [value] (statusAction h value)) s

/-- SLOT_REPORT (R75). -/
def execSlotReport (h : Header) (pitch occupancy : Byte) (s : State) : Result :=
  take (report h 27 [pitch, occupancy] (slotAction h pitch occupancy)) s

/-- FEED_RESULT (R85). -/
def execFeedResult (h : Header) (pieceTag result : Byte) (s : State) : Result :=
  take (report h 22 [pieceTag, result] (feedAction h pieceTag result)) s

/-- ENV_RESULT (R90). -/
def execEnvResult (h : Header) (pieceTag result : Byte) (s : State) : Result :=
  take (report h 24 [pieceTag, result] (envAction h pieceTag result)) s

/-- ADDR_SCAN (R92). -/
def execAddrScan (h : Header) (pieceTag result : Byte) (seq : BitVec 24) (inc : Byte) (s : State) : Result :=
  take (report h 26 (pieceTag :: result :: (beBytes 3 seq.toNat ++ [inc])) (addrAction h pieceTag result seq inc)) s

/-- BIN_EVENT LANDED (R114). -/
def execLanded (h : Header) (s : State) : Result :=
  take (report h 33 [1] (binAction h landedAt)) s

/-- BIN_EVENT SWEPT (R117). -/
def execSwept (h : Header) (s : State) : Result :=
  take (report h 33 [2] (binAction h sweptAt)) s

/-- BIN_EVENT FULL (R118). -/
def execFull (h : Header) (s : State) : Result :=
  take (report h 33 [3] (binAction h fullAt)) s

/-- A BIN_EVENT with another event value (R113): taken and discarded. -/
def execOtherBinEvent (h : Header) (event : Byte) (s : State) : Result :=
  take (report h 33 [event] (binAction h (binEventOf event))) s


end Sys2Proof.Machine
end

