-- ==== Sys2Proof/Machine/ReturnCommands.lean ====
section
/-! DEFINITION. The meanings of the returns of the part's own frames. -/

namespace Sys2Proof.Machine

/-- FRAME_RETURN (R162). -/
def execFrameReturn (dst : Node) (taken : Bool) (kind : Byte) (payload : List Byte) (s : State) : Result :=
  take (receive { header := { dst := dst, src := 0, taken := taken }, kind := kind, payload := payload }) s

/-- An untaken SHEET_ACTION (R23). -/
def execSheetActionUntaken (dst : Node) (_serial action : Byte) (seq : BitVec 24) (inc : Byte) (s : State) : Result :=
  take (onReturn (sheetActionLost dst (action == 0) seq.toNat inc.toNat)) s

/-- An untaken FOLD_SET (R38, R73). -/
def execFoldSetUntaken (dst : Node) (_panels : Byte) (s : State) : Result :=
  take (onReturn (nodeAbsent dst)) s

/-- An untaken FEED_PERMIT (R157, R73): the permit keeps its value. -/
def execFeedPermitUntaken (dst : Node) (_value : Byte) (s : State) : Result :=
  take (onReturn (nodeAbsent dst)) s

/-- An untaken FEED_CMD (R88). The kind that the frame carries is not consulted: the kind kept with the open window decides (the
model's choice, log entry 42). -/
def execFeedCmdUntaken (dst : Node) (pieceTag _kind : Byte) (s : State) : Result :=
  take (onReturn (feedUntaken dst pieceTag.toNat)) s

/-- An untaken ENV_CMD (R90). -/
def execEnvCmdUntaken (dst : Node) (pieceTag : Byte) (s : State) : Result :=
  take (onReturn (envUntaken dst pieceTag.toNat)) s

/-- An untaken SCAN_ARM (R94). -/
def execScanArmUntaken (dst : Node) (pieceTag : Byte) (s : State) : Result :=
  take (onReturn (armUntaken dst pieceTag.toNat)) s

/-- An untaken DIVERT_CMD (R126). -/
def execDivertCmdUntaken (dst : Node) (pieceTag : Byte) (s : State) : Result :=
  take (onReturn (divertReturn dst pieceTag.toNat)) s

/-- An untaken BIN_SELECT (R120). -/
def execBinSelectUntaken (dst : Node) (pieceTag : Byte) (s : State) : Result :=
  take (onReturn (selectReturn dst pieceTag.toNat)) s

/-- An untaken BUNDLE_MARK (R116). -/
def execBundleMarkUntaken (dst : Node) (_count : Byte) (s : State) : Result :=
  take (onReturn (markReturn dst)) s

/-- An untaken RECORD_HOLD or RECORD_GO (R17): no untaken rule, the held flag keeps its value. -/
def execFlowFrameUntaken (dst : Node) (hold : Bool) (s : State) : Result :=
  take (onReturn (untakenReturn dst (if hold then 10 else 11) [])) s


end Sys2Proof.Machine
end

