-- ==== Sys2Proof/Machine/Dispatch.lean ====
section
/-! DEFINITION. One arm for each command: the meaning it has. -/

namespace Sys2Proof.Machine

def exec (i : Instr) (s : State) : Host.Outcome State Fault Refusal :=
  match i with
  | .resetNLow => Sys2Proof.Machine.execResetNLow s
  | .resetNHigh straps signal => Sys2Proof.Machine.execResetNHigh straps signal s
  | .encoderPulse step => Sys2Proof.Machine.execEncoderPulse step s
  | .pitchAdvance => Sys2Proof.Machine.execPitchAdvance s
  | .windowCloseByPassing => Sys2Proof.Machine.execWindowCloseByPassing s
  | .sorterTimeout => Sys2Proof.Machine.execSorterTimeout s
  | .drainComplete => Sys2Proof.Machine.execDrainComplete s
  | .frameCheckFail bytes => Sys2Proof.Machine.execFrameCheckFail bytes s
  | .forwardFrame f => Sys2Proof.Machine.execForwardFrame f s
  | .ringOutSend => Sys2Proof.Machine.execRingOutSend s
  | .linkLoss => Sys2Proof.Machine.execLinkLoss s
  | .linkReturn => Sys2Proof.Machine.execLinkReturn s
  | .record h tag body => Sys2Proof.Machine.execRecord h tag body s
  | .loadProfile h tag items => Sys2Proof.Machine.execLoadProfile h tag items s
  | .loadStation h tag items => Sys2Proof.Machine.execLoadStation h tag items s
  | .loadScheme h tag items => Sys2Proof.Machine.execLoadScheme h tag items s
  | .loadGroup h tag items => Sys2Proof.Machine.execLoadGroup h tag items s
  | .loadBin h tag items => Sys2Proof.Machine.execLoadBin h tag items s
  | .queryRun h tag index => Sys2Proof.Machine.execQueryRun h tag index s
  | .queryQueue h tag index => Sys2Proof.Machine.execQueryQueue h tag index s
  | .queryTrack h tag index => Sys2Proof.Machine.execQueryTrack h tag index s
  | .queryPiece h tag index => Sys2Proof.Machine.execQueryPiece h tag index s
  | .queryStation h tag index => Sys2Proof.Machine.execQueryStation h tag index s
  | .queryBin h tag index => Sys2Proof.Machine.execQueryBin h tag index s
  | .queryGroup h tag index => Sys2Proof.Machine.execQueryGroup h tag index s
  | .queryScheme h tag index => Sys2Proof.Machine.execQueryScheme h tag index s
  | .queryStock h tag index => Sys2Proof.Machine.execQueryStock h tag index s
  | .queryLog h tag index => Sys2Proof.Machine.execQueryLog h tag index s
  | .queryReprint h tag index => Sys2Proof.Machine.execQueryReprint h tag index s
  | .queryAlerts h tag index => Sys2Proof.Machine.execQueryAlerts h tag index s
  | .openRun h tag operands => Sys2Proof.Machine.execOpenRun h tag operands s
  | .start h tag operands => Sys2Proof.Machine.execStart h tag operands s
  | .pause h tag operands => Sys2Proof.Machine.execPause h tag operands s
  | .resume h tag operands => Sys2Proof.Machine.execResume h tag operands s
  | .flush h tag operands => Sys2Proof.Machine.execFlush h tag operands s
  | .abort h tag operands => Sys2Proof.Machine.execAbort h tag operands s
  | .closeRun h tag operands => Sys2Proof.Machine.execCloseRun h tag operands s
  | .resetLine h tag operands => Sys2Proof.Machine.execResetLine h tag operands s
  | .clearSlots h tag operands => Sys2Proof.Machine.execClearSlots h tag operands s
  | .skipRecord h tag operands => Sys2Proof.Machine.execSkipRecord h tag operands s
  | .stationMode h tag operands => Sys2Proof.Machine.execStationMode h tag operands s
  | .binModeOn h tag bin => Sys2Proof.Machine.execBinModeOn h tag bin s
  | .binModeOff h tag bin => Sys2Proof.Machine.execBinModeOff h tag bin s
  | .relearn h tag operands => Sys2Proof.Machine.execRelearn h tag operands s
  | .ackAlert h tag operands => Sys2Proof.Machine.execAckAlert h tag operands s
  | .logRead h tag operands => Sys2Proof.Machine.execLogRead h tag operands s
  | .reprintRead h tag operands => Sys2Proof.Machine.execReprintRead h tag operands s
  | .sheetScan h scan => Sys2Proof.Machine.execSheetScan h scan s
  | .stationStatus h value => Sys2Proof.Machine.execStationStatus h value s
  | .slotReport h pitch occupancy => Sys2Proof.Machine.execSlotReport h pitch occupancy s
  | .feedResult h pieceTag result => Sys2Proof.Machine.execFeedResult h pieceTag result s
  | .envResult h pieceTag result => Sys2Proof.Machine.execEnvResult h pieceTag result s
  | .addrScan h pieceTag result seq inc => Sys2Proof.Machine.execAddrScan h pieceTag result seq inc s
  | .landed h => Sys2Proof.Machine.execLanded h s
  | .swept h => Sys2Proof.Machine.execSwept h s
  | .full h => Sys2Proof.Machine.execFull h s
  | .frameReturn dst taken kind payload => Sys2Proof.Machine.execFrameReturn dst taken kind payload s
  | .sheetActionUntaken dst serial action seq inc => Sys2Proof.Machine.execSheetActionUntaken dst serial action seq inc s
  | .foldSetUntaken dst panels => Sys2Proof.Machine.execFoldSetUntaken dst panels s
  | .feedPermitUntaken dst value => Sys2Proof.Machine.execFeedPermitUntaken dst value s
  | .feedCmdUntaken dst pieceTag kind => Sys2Proof.Machine.execFeedCmdUntaken dst pieceTag kind s
  | .envCmdUntaken dst pieceTag => Sys2Proof.Machine.execEnvCmdUntaken dst pieceTag s
  | .scanArmUntaken dst pieceTag => Sys2Proof.Machine.execScanArmUntaken dst pieceTag s
  | .divertCmdUntaken dst pieceTag => Sys2Proof.Machine.execDivertCmdUntaken dst pieceTag s
  | .binSelectUntaken dst pieceTag => Sys2Proof.Machine.execBinSelectUntaken dst pieceTag s
  | .bundleMarkUntaken dst count => Sys2Proof.Machine.execBundleMarkUntaken dst count s
  | .flowFrameUntaken dst hold => Sys2Proof.Machine.execFlowFrameUntaken dst hold s
  | .unknownManagementRequest h kind payload => Sys2Proof.Machine.execUnknownManagementRequest h kind payload s
  | .otherBinEvent h event => Sys2Proof.Machine.execOtherBinEvent h event s

end Sys2Proof.Machine
end

