-- ==== Sys2Proof/Machine/Step.lean ====
section
/-! DEFINITION. One step of the part: the command at the front of the queue, or none. -/

namespace Sys2Proof.Machine

/-- The state with another queue of waiting commands. -/
def State.setPending (s : State) (l : List Instr) : State := { s with pending := l }

/-- A step takes the command at the front of the queue and answers its outcome on the state with the queue's rest. With an
empty queue the part idles: nothing happens to it that is not a command (log entry 4). -/
def step (s : State) : Host.Outcome State Fault Refusal :=
  match s.pending with
  | [] => .next s
  | c :: rest => exec c (s.setPending rest)

/-- The state with the command a word spells put at the front of its queue; unchanged where the word spells none. -/
def State.withFetchWord (s : State) (nbits w : Nat) : State :=
  match decodeTableWord nbits w with
  | some c => s.setPending (c :: s.pending)
  | none => s

end Sys2Proof.Machine
end

