-- ==== Sys2Proof/WellFormed.lean ====
section
/-! DEFINITION. The well-formed commands: those whose operands lie in the ranges of R160 and R170, and that are the command
their row names. The machine gives every term a meaning; an ill-formed one is no command of its row. -/

namespace Sys2Proof

/-- A frame from another node (R161): its source is not node 0. -/
def Header.fromOutside (h : Header) : Bool := h.src != 0

/-- The bytes after the first `n` of a payload leave it within 120 bytes (R160). -/
def fitsAfter (n : Nat) (bytes : List Byte) : Bool := decide (bytes.length + n ≤ Config.payloadLimit)

/-- A management frame whose operation, table or subject is unknown (R165, R170): a LOAD with no table 1..5, a QUERY with no
subject 1..12, a CONTROL with no operation 1..14, or a frame that ends before it. -/
def namesNothing (kind : Byte) (payload : List Byte) : Bool :=
  match kind.toNat, payload with
  | 2, _ :: table :: _ => !(decide (1 ≤ table.toNat) && decide (table.toNat ≤ 5))
  | 2, _ => true
  | 3, _ :: subject :: _ => !(decide (1 ≤ subject.toNat) && decide (subject.toNat ≤ 12))
  | 3, _ => true
  | 4, _ :: operation :: _ => !(decide (1 ≤ operation.toNat) && decide (operation.toNat ≤ 14))
  | 4, _ => true
  | _, _ => false

/-- The well-formed commands. -/
def Instr.wellFormed : Instr → Bool
  | .resetNLow => true
  | .resetNHigh _ _ => true
  | .encoderPulse _ => true
  | .pitchAdvance => true
  | .windowCloseByPassing => true
  | .sorterTimeout => true
  | .drainComplete => true
  | .frameCheckFail bytes => (Machine.checkFrame bytes).isNone
  | .forwardFrame f => fitsAfter 0 f.payload
  | .ringOutSend => true
  | .linkLoss => true
  | .linkReturn => true
  | .record h _ body => h.fromOutside && fitsAfter 1 body
  | .loadProfile h _ items => h.fromOutside && fitsAfter 2 items
  | .loadStation h _ items => h.fromOutside && fitsAfter 2 items
  | .loadScheme h _ items => h.fromOutside && fitsAfter 2 items
  | .loadGroup h _ items => h.fromOutside && fitsAfter 2 items
  | .loadBin h _ items => h.fromOutside && fitsAfter 2 items
  | .queryRun h _ index => h.fromOutside && fitsAfter 2 index
  | .queryQueue h _ index => h.fromOutside && fitsAfter 2 index
  | .queryTrack h _ index => h.fromOutside && fitsAfter 2 index
  | .queryPiece h _ index => h.fromOutside && fitsAfter 2 index
  | .queryStation h _ index => h.fromOutside && fitsAfter 2 index
  | .queryBin h _ index => h.fromOutside && fitsAfter 2 index
  | .queryGroup h _ index => h.fromOutside && fitsAfter 2 index
  | .queryScheme h _ index => h.fromOutside && fitsAfter 2 index
  | .queryStock h _ index => h.fromOutside && fitsAfter 2 index
  | .queryLog h _ index => h.fromOutside && fitsAfter 2 index
  | .queryReprint h _ index => h.fromOutside && fitsAfter 2 index
  | .queryAlerts h _ index => h.fromOutside && fitsAfter 2 index
  | .openRun h _ operands => h.fromOutside && fitsAfter 2 operands
  | .start h _ operands => h.fromOutside && fitsAfter 2 operands
  | .pause h _ operands => h.fromOutside && fitsAfter 2 operands
  | .resume h _ operands => h.fromOutside && fitsAfter 2 operands
  | .flush h _ operands => h.fromOutside && fitsAfter 2 operands
  | .abort h _ operands => h.fromOutside && fitsAfter 2 operands
  | .closeRun h _ operands => h.fromOutside && fitsAfter 2 operands
  | .resetLine h _ operands => h.fromOutside && fitsAfter 2 operands
  | .clearSlots h _ operands => h.fromOutside && fitsAfter 2 operands
  | .skipRecord h _ operands => h.fromOutside && fitsAfter 2 operands
  | .stationMode h _ operands => h.fromOutside && fitsAfter 2 operands
  | .binModeOn h _ _ => h.fromOutside
  | .binModeOff h _ _ => h.fromOutside
  | .relearn h _ operands => h.fromOutside && fitsAfter 2 operands
  | .ackAlert h _ operands => h.fromOutside && fitsAfter 2 operands
  | .logRead h _ operands => h.fromOutside && fitsAfter 1 operands
  | .reprintRead h _ operands => h.fromOutside && fitsAfter 1 operands
  | .sheetScan h _ => h.fromOutside
  | .stationStatus h _ => h.fromOutside
  | .slotReport h _ _ => h.fromOutside
  | .feedResult h _ _ => h.fromOutside
  | .envResult h _ _ => h.fromOutside
  | .addrScan h _ _ _ _ => h.fromOutside
  | .landed h => h.fromOutside
  | .swept h => h.fromOutside
  | .full h => h.fromOutside
  | .frameReturn _ _ _ payload => fitsAfter 0 payload
  | .sheetActionUntaken _ _ action _ _ => decide (action.toNat ≤ 7)
  | .foldSetUntaken _ panels => decide (1 ≤ panels.toNat) && decide (panels.toNat ≤ 3)
  | .feedPermitUntaken _ value => decide (value.toNat ≤ 1)
  | .feedCmdUntaken _ _ kind => decide (1 ≤ kind.toNat) && decide (kind.toNat ≤ 2)
  | .envCmdUntaken _ _ => true
  | .scanArmUntaken _ _ => true
  | .divertCmdUntaken _ _ => true
  | .binSelectUntaken _ _ => true
  | .bundleMarkUntaken _ _ => true
  | .flowFrameUntaken _ _ => true
  | .unknownManagementRequest h kind payload => h.fromOutside && fitsAfter 0 payload && namesNothing kind payload
  | .otherBinEvent h event => h.fromOutside && (event.toNat == 0 || decide (4 ≤ event.toNat))

end Sys2Proof
end

