-- ==== Sys2Proof/Safety.lean ====
section
/-! DEFINITION. The terms that claims about the part are stated in: what a command leaves unchanged, when a frame is received
and acted on, and the invariants of a safe state. -/

namespace Sys2Proof.Machine

/-! ### What is left unchanged -/

/-- The parts of State, one for each piece of state of INVENTORY.md. -/
inductive Part where
  | resetHigh
  | supervisor
  | own
  | forward
  | linkUp
  | out
  | held
  | alerts
  | records
  | last
  | high
  | low
  | collecting
  | staging
  | strays
  | sheetLimit
  | strayLimit
  | stocks
  | allowance
  | limit
  | letterLimit
  | flatLimit
  | slots
  | position
  | boundary
  | pitch
  | encoderErrors
  | length
  | pulses
  | stations
  | nextSerial
  | jamSlot
  | divertSerials
  | scheme
  | pageUse
  | groups
  | bins
  | window
  | reprints
  | logRecords
  | logSerial
  | logLost
  | reserve
  | runState
  | ending
  | reason
  | runId
  | locked
  | counters
  | permit
  | drive
  | freeIndex
  | pending
deriving DecidableEq, Repr

/-- A part is the same in two states. -/
def Part.same : Part → State → State → Prop
  | .resetHigh, s, t => t.resetHigh = s.resetHigh
  | .supervisor, s, t => t.supervisor = s.supervisor
  | .own, s, t => t.ring.own = s.ring.own
  | .forward, s, t => t.ring.forward = s.ring.forward
  | .linkUp, s, t => t.ring.linkUp = s.ring.linkUp
  | .out, s, t => t.ring.out = s.ring.out
  | .held, s, t => t.channel.held = s.channel.held
  | .alerts, s, t => t.channel.alerts = s.channel.alerts
  | .records, s, t => t.queue.records = s.queue.records
  | .last, s, t => t.queue.last = s.queue.last
  | .high, s, t => t.queue.high = s.queue.high
  | .low, s, t => t.queue.low = s.queue.low
  | .collecting, s, t => t.collation.collecting = s.collation.collecting
  | .staging, s, t => t.collation.staging = s.collation.staging
  | .strays, s, t => t.collation.strays = s.collation.strays
  | .sheetLimit, s, t => t.collation.sheetLimit = s.collation.sheetLimit
  | .strayLimit, s, t => t.collation.strayLimit = s.collation.strayLimit
  | .stocks, s, t => t.caliper.stocks = s.caliper.stocks
  | .allowance, s, t => t.caliper.allowance = s.caliper.allowance
  | .limit, s, t => t.caliper.limit = s.caliper.limit
  | .letterLimit, s, t => t.caliper.letterLimit = s.caliper.letterLimit
  | .flatLimit, s, t => t.caliper.flatLimit = s.caliper.flatLimit
  | .slots, s, t => t.track.slots = s.track.slots
  | .position, s, t => t.track.position = s.track.position
  | .boundary, s, t => t.track.boundary = s.track.boundary
  | .pitch, s, t => t.track.pitch = s.track.pitch
  | .encoderErrors, s, t => t.track.encoderErrors = s.track.encoderErrors
  | .length, s, t => t.track.length = s.track.length
  | .pulses, s, t => t.track.pulses = s.track.pulses
  | .stations, s, t => t.track.stations = s.track.stations
  | .nextSerial, s, t => t.track.nextSerial = s.track.nextSerial
  | .jamSlot, s, t => t.track.jamSlot = s.track.jamSlot
  | .divertSerials, s, t => t.track.divertSerials = s.track.divertSerials
  | .scheme, s, t => t.sort.scheme = s.sort.scheme
  | .pageUse, s, t => t.sort.pageUse = s.sort.pageUse
  | .groups, s, t => t.sort.groups = s.sort.groups
  | .bins, s, t => t.sort.bins = s.sort.bins
  | .window, s, t => t.sort.window = s.sort.window
  | .reprints, s, t => t.reprints = s.reprints
  | .logRecords, s, t => t.log.records = s.log.records
  | .logSerial, s, t => t.log.serial = s.log.serial
  | .logLost, s, t => t.log.lost = s.log.lost
  | .reserve, s, t => t.log.reserve = s.log.reserve
  | .runState, s, t => t.line.state = s.line.state
  | .ending, s, t => t.line.ending = s.line.ending
  | .reason, s, t => t.line.reason = s.line.reason
  | .runId, s, t => t.line.runId = s.line.runId
  | .locked, s, t => t.line.locked = s.line.locked
  | .counters, s, t => t.line.counters = s.line.counters
  | .permit, s, t => t.line.permit = s.line.permit
  | .drive, s, t => t.line.drive = s.line.drive
  | .freeIndex, s, t => t.freeIndex = s.freeIndex
  | .pending, s, t => t.pending = s.pending

/-- Every part but those listed is the same in both states. -/
def KeepsAllBut (l : List Part) (s t : State) : Prop := ∀ p, p ∉ l → p.same s t

/-- What queueing a frame to a station can touch: the own-frame queue, and a station set ABSENT with its alert (R73, R163). -/
abbrev frameParts : List Part :=
  [.own, .alerts, .stations]

/-- What a re-evaluation of the feed permit can touch (R157). -/
abbrev permitParts : List Part :=
  [.own, .alerts, .stations, .permit]

/-- What a move of the run state can touch (R146, R157, R158). -/
abbrev stateParts : List Part :=
  [.own, .alerts, .stations, .runState, .reason, .permit, .drive]

/-- What a write request at the log can touch (R141, R144). -/
abbrev writeParts : List Part :=
  [.own, .alerts, .stations, .logRecords, .logSerial, .logLost, .permit]

/-- What a disposition can touch (R124). -/
abbrev disposeParts : List Part :=
  [.own, .alerts, .stations, .reprints, .logRecords, .logSerial, .logLost, .counters, .permit]

/-- What a bundle close can touch (R116). -/
abbrev closeParts : List Part :=
  [.own, .alerts, .stations, .bins, .logRecords, .logSerial, .logLost, .permit]

/-- What a disposition with the bundle closes and the drain completion that may follow it can touch (R114, R152). -/
abbrev endParts : List Part :=
  [.own, .alerts, .stations, .bins, .reprints, .logRecords, .logSerial, .logLost, .runState, .reason, .counters, .permit, .drive]

/-! ### Frames received and acted on -/

/-- The part is out of reset and RING IN has signal: it takes frames (R164, R171). -/
abbrev Listening (s : State) : Prop := s.resetHigh = true ∧ s.ring.linkUp = true

/-- A management frame that the part acts on (R161, R165): from the strapped supervisor, whose address is neither 0 nor 63, to
node 0, with a payload of at most 120 bytes. -/
abbrev Commanded (h : Header) (payload : List Byte) (s : State) : Prop :=
  Listening s ∧ s.supervisor ≠ 0 ∧ s.supervisor ≠ Config.broadcast ∧ h.src = s.supervisor ∧ h.dst = 0 ∧
    payload.length ≤ Config.payloadLimit

/-- A request's frame is forwarded marked TAKEN after its work has left the state `v` (R161). -/
def taken (h : Header) (kind : Byte) (payload : List Byte) (v : State) : State :=
  forwardFrame { header := { h with taken := true }, kind := kind, payload := payload } v

/-- A request answered with a code and content after its work has left the state `v`, and its frame forwarded marked TAKEN
(R161, R165), a refused request's too (log entry 20). -/
def answered (h : Header) (kind : Byte) (payload : List Byte) (tag : Byte) (code : AnswerCode) (content : List Byte)
    (v : State) : State :=
  taken h kind payload (sendAnswer tag code content v)

/-- A report's frame reaches the part: it listens, the frame comes from another node and is addressed to node 0 or
broadcast (R161). -/
abbrev Reached (h : Header) (s : State) : Prop :=
  Listening s ∧ h.src ≠ 0 ∧ (h.dst = 0 ∨ h.dst = Config.broadcast)

/-- A report's frame goes on after the part acted on it and left the state `v`: marked TAKEN when it was addressed to node 0,
with its mark unchanged when it was broadcast (R161). -/
def actedOn (h : Header) (kind : Byte) (payload : List Byte) (v : State) : State :=
  forwardFrame { header := { h with taken := h.taken || h.dst == 0 }, kind := kind, payload := payload } v

/-- A frame of the part's own comes back while the part listens (R162). -/
abbrev Returned (s : State) : Prop := Listening s

/-! ### Stations and bins after an event -/

/-- What an event that sends no frame to a station but FEED_PERMIT leaves of the station table and the STATION alert (R73, R157,
R163): every entry as `change` makes it and the alert as it was; or, where there is no `room` in the own-frame queue, besides the
entry at the SHEET_FEEDER's node set ABSENT, with its alert raised. -/
def StationsKept (change : StationEntry → StationEntry) (room : Prop) (s t : State) : Prop :=
  (alertOf .station t = alertOf .station s ∧ ∀ i, stationAt i t = (stationAt i s).map change) ∨
  (¬room ∧ ∃ j feeder k e, stationOfKind .sheetFeeder s = some (j, feeder) ∧
    stationOfNode feeder.dst.toNat s = some (k, e) ∧ e.status ≠ .absent ∧
    alertOf .station t = alertOf .station (raiseAlert (.stationStatus k .absent) s) ∧
    ∀ i, stationAt i t =
      if i = k then some { change e with status := .absent } else (stationAt i s).map change)

/-- The alerts of the classes that are not listed are the same in both states. -/
def AlertsKeptBut (raised : List AlertClass) (s t : State) : Prop := ∀ c, c ∉ raised → alertOf c t = alertOf c s

/-- A bin whose open bundle, if it has one, has closed (R116): the bundle is counted in the tray, and all else is kept. -/
def Bin.bundleClosed (x : Bin) : Bin :=
  { x with bundle := none, trayBundles := x.trayBundles + if x.bundle = none then 0 else 1 }

/-! ### Records in the log -/

/-- A write request for one record, as it leaves the log (R141): written with the next serial; lost as the first loss; written
after an OVERFLOW marker; or lost and counted. RESERVE is raised with LOG_OVERFLOW at a first loss, and else left as it is. -/
def LogTook (b : LogBody) (s t : State) : Prop :=
  (t.log =
    if s.log.lost = 0 then
      if b.length ≤ logFree s then
        { s.log with records := s.log.records ++ [⟨s.log.serial, b⟩], serial := (s.log.serial + 1) % 65536 }
      else { s.log with lost := 1 }
    else if b.length + 2 ≤ logFree s then
      { s.log with
        records := s.log.records ++ [⟨s.log.serial, .overflow s.log.lost⟩, ⟨(s.log.serial + 1) % 65536, b⟩]
        serial := (s.log.serial + 2) % 65536
        lost := 0 }
    else { s.log with lost := min 65535 (s.log.lost + 1) }) ∧
  alertOf .reserve t =
    if s.log.lost = 0 ∧ logFree s < b.length then alertOf .reserve (raiseAlert .logOverflow s) else alertOf .reserve s

/-- Write requests for several records, one after the other (R141). -/
def LogTookAll : List LogBody → State → State → Prop
  | [], s, t => t.log = s.log ∧ alertOf .reserve t = alertOf .reserve s
  | b :: rest, s, t => ∃ w, LogTook b s w ∧ LogTookAll rest w t

/-- The BUNDLE record of a bin's close for a cause, where the bin has an open bundle (R116, R139). -/
def closeRecord (b : Nat) (cause : CloseCause) (u : Option Bundle) (s : State) : List LogBody :=
  (u.map fun x => LogBody.bundle (bundleLog b cause x s)).toList

/-- The records of a drain completion (R152): a BUNDLE record with cause RUN_END for each open bundle in bin order, then RUN
CLOSED with the counters. `bundle` gives each bin's open bundle at the completion. -/
def drainRecords (bundle : Nat → Option Bundle) (counters : Counters) (s : State) : List LogBody :=
  (List.range 32).flatMap (fun c => closeRecord c .runEnd (bundle c) s) ++ [.run .closed s.line.runId (some counters)]

/-- The UNFED records of the records in the queue, head first (R12). -/
def unfedRecords (s : State) : List LogBody := s.queue.records.map fun r => .unfed r.seq r.inc

/-- The RECORD_GO frames (code 11) that stand in the own-frame queue from a place on: those queued since it had that length
(R16, R163). -/
def recordGoes (since : Nat) (s : State) : List OwnFrame := (s.ring.own.drop since).filter fun f => f.body.kindCode == 11

/-- The BUNDLE_MARK frames (code 34) that stand in the own-frame queue from a place on (R116, R163). -/
def bundleMarks (since : Nat) (s : State) : List OwnFrame := (s.ring.own.drop since).filter fun f => f.body.kindCode == 34

/-- The collation in the collecting pocket, if it holds one (R24). -/
def Collecting.held : Collecting → List Collation
  | .empty => []
  | .collecting c => [c]
  | .complete c => [c]

/-- The collation that FLUSH disposes HAND_FINISH, if there is one: a COLLECTING hand-finish one, with MISSING_PAGE (R35, R39). -/
def finishedByFlush (s : State) : List Collation :=
  match s.collation.collecting with
  | .collecting c => if c.handFinish then [{ c with faults := addOnce .missingPage c.faults }] else []
  | _ => []

/-- The records of a FLUSH before any drain completion (R151): RUN FLUSH, the queue's UNFED records, and the PIECE record of a
hand-finish collation. -/
def flushRecords (s : State) : List LogBody :=
  .run .flush s.line.runId none :: (unfedRecords s ++ (finishedByFlush s).map fun c => .piece (c.logOf .handFinish))

/-- The collations that ABORT disposes, staging first (R40). -/
def abortedCollations (s : State) : List Collation := s.collation.staging.toList ++ s.collation.collecting.held

/-- The pieces that ABORT disposes, from slot L−1 toward slot 0 (R69). -/
def abortedPieces (s : State) : List Piece := s.track.slots.reverse.filterMap id

/-- The records of a bin at ABORT (R121): a LOST piece for each flight from head to tail, then its open bundle. -/
def abortBinRecords (b : Nat) (s : State) : List LogBody :=
  ((binAt b s).flights.map fun f => LogBody.piece (f.logOf .lost b none)) ++ closeRecord b .abort (binAt b s).bundle s

/-- The records of an ABORT in the order of R153, the last with the counters. -/
def abortRecords (counters : Counters) (s : State) : List LogBody :=
  [.run .abort s.line.runId none] ++ unfedRecords s ++ (abortedCollations s).map (fun c => .piece (c.logOf .aborted)) ++
    (abortedPieces s).map (fun p => .piece (p.logOf .aborted none)) ++
    (List.range 32).flatMap (fun b => abortBinRecords b s) ++ [.run .closed s.line.runId (some counters)]

/-! ### The Reprint List after a disposition (R127, R128) -/

/-- A new OPEN entry joins the list, which holds at most 256 (R127). -/
def entered (l : List ReprintEntry) (e : ReprintEntry) : List ReprintEntry := if l.length < 256 then l ++ [e] else l

/-- The list after a queued record was disposed UNFED: the QUEUED entry of a reprint record is OPEN again in its place, with its
reason kept (R12, R128). -/
def unfedEntries (l : List ReprintEntry) (r : JobRecord) : List ReprintEntry :=
  if r.reprint then updateEntry (ReprintEntry.isQueued r.seq) (fun e => { e with state := .open }) l else l

/-- The list after a head record was disposed SKIPPED: the QUEUED entry of a reprint record is OPEN again in its place with
reason SKIPPED, and any other record gets a new entry (R128, R132). -/
def skippedEntries (l : List ReprintEntry) (r : JobRecord) : List ReprintEntry :=
  if r.reprint then
    updateEntry (ReprintEntry.isQueued r.seq) (fun e => { e with state := .open, reason := .disposition .skipped }) l
  else entered l { seq := r.seq, inc := r.inc, reason := .disposition .skipped, state := .open }

/-- The reprint entry of a collation disposed from a pocket (R123, R125). -/
def Collation.entry (d : Disposition) (c : Collation) : ReprintEntry :=
  { seq := c.job.seq, inc := c.job.inc, reason := reasonOf c.faults d, state := .open }

/-- The reprint entry of a piece disposed from the track (R123, R125). -/
def Piece.entry (d : Disposition) (p : Piece) : ReprintEntry :=
  { seq := p.job.seq, inc := p.job.inc, reason := reasonOf p.faults d, state := .open }

/-! ### Codes of a record in the log -/

/-- The codes that the items of a PIECE record take (R125, R170): the dispositions 1..9, the reasons 1..14 for the faults and
15..22 for the dispositions but UNFED, the verification results 0..3, and the sets with a bit for each member. -/
def PieceCodes : Prop :=
  [Disposition.sorted, .handFinish, .handSort, .diverted, .cleared, .skipped, .aborted, .lost, .unfed].map (·.code) =
    List.range' 1 9 ∧
  [FaultName.missingPage, .extraPage, .countMismatch, .doubleSheet, .thinSheet, .unreadSheet, .overstuff, .insertWithheld,
    .insertMiss, .insertDouble, .insertUnconfirmed, .envelopeFault, .mismatch, .unverified].map
    (fun f => (Reason.fault f).code) = List.range' 1 14 ∧
  [Disposition.sorted, .handFinish, .handSort, .diverted, .cleared, .skipped, .aborted, .lost].map
    (fun d => (Reason.disposition d).code) = List.range' 15 8 ∧
  [Verification.none, .verified, .unread, .unverified].map (·.code) = List.range 4 ∧
  (∀ l : List FaultName, faultSetNat l < 16384 ∧
    ∀ f, (faultSetNat l).testBit ((Reason.fault f).code - 1) = decide (f ∈ l)) ∧
  ∀ l : List Nat, stationSetNat l < 16777216 ∧ ∀ i < 24, (stationSetNat l).testBit i = decide (i ∈ l)

/-! ### Job records at intake -/

/-- The structural checks pass (R3). -/
abbrev RecordSound (r : JobRecord) (s : State) : Prop :=
  1 ≤ r.pages ∧ r.pages ≤ 64 ∧ 1 ≤ r.panels ∧ r.panels ≤ 3 ∧
  (∀ d ∈ r.dest.required, d ≤ 9) ∧ (∀ l, r.dest.extra = some l → ∀ d ∈ l, d ≤ 9) ∧
  r.selections.length ≤ 8 ∧
  (∀ x ∈ r.selections, ∃ e, stationAt x.station s = some e ∧ e.kind = .insert) ∧
  (r.selections.map (·.station)).Nodup ∧
  (r.reprint = false → r.inc = 0)

/-- The sequence step admits the record (R2, R5, R6). -/
abbrev SequenceAdmits (r : JobRecord) (s : State) : Prop :=
  s.line.counters.accepted ≠ 16777215 ∧
  (r.reprint = false → ∀ n, s.queue.last = some n → n < r.seq) ∧
  (r.reprint = true → ∃ e, entryOf r.seq s = some e ∧ e.state ≠ .queued ∧ e.inc ≠ 15 ∧ r.inc = e.inc + 1)

/-- The state step of R2 considers the record. -/
abbrev IntakeOpen (s : State) : Prop :=
  (s.line.state = .ready ∨ s.line.state = .running ∨ s.line.state = .paused ∨ s.line.state = .jammed) ∧
    s.line.ending = false

/-- A record with the adjustments of R4. -/
def adjusted (sheetLimit : Nat) (r : JobRecord) : JobRecord :=
  { r with
    selections := r.selections.map fun x =>
      { x with mode := if x.mode = .optional 0 then .optional 1 else x.mode }
    handFinish := r.handFinish || decide (sheetLimit < r.pages) }

/-! ### Stations and their pieces -/

/-- A station's entry has been set ABSENT, with the STATION alert when it was not ABSENT before (R73). -/
def absentAfter (i : Nat) (e : StationEntry) (s : State) : State :=
  if e.status = .absent then s
  else raiseAlert (.stationStatus i .absent) (putStation i (some { e with status := .absent }) s)

/-- What R73 does to the entry at a node that did not take a frame; a node without an entry changes nothing. -/
def nodeAbsentAfter (dst : Node) (s : State) : State :=
  match stationOfNode dst.toNat s with
  | some (i, e) => absentAfter i e s
  | none => s

/-- The one piece with a tag stands in slot `n` and holds an open window for station `i` (R63, R67). -/
abbrev Awaits (n i tag : Nat) (p : Piece) (w : Window) (s : State) : Prop :=
  pieceAt n s = some p ∧ p.tag = tag ∧ p.windowFor i = some w ∧
    ∀ m < s.track.slots.length, ∀ q, pieceAt m s = some q → q.tag = tag → m = n

/-- No piece with a tag holds an open window for station `i` of one of the kinds given (R85, R90, R94). -/
abbrev NothingAwaits (kinds : List WindowKind) (i tag : Nat) (s : State) : Prop :=
  ∀ n < s.track.slots.length, ∀ p, pieceAt n s = some p → p.tag = tag →
    ∀ w, p.windowFor i = some w → w.kind ∉ kinds

/-- A window of a piece in slot `n` has been passed (R67). -/
abbrev Window.passed (n : Nat) (w : Window) : Prop := w.closing < n

/-- A MANDATORY selection of a record names an INSERT station that may not feed (R80). -/
abbrev MandatoryWithheld (r : JobRecord) (s : State) : Prop :=
  ∃ i < 24, ∃ e, stationAt i s = some e ∧ e.kind = .insert ∧ r.selectionFor i = some .mandatory ∧
    (e.effectiveMode = .skip ∨ e.effectiveMode = .off)

/-- A station is a candidate of a record's fill check with a priority (R54). -/
abbrev FillCandidate (r : JobRecord) (i : Nat) (e : StationEntry) (priority : Nat) (s : State) : Prop :=
  stationAt i s = some e ∧ e.kind = .insert ∧
    (actionFor r i e = .optional priority ∨ (actionFor r i e = .forced ∧ priority = 8))

/-- The nominal calipers of the INSERT stations that a test picks, added up (R53, R54). -/
def caliperSum (test : Nat → StationEntry → Bool) (s : State) : Nat :=
  ((List.range 24).map fun i =>
    match stationAt i s with
    | some e => if e.kind = .insert ∧ test i e = true then e.caliper else 0
    | none => 0).sum

/-- The folded caliper of a collation (R51). -/
def foldedCaliper (c : Collation) : Nat := min 65535 (c.job.panels * min 65535 (c.sheets.map (·.reading)).sum)

/-- The base of a collation's fill check (R53). -/
def baseCaliper (c : Collation) (s : State) : Nat :=
  min 65535 (foldedCaliper c + s.caliper.allowance +
    caliperSum (fun i e => actionFor c.job i e == .mandatory) s)

/-! ### Tables as loaded -/

/-- The number in one byte of a payload; a byte past its end reads as 0 (R170). -/
def byteAt (items : List Byte) (k : Nat) : Nat := ((items[k]?).getD 0).toNat

/-- The number in two bytes of a payload, high byte first (R170). -/
def wordAt (items : List Byte) (k : Nat) : Nat := byteAt items k * 256 + byteAt items (k + 1)

/-- What one item of a LOAD STATION, its six bytes from byte `k`, loads (R71, R170): the EMPTY mark empties the position, and a
kind code stores the entry with mode NORMAL, status UNKNOWN and late count 0. A field that does not apply to the kind is stored
as 0 (log entry 25). -/
def StationItemReads (items : List Byte) (k : Nat) (x : Option StationEntry) : Prop :=
  (byteAt items k = 0 ∧ x = none) ∨
  (byteAt items k ≠ 0 ∧ ∃ kind : StationKind, kind.code = byteAt items (k + 1) ∧ x = some
    { node := byteAt items k, kind := kind
      offset :=
        if kind = .insert ∨ kind = .envelope ∨ kind = .scanOut ∨ kind = .slotCheck ∨ kind = .exit
        then byteAt items (k + 2) else 0
      window := if kind = .insert ∨ kind = .envelope ∨ kind = .scanOut then byteAt items (k + 3) % 16 else 0
      caliper := if kind = .insert then wordAt items (k + 4) else 0
      lateLimit := byteAt items (k + 3) / 16, mode := .normal, status := .unknown, late := 0 })

/-- A pattern position in a nibble (R103, R170): a digit 0..9, or 15 for ANY. -/
def PatternNibble (n : Nat) (x : Option Nat) : Prop := (n ≤ 9 ∧ x = some n) ∨ (n = 15 ∧ x = none)

/-- What one item of a LOAD SCHEME loads (R103, R104, R170): the DISABLED mark the power-on values, and a full entry in its
ranges its fields, with the key length clamped to 1..9. The low half of `p5` and bit 4 of the flags are ignored (log entry
37). -/
def SchemeItemReads (bytes : List Byte) (e : SchemeEntry) : Prop :=
  (bytes = [0] ∧ e =
    { enabled := false, pattern := List.replicate 9 none, group := 0, maxClass := .bulk, keyLength := 5, level := 0 }) ∨
  ∃ p1 p2 p3 p4 p5 group flags level : Byte, bytes = [1, p1, p2, p3, p4, p5, group, flags, level] ∧
    List.Forall₂ PatternNibble
      [p1.toNat / 16, p1.toNat % 16, p2.toNat / 16, p2.toNat % 16, p3.toNat / 16, p3.toNat % 16, p4.toNat / 16,
        p4.toNat % 16, p5.toNat / 16] e.pattern ∧
    e.enabled = decide (128 ≤ flags.toNat) ∧ e.group = group.toNat ∧ group.toNat ≤ 15 ∧
    e.maxClass.code = flags.toNat / 32 % 4 ∧
    e.keyLength = (if flags.toNat % 16 = 0 then 1 else min 9 (flags.toNat % 16)) ∧ e.level = level.toNat ∧ level.toNat ≤ 7

/-- The checks of a LOAD PROFILE in its range step (R14, R24, R61, R166). -/
abbrev ProfileSound (p : ProfileFields) (s : State) : Prop :=
  1 ≤ p.high ∧ p.high ≤ 64 ∧ 1 ≤ p.sheetLimit ∧ p.sheetLimit ≤ 24 ∧ 1 ≤ p.strayLimit ∧ p.strayLimit ≤ 15 ∧
  8 ≤ p.length ∧ p.length ≤ 96 ∧ 16 ≤ p.pulses ∧ p.pulses ≤ 4095 ∧ 1 ≤ p.window ∧ p.window ≤ 15 ∧
  ∀ i < 24, ∀ e, stationAt i s = some e → e.offset < p.length ∧ (e.kind = .exit → e.offset + 1 = p.length)

/-- A LOAD PROFILE meets a piece on the track and would change L, P, E or CMAX (R166). -/
abbrev ProfileInUse (p : ProfileFields) (s : State) : Prop :=
  pieceCount s ≠ 0 ∧
    (p.length ≠ s.track.length ∨ p.pulses ≠ s.track.pulses ∨ p.allowance ≠ s.caliper.allowance ∨
      p.limit ≠ s.caliper.limit)

/-- A stock after a LOAD PROFILE (R42). -/
def stockLoaded (f : StockFields) (x : Stock) : Stock :=
  { averaging := max 1 (min 15 f.averaging), nominal := max 1 (min 4094 f.nominal)
    tolerance := max 1 (min 63 f.tolerance), margin := max 1 (min 1023 f.margin)
    ring :=
      if max 1 (min 4094 f.nominal) = x.nominal ∧ max 1 (min 63 f.tolerance) = x.tolerance ∧
          max 1 (min 1023 f.margin) = x.margin
      then x.ring.drop (x.ring.length - max 1 (min 15 f.averaging)) else [] }

/-- The station table after the items of a LOAD STATION (R71). -/
def stationsLoaded (first : Nat) (items : List (Option StationEntry)) (s : State) (i : Nat) : Option StationEntry :=
  if first ≤ i ∧ i < first + items.length then (items[i - first]?).getD none else stationAt i s

/-- The checks of R71 on one station entry. -/
abbrev StationSound (e : StationEntry) (s : State) : Prop :=
  2 ≤ e.node ∧ e.node ≤ 62 ∧ e.node ≠ s.supervisor.toNat ∧ (∀ b < 32, (binAt b s).node ≠ some e.node) ∧
    e.offset < s.track.length ∧ e.window ≤ 7 ∧ e.caliper ≤ 4095 ∧ 1 ≤ e.lateLimit ∧ e.lateLimit ≤ 15 ∧
    (e.kind = .exit → e.offset + 1 = s.track.length)

/-- The checks of R71 between two station entries. -/
abbrev StationsApart (a b : StationEntry) : Prop :=
  a.node ≠ b.node ∧ (a.kind = b.kind → a.kind = .insert ∨ a.kind = .slotCheck) ∧
    (a.kind = .insert → b.kind = .envelope → a.offset < b.offset) ∧
    (a.kind = .scanOut → b.kind = .envelope → b.offset ≤ a.offset)

/-- The checks of R71 on a station table as it would stand after a write. -/
abbrev StationsSound (table : Nat → Option StationEntry) (s : State) : Prop :=
  (∀ i < 24, ∀ e, table i = some e → StationSound e s) ∧
  ∀ i < 24, ∀ j < 24, i ≠ j → ∀ a, table i = some a → ∀ b, table j = some b → StationsApart a b

/-- A bin has pieces in flight or an open bundle (R108). -/
abbrev BinInUse (b : Nat) (s : State) : Prop := (binAt b s).flights ≠ [] ∨ (binAt b s).bundle.isSome = true

/-- The range checks of LOAD GROUP (R108). -/
abbrev GroupLoadSound (f : GroupFields) (s : State) : Prop :=
  f.group ≤ 15 ∧ (∀ b ∈ f.chain, b ≤ 31) ∧ f.chain.Nodup ∧ f.demote ≤ 7 ∧
    ∀ g < 16, g ≠ f.group → ∀ b ∈ f.chain, b ∉ (groupAt g s).chain

/-- The range checks of LOAD BIN (R110). -/
abbrev BinLoadSound (b node capacity : Nat) (s : State) : Prop :=
  b ≤ 31 ∧ 2 ≤ node ∧ node ≤ 62 ∧ node ≠ s.supervisor.toNat ∧ (∀ c < 32, c ≠ b → (binAt c s).node ≠ some node) ∧
    (∀ i < 24, ∀ e, stationAt i s = some e → e.node ≠ node) ∧ 1 ≤ capacity ∧ capacity ≤ 2000 ∧
    (binAt b s).landed ≤ capacity

/-! ### Queries -/

/-- A QUERY command taken apart: its frame's header, tag and index bytes, the subject's number, the bound below which its index
lies (65,536 for a subject without an index) and the content its rule gives (R167). -/
structure QueryParts where
  header : Header
  tag : Byte
  index : List Byte
  subject : Byte
  bound : State → Nat
  content : Nat → State → List Byte

/-- The parts of a QUERY command, by the table of R167; none for every other command. -/
def queryParts : Instr → Option QueryParts
  | .queryRun h tag index => some ⟨h, tag, index, 1, fun _ => 65536, fun _ s => runContent s⟩
  | .queryQueue h tag index => some ⟨h, tag, index, 2, fun _ => 64, queueContent⟩
  | .queryTrack h tag index => some ⟨h, tag, index, 3, fun _ => 65536, fun _ s => trackContent s⟩
  | .queryPiece h tag index =>
    some ⟨h, tag, index, 4, fun s => s.track.length, fun i s => presentBytes Piece.bytes (pieceAt i s)⟩
  | .queryStation h tag index =>
    some ⟨h, tag, index, 5, fun _ => 24, fun i s => presentBytes StationEntry.bytes (stationAt i s)⟩
  | .queryBin h tag index => some ⟨h, tag, index, 6, fun _ => 32, binContent⟩
  | .queryGroup h tag index => some ⟨h, tag, index, 7, fun _ => 16, groupContent⟩
  | .queryScheme h tag index => some ⟨h, tag, index, 8, fun _ => 512, schemeContent⟩
  | .queryStock h tag index => some ⟨h, tag, index, 9, fun _ => 4, stockContent⟩
  | .queryLog h tag index => some ⟨h, tag, index, 10, fun _ => 65536, fun _ s => logContent s⟩
  | .queryReprint h tag index => some ⟨h, tag, index, 11, fun _ => 256, reprintContent⟩
  | .queryAlerts h tag index => some ⟨h, tag, index, 12, fun _ => 65536, fun _ s => alertsContent s⟩
  | _ => none

/-! ### Invariants -/

/-- The feed permit is on exactly while its conditions hold (R157), and DRIVE_RUN exactly in RUNNING and DRAINING (R158). -/
abbrev OutputsFollowState (s : State) : Prop :=
  s.line.permit = permitConditions s ∧ (s.line.drive = true ↔ s.line.state = .running ∨ s.line.state = .draining)

/-- Every queue, list and log is within its capacity (R8, R127, R136, R163). -/
abbrev WithinCapacity (s : State) : Prop :=
  s.ring.own.length ≤ 32 ∧ s.ring.forward.length ≤ 8 ∧ s.queue.records.length ≤ 64 ∧ s.reprints.length ≤ 256 ∧
    logUsed s ≤ 8192

/-- A bin's counts agree (R109): the committed count equals the landed count plus the in-flight length and does not exceed the
capacity, and at most 8 pieces are in flight. An unloaded bin has been promised nothing. -/
abbrev Bin.sound (x : Bin) : Prop :=
  x.committed = x.landed + x.flights.length ∧ x.committed ≤ x.capacity.getD 0 ∧ x.flights.length ≤ 8

/-- Every bin's counts agree (R109). -/
abbrev BinsSound (s : State) : Prop := ∀ b, b < 32 → (binAt b s).sound

/-- The nine disposition counters together. -/
def dispositions (s : State) : Nat :=
  s.line.counters.sorted + s.line.counters.handFinish + s.line.counters.handSort + s.line.counters.diverted +
    s.line.counters.cleared + s.line.counters.skipped + s.line.counters.aborted + s.line.counters.lost +
    s.line.counters.unfed

/-- The records on the line: in the queue, the pockets, the track and the in-flight lists (R134). -/
def recordsHeld (s : State) : Nat :=
  s.queue.records.length + pocketCount s + pieceCount s + flightTotal s

/-- The bookkeeping of a run. The header is locked exactly outside IDLE (R18); the ending flag stands only in DRAINING, PAUSED,
JAMMED and CLOSED, always in DRAINING, and never beside a queued record (R146, R152); in IDLE and CLOSED nothing is on the
line; the accepted count is in its range (R133); and in an open run the records are conserved (R134). -/
abbrev RunAccounted (s : State) : Prop :=
  (s.line.locked = true ↔ s.line.state ≠ .idle) ∧
  (s.line.ending = true →
    s.line.state = .draining ∨ s.line.state = .paused ∨ s.line.state = .jammed ∨ s.line.state = .closed) ∧
  (s.line.state = .draining → s.line.ending = true) ∧
  (s.line.ending = true → s.queue.records = []) ∧
  (s.line.state = .idle ∨ s.line.state = .closed → recordsHeld s = 0) ∧
  s.line.counters.accepted ≤ Config.counterLimit ∧
  (s.line.state ≠ .idle → s.line.counters.accepted = recordsHeld s + dispositions s)

/-- The sequences of the records on the line, each as often as it stands there: queue, pockets, track and in-flight lists. -/
def sequencesHeld (s : State) : List Nat :=
  s.queue.records.map (·.seq) ++ s.collation.collecting.held.map (·.job.seq) ++ s.collation.staging.toList.map (·.job.seq) ++
    s.track.slots.filterMap (fun x => x.map (·.job.seq)) ++ s.sort.bins.toList.flatMap (fun x => x.flights.map (·.seq))

/-- The discipline of the sequences of a run. The non-reprint records of the queue stand in rising order (R5, R8). No sequence
on the line or in the Reprint List lies above the last accepted one (R5). No sequence stands twice on the line and among the
entries whose reprint is not on it, or twice in the Reprint List (R6, R127). The QUEUED entries are those of the reprint records
in the queue (R7, R28, R127). The free reprint entries are at least the in-flight count (R27, R127). The list is empty in IDLE
(R131). -/
abbrev SequencesSound (s : State) : Prop :=
  ((s.queue.records.filter (fun r => !r.reprint)).map (·.seq)).Pairwise (· < ·) ∧
  (∀ n ∈ sequencesHeld s ++ s.reprints.map (·.seq), ∃ l, s.queue.last = some l ∧ n ≤ l) ∧
  (sequencesHeld s ++ (s.reprints.filter (fun e => e.state != .queued)).map (·.seq)).Nodup ∧
  (s.reprints.map (·.seq)).Nodup ∧
  (∀ e ∈ s.reprints, e.state = .queued → ∃ r ∈ s.queue.records, r.reprint = true ∧ r.seq = e.seq) ∧
  (∀ r ∈ s.queue.records, r.reprint = true → ∃ e ∈ s.reprints, e.state = .queued ∧ e.seq = r.seq) ∧
  s.reprints.length + inFlightCount s ≤ 256 ∧
  (s.line.state = .idle → s.reprints = [])

/-- The records of the log carry consecutive serials, the newest the one before the log serial, modulo 65,536 (R136, R143). -/
abbrev LogSerialsConsecutive (s : State) : Prop :=
  s.log.serial < 65536 ∧
  ∀ i < s.log.records.length, ∀ r, s.log.records[i]? = some r → (r.serial + (s.log.records.length - i)) % 65536 = s.log.serial

/-- The pieces on the track whose match names an entry of a page (R102). -/
def piecesOfPage (p : Nat) (s : State) : Nat :=
  s.track.slots.countP fun x =>
    match x with
    | some q => q.scheme.entry.map pageOf == some p
    | none => false

/-- The pieces on the track whose match names a group (R107). -/
def piecesOfGroup (g : Nat) (s : State) : Nat :=
  s.track.slots.countP fun x =>
    match x with
    | some q => q.scheme.group == g
    | none => false

/-- Every page's in-use count and every group's reference count are the numbers of pieces on the track that they stand for
(R102, R107). -/
abbrev MatchCountsExact (s : State) : Prop :=
  (∀ p, p < 32 → pageUseAt p s = piecesOfPage p s) ∧ (∀ g, g < 16 → (groupAt g s).refs = piecesOfGroup g s)

/-- The track is as its profile says and the chassis stands before the next boundary (R59, R60, R61, R63). -/
abbrev TrackSound (s : State) : Prop :=
  8 ≤ s.track.length ∧ s.track.length ≤ 96 ∧ 16 ≤ s.track.pulses ∧ s.track.pulses ≤ 4095 ∧
    s.track.slots.length = s.track.length ∧ -2147483648 ≤ s.track.position ∧ s.track.position < s.track.boundary

/-- Every stock's profile is in its ranges and its ring holds at most W readings, each one a SINGLE reading can be (R42, R48). -/
abbrev StocksSound (s : State) : Prop :=
  ∀ i < 4, 1 ≤ (stockAt i s).averaging ∧ (stockAt i s).averaging ≤ 15 ∧ 1 ≤ (stockAt i s).nominal ∧
    (stockAt i s).nominal ≤ 4094 ∧ 1 ≤ (stockAt i s).tolerance ∧ (stockAt i s).tolerance ≤ 63 ∧
    1 ≤ (stockAt i s).margin ∧ (stockAt i s).margin ≤ 1023 ∧
    (stockAt i s).ring.length ≤ (stockAt i s).averaging ∧ ∀ m ∈ (stockAt i s).ring, 1 ≤ m ∧ m ≤ 4093

/-- The groups are as R107 and R108 give them: at most four bins in a chain, no bin twice and none in two chains, and a bundle
minimum in 1..B. -/
abbrev GroupsSound (s : State) : Prop :=
  (∀ g < 16, (groupAt g s).chain.length ≤ 4 ∧ (groupAt g s).chain.Nodup ∧ (∀ b ∈ (groupAt g s).chain, b < 32) ∧
    1 ≤ (groupAt g s).minimum ∧ (groupAt g s).minimum ≤ (groupAt g s).target ∧ (groupAt g s).demote ≤ 7) ∧
  ∀ g < 16, ∀ k < 16, ∀ b ∈ (groupAt g s).chain, b ∈ (groupAt k s).chain → g = k

/-- No node address serves twice among the stations and the loaded bins (R71, R110). -/
abbrev NodesDistinct (s : State) : Prop :=
  (∀ i < 24, ∀ a, stationAt i s = some a → ∀ j < 24, ∀ b, stationAt j s = some b → a.node = b.node → i = j) ∧
  (∀ b < 32, ∀ n, (binAt b s).node = some n → ∀ c < 32, (binAt c s).node = some n → b = c) ∧
  ∀ i < 24, ∀ e, stationAt i s = some e → ∀ b < 32, (binAt b s).node ≠ some e.node

end Sys2Proof.Machine
end

