-- ==== Sys2Proof/Certificates/Slice0/Obligations.lean ====
section
/-! DEFINITION. The statements for the provers, family by family: each is a claim of the manual about the commands of the part
and what they do to its state. `answered` and `taken` say how a request's frame goes on; that a refused
request's frame, too, is marked TAKEN is the model's reading (log entry 20). -/

open Sys2Proof Sys2Proof.Machine

/-! ### The machine -/

/-- A step takes the command at the front of the queue and is `exec` of it on the state with the queue's rest; with an empty
queue the part idles (the model's choice, log entry 4). -/
def Obligations.StepRunsFrontCommand : Prop :=
  (∀ (c : Instr) (rest : List Instr) (s : State), s.pending = c :: rest →
    step s = exec c { s with pending := rest }) ∧
  ∀ s : State, s.pending = [] → step s = .next s

/-- Every command answers a next state and leaves the queue of waiting commands alone, and no command but a change of RESET_N
changes the supervisor address, which is held until the next power-on (R165), or the level of RESET_N. -/
def Obligations.EveryCommandCompletes : Prop :=
  ∀ (c : Instr) (s : State), ∃ t, exec c s = .next t ∧ t.pending = s.pending ∧
    (c ≠ .resetNLow → (∀ straps signal, c ≠ .resetNHigh straps signal) →
      t.supervisor = s.supervisor ∧ t.resetHigh = s.resetHigh)

/-! ### RESET_N (R171) -/

/-- When RESET_N goes high the straps are read, the link is sampled and every block starts at its power-on values: each value
is the one its chapter gives (R13, R24, R42, R50, R59, R61, R63, R70, R96, R102, R107, R109, R131, R136, R144, R146, R163,
R164, R168). The queue of commands and the index of the next free value are the model's own and are kept. That the queue and
the index are kept, and the view of RING OUT, are the model's (log entries 2, 30). -/
def Obligations.ResetReleaseStartsInIdle : Prop :=
  ∀ (s : State) (straps : Node) (signal : Bool), s.resetHigh = false →
    exec (.resetNHigh straps signal) s = .next
      { resetHigh := true
        supervisor := straps
        ring := { own := [], forward := [], linkUp := signal, out := none }
        channel := { held := false, alerts := Vector.replicate 8 { pending := false, detail := none, count := 0 } }
        queue := { records := [], last := none, high := 48, low := 16 }
        collation := { collecting := .empty, staging := none, strays := 0, sheetLimit := 12, strayLimit := 4 }
        caliper :=
          { stocks := Vector.replicate 4 { averaging := 8, nominal := 100, tolerance := 16, margin := 20, ring := [] }
            allowance := 400, limit := 6000, letterLimit := 6350, flatLimit := 19050 }
        track :=
          { slots := List.replicate 40 none, position := 0, boundary := 512, pitch := 0, encoderErrors := 0
            length := 40, pulses := 512, stations := Vector.replicate 24 none, nextSerial := 0, jamSlot := none
            divertSerials := [] }
        sort :=
          { scheme := Vector.replicate 512
              { enabled := false, pattern := List.replicate 9 none, group := 0, maxClass := .bulk, keyLength := 5
                level := 0 }
            pageUse := Vector.replicate 32 0
            groups := Vector.replicate 16 { chain := [], target := 100, minimum := 25, demote := 0, refs := 0 }
            bins := Vector.replicate 32
              { node := none, capacity := none, state := .off, landed := 0, committed := 0, flights := []
                bundle := none, trayBundles := 0, previousKey := none }
            window := 6 }
        reprints := []
        log := { records := [], serial := 0, lost := 0, reserve := 512 }
        line :=
          { state := .idle, ending := false, reason := none, runId := 0, locked := false
            counters :=
              { accepted := 0, sorted := 0, handFinish := 0, handSort := 0, diverted := 0, cleared := 0, skipped := 0
                aborted := 0, lost := 0, unfed := 0 }
            permit := false, drive := false }
        freeIndex := s.freeIndex
        pending := s.pending }

/-- When RESET_N goes low the part takes its power-on values, with DRIVE_RUN low and nothing on RING OUT, and while it is low
no command but a change of RESET_N changes anything (R171). The link status and the strapped address while RESET_N is low are
the model's choice (log entry 2) and left open here. -/
def Obligations.ResetLowHoldsThePart : Prop :=
  (∀ s : State, ∃ t, exec .resetNLow s = .next t ∧ t.resetHigh = false ∧ t.line.drive = false ∧ t.ring.out = none ∧
    KeepsAllBut [.resetHigh, .supervisor, .linkUp, .freeIndex, .pending] State.reset t) ∧
  ∀ (c : Instr) (s : State), s.resetHigh = false → c ≠ .resetNLow → (∀ straps signal, c ≠ .resetNHigh straps signal) →
    exec c s = .next s

/-! ### The ring (R160 to R164) -/

/-- A frame as the part would send it passes the check and reads back as itself, so that its bytes received on RING IN are
that frame (R160, R170): no field of the layout is dropped. That a FRAME_CHECK_FAIL of bytes that pass the check is received as
the frame they spell is the model's choice (log entry 33). -/
def Obligations.FrameBytesReadBack : Prop :=
  ∀ (f : RingFrame) (s : State), f.payload.length ≤ 120 →
    checkFrame (frameBytes f) = some f ∧ exec (.frameCheckFail (frameBytes f)) s = exec (.forwardFrame f) s

/-- Bytes that are too few for a frame, that carry a payload length above 120, whose number is not the payload length plus 6,
or whose CRC-16 (with the TAKEN bit as 0) does not agree, change nothing (R160). A frame for another node joins the forward
buffer unchanged, and on a full buffer it is dropped and LINK is raised with RING_OVERRUN (R161, R163). A management frame
from a node that is not the supervisor, one sent to another node than 0, and every one while the straps name node 0 or 63, is
forwarded unchanged and not acted on (R161, R165). -/
def Obligations.FramesNotForThePart : Prop :=
  (∀ (bytes : List Byte) (s : State), bytes.length < 4 → exec (.frameCheckFail bytes) s = .next s) ∧
  (∀ (d f k n : Byte) (rest : List Byte) (s : State),
    120 < n.toNat ∨ (d :: f :: k :: n :: rest).length ≠ n.toNat + 6 ∨
      (crc16 ([d, f &&& 0x7F#8, k, n] ++ rest.take n.toNat)).toNat ≠ ofBe (rest.drop n.toNat) →
    exec (.frameCheckFail (d :: f :: k :: n :: rest)) s = .next s) ∧
  ∀ (f : RingFrame) (s : State), Listening s → f.payload.length ≤ 120 → f.header.src ≠ 0 →
    (f.header.dst ≠ 0 → f.header.dst ≠ 63 →
      exec (.forwardFrame f) s = .next
        (if s.ring.forward.length < 8 then { s with ring := { s.ring with forward := s.ring.forward ++ [f] } }
         else raiseAlert .ringOverrun s)) ∧
    (1 ≤ f.kind.toNat → f.kind.toNat ≤ 6 →
      f.header.src ≠ s.supervisor ∨ f.header.dst ≠ 0 ∨ s.supervisor = 0 ∨ s.supervisor = 63 →
      exec (.forwardFrame f) s = .next (forwardFrame f s))

/-- Each time RING OUT is free the oldest frame of the forward buffer is sent if there is one, and otherwise the oldest own
frame, with source node 0 and TAKEN clear; with both queues empty nothing changes (R163). Each of the fourteen own frames
carries the kind code and the payload bytes of its row, with the answer codes, alert classes, divert reasons and feed kinds by
their codes (R165, R168, R170). The frame last sent is the model's view of RING OUT (log entry 30). -/
def Obligations.RingOutSendsForwardedFirst : Prop :=
  (∀ s : State, s.resetHigh = true →
    (∀ f rest, s.ring.forward = f :: rest →
      exec .ringOutSend s = .next { s with ring := { s.ring with forward := rest, out := some f } }) ∧
    (∀ o rest, s.ring.forward = [] → s.ring.own = o :: rest →
      exec .ringOutSend s = .next { s with ring := { s.ring with
        own := rest
        out := some
          { header := { dst := o.dst, src := 0, taken := false }, kind := byteOf o.body.kindCode
            payload := o.body.payload } } }) ∧
    (s.ring.forward = [] → s.ring.own = [] → exec .ringOutSend s = .next s)) ∧
  (let carries := fun (o : OwnBody) (kind : Nat) (payload : List Byte) => o.kindCode = kind ∧ o.payload = payload
   (∀ (tag : Byte) (code : AnswerCode) (part : Nat) (content : List Byte), part < 8 →
      carries (.answer tag code part false content) 8 (tag :: byteOf code.code :: byteOf part :: content) ∧
      carries (.answer tag code part true content) 8 (tag :: byteOf code.code :: byteOf (part + 128) :: content)) ∧
    (∀ (cls : AlertClass) (count : Nat) (detail : AlertDetail),
      carries (.notice cls count detail) 9 (byteOf cls.code :: byteOf count :: detail.bytes)) ∧
    carries .recordHold 10 [] ∧ carries .recordGo 11 [] ∧
    (∀ (serial seq inc : Nat) (verdict : SheetVerdict), carries (.sheetAction serial verdict seq inc) 17
      [byteOf serial, byteOf verdict.code, byteOf (seq / 65536), byteOf (seq / 256), byteOf seq, byteOf inc]) ∧
    carries (.feedPermit true) 19 [1] ∧ carries (.feedPermit false) 19 [0] ∧
    ∀ n : Nat, carries (.foldSet n) 18 [byteOf n] ∧ carries (.pitch n) 20 [byteOf n] ∧
      (∀ kind : FeedKind, carries (.feedCmd n kind) 21 [byteOf n, byteOf kind.code]) ∧ carries (.envCmd n) 23 [byteOf n] ∧
      carries (.scanArm n) 25 [byteOf n] ∧ carries (.divertCmd n) 29 [byteOf n] ∧ carries (.binSelect n) 32 [byteOf n] ∧
      carries (.bundleMark n) 34 [byteOf n]) ∧
  [AnswerCode.ok, .state, .busy, .range, .inUse, .full, .sequence, .unknownReprint, .limit, .locked].map (·.code) =
    List.range 10 ∧
  [SheetVerdict.accept, .divert .stray, .divert .unread, .divert .handFinish, .divert .overrun, .divert .reserve,
    .divert .noRun, .divert .lateSheet].map (·.code) = List.range 8 ∧
  [AlertClass.link, .jam, .mismatch, .sequence, .sorter, .reserve, .station, .run].map (·.code) = List.range' 1 8 ∧
  [FeedKind.mandatory, .optional].map (·.code) = [1, 2]

/-- A loss of signal while UP sets the link DOWN, empties the forward buffer, raises LINK with LINK_DOWN, and jams a line that
is RUNNING, PAUSED or DRAINING; in every other state it does nothing else, and no other alert but STATION, by the change of the
feed permit, is touched. A return of the signal while DOWN sets the link UP and raises LINK with LINK_UP, and changes nothing
else (R150, R164). -/
def Obligations.LinkLossJamsAndReturnIsNoted : Prop :=
  (∀ s : State, s.resetHigh = true → s.ring.linkUp = true →
    let noted := raiseAlert .linkDown { s with ring := { s.ring with linkUp := false, forward := [] } }
    ∃ t, exec .linkLoss s = .next t ∧
    t.ring.linkUp = false ∧ t.ring.forward = [] ∧ alertOf .link t = alertOf .link (raiseAlert .linkDown s) ∧
    (∀ c, c ≠ .link → c ≠ .station → alertOf c t = alertOf c s) ∧ (∃ more, t.ring.own = noted.ring.own ++ more) ∧
    (s.line.state = .running ∨ s.line.state = .paused ∨ s.line.state = .draining →
      t.line.state = .jammed ∧ t.line.reason = some .linkDown ∧ t.line.drive = false ∧ t.line.permit = false) ∧
    (s.line.state = .idle ∨ s.line.state = .ready ∨ s.line.state = .jammed ∨ s.line.state = .closed → t = noted) ∧
    KeepsAllBut (stateParts ++ [.forward, .linkUp]) s t) ∧
  ∀ s : State, s.resetHigh = true → s.ring.linkUp = false →
    exec .linkReturn s = .next (raiseAlert .linkUp { s with ring := { s.ring with linkUp := true } })

/-! ### Alerts and answers (R165, R168, R169) -/

/-- An alert raised in a class counts up to 255. A class that was not pending takes the detail and, with a supervisor to send
to and room in the own-frame queue, queues one NOTICE with the class, the count and the detail; a pending class keeps its
detail and sends nothing (R168). -/
def Obligations.AlertRaisedCountsAndNotifiesOnce : Prop :=
  ∀ (d : AlertDetail) (s : State),
    (alertOf d.cls (raiseAlert d s)).count = min 255 ((alertOf d.cls s).count + 1) ∧
    (alertOf d.cls (raiseAlert d s)).pending = true ∧
    ((alertOf d.cls s).pending = true →
      (alertOf d.cls (raiseAlert d s)).detail = (alertOf d.cls s).detail ∧ (raiseAlert d s).ring = s.ring) ∧
    ((alertOf d.cls s).pending = false →
      (alertOf d.cls (raiseAlert d s)).detail = some d ∧
      (s.supervisor ≠ 0 → s.supervisor ≠ 63 → s.ring.own.length < 32 →
        (raiseAlert d s).ring.own =
          s.ring.own ++ [⟨s.supervisor, .notice d.cls (min 255 ((alertOf d.cls s).count + 1)) d⟩]) ∧
      (s.supervisor = 0 ∨ s.supervisor = 63 ∨ 32 ≤ s.ring.own.length → (raiseAlert d s).ring = s.ring)) ∧
    (∀ c, c ≠ d.cls → alertOf c (raiseAlert d s) = alertOf c s) ∧
    KeepsAllBut [.own, .alerts] s (raiseAlert d s)

/-- An ANSWER of up to 928 bytes of content is sent in parts of at most 116 bytes, numbered from 0, the last one marked, and
the parts' contents in order are the content (R165). -/
def Obligations.AnswerPartsCarryTheContent : Prop :=
  ∀ (tag : Byte) (code : AnswerCode) (content : List Byte), content.length ≤ 928 →
    ∃ chunks : List (List Byte), chunks ≠ [] ∧ chunks.flatten = content ∧ (∀ c ∈ chunks, c.length ≤ 116) ∧
      chunks.length ≤ 8 ∧
      (∀ s : State, s.supervisor ≠ 0 → s.supervisor ≠ 63 → s.ring.own.length + chunks.length ≤ 32 →
        sendAnswer tag code content s =
          { s with ring := { s.ring with
            own := s.ring.own ++ chunks.zipIdx.map
              (fun x => ⟨s.supervisor, .answer tag code x.2 (x.2 + 1 == chunks.length) x.1⟩) } })

/-- ACK_ALERT clears the pending flag, the detail and the count of the class it names, also when it was not pending, and
answers OK; an unknown class or operands of another length are refused with RANGE (R165, R169). A refused request's frame goes
on marked TAKEN (the model's reading, log entry 20). -/
def Obligations.AckAlertClearsItsClass : Prop :=
  ∀ (h : Header) (tag : Byte) (operands : List Byte) (s : State), Commanded h (tag :: 14 :: operands) s →
    (∀ b c, operands = [b] → b.toNat = AlertClass.code c →
      ∃ v, exec (.ackAlert h tag operands) s = .next (answered h 4 (tag :: 14 :: operands) tag .ok [] v) ∧
        alertOf c v = { pending := false, detail := none, count := 0 } ∧ (∀ d, d ≠ c → alertOf d v = alertOf d s) ∧
        KeepsAllBut [.alerts] s v) ∧
    (operands.length ≠ 1 ∨ (∃ b, operands = [b] ∧ (b.toNat = 0 ∨ 8 < b.toNat)) →
      exec (.ackAlert h tag operands) s = .next (answered h 4 (tag :: 14 :: operands) tag .range [] s))

/-- A management frame of the supervisor whose operation, table or subject is unknown is taken and refused with RANGE, and
changes nothing else (R165). The tag is the payload's first byte. A refused request's frame goes on marked TAKEN (the model's
reading, log entry 20). -/
def Obligations.UnknownRequestIsRefused : Prop :=
  ∀ (h : Header) (kind tag : Byte) (rest : List Byte) (s : State), Commanded h (tag :: rest) s →
    namesNothing kind (tag :: rest) = true →
    exec (.unknownManagementRequest h kind (tag :: rest)) s = .next (answered h kind (tag :: rest) tag .range [] s)

/-! ### Queries (R167) -/

/-- Every QUERY whose index lies in its subject's range answers OK with the content of its rule and changes nothing but the
queue its ANSWER joins and what forwarding its frame does; any other index is refused with RANGE (R167 and R20, R49, R77,
R106, R122, R130, R145, R159, R169). Details of the contents that R170 does not spell are the model's (log entry 10). A
refused request's frame goes on marked TAKEN (the model's reading, log entry 20). -/
def Obligations.QueriesAnswerAndChangeNothing : Prop :=
  ∀ (c : Instr) (q : QueryParts) (s : State), queryParts c = some q →
    Commanded q.header (q.tag :: q.subject :: q.index) s →
    (q.index.length = 2 → field q.index 0 2 < q.bound s →
      exec c s = .next (answered q.header 3 (q.tag :: q.subject :: q.index) q.tag .ok (q.content (field q.index 0 2) s) s)) ∧
    (q.index.length ≠ 2 ∨ q.bound s ≤ field q.index 0 2 →
      exec c s = .next (answered q.header 3 (q.tag :: q.subject :: q.index) q.tag .range [] s)) ∧
    ∀ t, exec c s = .next t → KeepsAllBut [.own, .forward, .alerts] s t

/-- What every query reports, item by item in the order of its rule but where said below, and in the encoding of R170 (R20,
R41, R49, R77, R106, R122, R130, R145, R159, R169), with the codes of the named values, the details of the alerts and the
bytes of the sets. A flag as the byte 1 or 0, an absent item as the byte 0, a count before a list where R170 does not spell
it, the code of a plan entry, EP and NB in four bytes, the one byte that is both k and the count of QUERY STOCK's list, the
counters of QUERY RUN, the classes of QUERY ALERTS and the bins of QUERY GROUP without a count byte, the plan of QUERY PIECE
in increasing station index without the index, its output read and verification result in the codes of the PIECE record with
the sequence and incarnation of a read value only, the in-flight list and the open bundle of QUERY BIN after its tray bundle
count and previous tray key, where the table of R109 has them before these, a residual entry index as a number that is none,
the reasons of a pause or jam in one list, the total of the flights in two bytes, the collecting pocket before the staging
pocket, and the arrangement of QUERY ALERTS are the model's choices and no rule's (log entry 10). So are the place of a named
detail before the items of an alert, with the items alone for MATCH and STATION (log entry 21), and nibble 15 in each position
past the length of a key (log entry 26). Bits of a record that the layout leaves without a value are sent as 0 (log entry 39).
-/
def Obligations.QueryContentsFollowTheirRules : Prop :=
  let flag := fun b : Bool => if b then (1 : Byte) else 0
  let opt := fun (n : Nat) (x : Option Nat) => match x with
    | none => ([0] : List Byte)
    | some v => 1 :: beBytes n v
  (∀ v : Nat, beBytes 2 v = [byteOf (v / 256), byteOf v] ∧ beBytes 3 v = [byteOf (v / 65536), byteOf (v / 256), byteOf v] ∧
    beBytes 4 v = [byteOf (v / 16777216), byteOf (v / 65536), byteOf (v / 256), byteOf v]) ∧
  (∀ l : List FaultName, faultSetNat l < 16384 ∧ ∀ f, (faultSetNat l).testBit (f.order - 1) = decide (f ∈ l)) ∧
  (∀ l : List Nat, stationSetNat l < 16777216 ∧ ∀ i < 24, (stationSetNat l).testBit i = decide (i ∈ l)) ∧
  ([FaultName.missingPage, .extraPage, .countMismatch, .doubleSheet, .thinSheet, .unreadSheet, .overstuff, .insertWithheld,
      .insertMiss, .insertDouble, .insertUnconfirmed, .envelopeFault, .mismatch, .unverified].map (·.order) =
      List.range' 1 14 ∧
    [Disposition.sorted, .handFinish, .handSort, .diverted, .cleared, .skipped, .aborted, .lost].map
      (fun d => (Reason.disposition d).code) = List.range' 15 8 ∧
    (∀ f, (Reason.fault f).code = f.order) ∧
    [RunState.idle, .ready, .running, .paused, .jammed, .draining, .closed].map (·.code) = List.range' 1 7 ∧
    [none, some StopReason.operator, some .mismatch, some .sequence, some .sorter, some .occupancy, some .accumulatorOverrun,
      some .linkDown].map StopReason.code = List.range 8 ∧
    [StationKind.sheetFeeder, .sheetScanner, .sheetDivert, .folder, .insert, .envelope, .scanOut, .slotCheck, .exit].map
      (·.code) = List.range' 1 9 ∧
    [StationMode.normal, .force, .skip, .off].map (·.code) = List.range' 1 4 ∧
    [StationStatus.ready, .low, .empty, .fault, .unknown, .absent].map (·.code) = List.range' 1 6 ∧
    [Verification.none, .verified, .unread, .unverified].map (·.code) = List.range 4 ∧
    [BinState.off, .open, .fullWait].map (·.code) = List.range' 1 3 ∧
    [EntryState.open, .requested, .queued].map (·.code) = List.range' 1 3 ∧
    [CaliperClass.letter, .flat, .bulk].map (·.code) = List.range 3 ∧
    [AlertClass.link, .jam, .mismatch, .sequence, .sorter, .reserve, .station, .run].map (·.code) = List.range' 1 8) ∧
  (∀ k : BundleKey, let nibble := fun i => ((k[i]?).getD none).getD 15
    keyBytes k =
      [byteOf (nibble 0 * 16 + nibble 1 % 16), byteOf (nibble 2 * 16 + nibble 3 % 16), byteOf (nibble 4 * 16 + nibble 5 % 16),
        byteOf (nibble 6 * 16 + nibble 7 % 16), byteOf (nibble 8 * 16 + k.length % 16)]) ∧
  (∀ (r : JobRecord) (a b c d e : Nat), r.dest.required = [a, b, c, d, e] →
    let head := beBytes 3 r.seq ++
      [byteOf (r.inc % 16 * 16 + (if r.reprint then 4 else 0) + (if r.matchRequired then 2 else 0) +
        (if r.handFinish then 1 else 0)), byteOf r.pages, byteOf r.panels, byteOf (a * 16 + b % 16), byteOf (c * 16 + d % 16)]
    let tail := byteOf r.selections.length :: r.selections.flatMap fun x =>
      [byteOf x.station, match x.mode with
        | .mandatory => 0x80
        | .optional p => byteOf (p % 8)]
    (r.dest.extra = none → r.bytes = head ++ [byteOf (e * 16), 0, 0] ++ tail) ∧
    ∀ w x y z, r.dest.extra = some [w, x, y, z] →
      r.bytes = head ++ [byteOf (e * 16 + w % 16), byteOf (x * 16 + y % 16), byteOf (z * 16 + 1)] ++ tail) ∧
  (∀ s : State, logContent s =
    beBytes 2 (logUsed s) ++ beBytes 2 (8192 - logUsed s) ++ beBytes 2 s.log.records.length ++
    (match s.log.records with
     | [] => [0]
     | r :: _ => 1 :: beBytes 2 r.serial) ++
    beBytes 2 s.log.serial ++ beBytes 2 s.log.lost ++
    (match s.log.records with
     | [] => [0]
     | r :: _ => [byteOf r.length]) ++ beBytes 2 s.log.reserve) ∧
  (∀ (i : Nat) (s : State), ∃ x, stockAt i s = x ∧ stockContent i s =
    [byteOf x.averaging] ++ beBytes 2 x.nominal ++ [byteOf x.tolerance] ++ beBytes 2 x.margin ++
    [byteOf x.ring.length] ++ x.ring.flatMap (beBytes 2) ++ beBytes 2 x.ring.sum ++ beBytes 2 x.reference ++
    beBytes 2 x.marginNow ++ beBytes 2 x.upper ++ beBytes 2 x.thin) ∧
  (∀ (g : Nat) (s : State), ∃ x, groupAt g s = x ∧ groupContent g s =
    [byteOf x.chain.length] ++ x.chain.map byteOf ++
    [byteOf x.target, byteOf x.minimum, byteOf x.demote, byteOf x.refs] ++
    x.chain.flatMap fun b =>
      [byteOf (binAt b s).state.code] ++ beBytes 2 (binAt b s).committed ++ [byteOf (binAt b s).flights.length]) ∧
  (∀ (i : Nat) (s : State), queueContent i s =
    [byteOf s.queue.records.length, if s.channel.held then 1 else 0, byteOf s.queue.high, byteOf s.queue.low] ++
    (match s.queue.last with
     | none => [0]
     | some n => 1 :: beBytes 3 n) ++
    (match s.queue.records[i]? with
     | none => [0]
     | some r => 1 :: r.bytes)) ∧
  (∀ s : State,
    let pocket := fun c : Collation => beBytes 3 c.job.seq ++ [byteOf c.job.inc, flag c.job.reprint, flag c.handFinish,
      byteOf c.sheets.length, byteOf c.next] ++ beBytes 2 (faultSetNat c.faults)
    let n := s.line.counters
    runContent s =
      [byteOf s.line.state.code, flag s.line.ending, byteOf (StopReason.code s.line.reason)] ++ beBytes 4 s.line.runId.toNat ++
      [flag s.line.locked] ++ [n.accepted, n.sorted, n.handFinish, n.handSort, n.diverted, n.cleared, n.skipped, n.aborted,
        n.lost, n.unfed].flatMap (beBytes 3) ++
      [flag s.line.permit, flag s.line.drive, if s.ring.linkUp then 1 else 2, byteOf s.queue.records.length,
        byteOf (pieceCount s)] ++
      beBytes 2 (flightTotal s) ++ beBytes 2 (256 - s.reprints.length) ++ beBytes 2 (8192 - logUsed s) ++
      (match s.collation.collecting with
       | .empty => [1]
       | .collecting c => 2 :: pocket c
       | .complete c => 3 :: pocket c) ++
      (match s.collation.staging with
       | none => [1]
       | some c => 2 :: pocket c) ++ [byteOf s.collation.strays]) ∧
  (∀ s : State, trackContent s =
    [byteOf s.track.length] ++ beBytes 2 s.track.pulses ++ [byteOf s.sort.window] ++
    beBytes 4 (s.track.position % 4294967296).toNat ++ beBytes 4 (s.track.boundary % 4294967296).toNat ++
    [byteOf s.track.pitch, byteOf s.track.encoderErrors] ++ beBytes 2 s.track.nextSerial ++
    [byteOf (pieceCount s), byteOf s.track.slots.length] ++
    (s.track.slots.flatMap fun x => match x with
      | none => [0]
      | some p => [1, byteOf (p.serial % 256)]) ++ opt 1 s.track.jamSlot) ∧
  (∀ (i : Nat) (s : State), presentBytes Piece.bytes (pieceAt i s) = match pieceAt i s with
    | none => [0]
    | some p =>
      1 :: (beBytes 2 p.serial ++ [byteOf (p.serial % 256)] ++ p.job.bytes ++ beBytes 2 (faultSetNat p.collationFaults) ++
        [flag p.diverted] ++ beBytes 2 (faultSetNat p.faults) ++ beBytes 2 p.caliper ++ [byteOf p.plan.length] ++
        (p.plan.flatMap fun x => match x.2 with
          | .none => [0, 0]
          | .mandatory => [1, 0]
          | .optional k => [2, byteOf k]
          | .forced => [3, 0]) ++
        beBytes 3 (stationSetNat p.dropped) ++ beBytes 3 (stationSetNat p.withheld) ++ beBytes 3 (stationSetNat p.missed) ++
        beBytes 3 (stationSetNat p.fed) ++ [flag p.saturated] ++ opt 2 p.scheme.entry ++ [byteOf p.scheme.group] ++
        keyBytes p.scheme.key ++ [byteOf p.scheme.level, byteOf p.windows.length] ++
        (p.windows.flatMap fun w => [byteOf w.station, byteOf w.closing]) ++
        (match p.output with
         | .none => [0]
         | .noRead => [1]
         | .value seq inc => 2 :: (beBytes 3 seq ++ [byteOf inc])) ++ [byteOf p.verification.code])) ∧
  (∀ (i : Nat) (s : State), presentBytes StationEntry.bytes (stationAt i s) = match stationAt i s with
    | none => [0]
    | some e =>
      1 :: ([byteOf e.node, byteOf e.kind.code, byteOf e.offset, byteOf e.window] ++ beBytes 2 e.caliper ++
        [byteOf e.lateLimit, byteOf e.mode.code, byteOf e.status.code, byteOf e.late, byteOf e.effectiveMode.code])) ∧
  (∀ (b : Nat) (s : State), ∃ x, binAt b s = x ∧ binContent b s =
    opt 1 x.node ++ opt 2 x.capacity ++ [byteOf x.state.code] ++ beBytes 2 x.landed ++ beBytes 2 x.committed ++
    beBytes 2 x.trayBundles ++
    (match x.previousKey with
     | none => [0]
     | some k => 1 :: keyBytes k) ++ [byteOf x.flights.length] ++
    (x.flights.flatMap fun f =>
      beBytes 2 f.serial ++ beBytes 3 f.seq ++ [byteOf f.inc] ++ keyBytes f.key ++ [byteOf f.pitch]) ++
    (match x.bundle with
     | none => [0]
     | some u => 1 :: (keyBytes u.key ++ [byteOf u.count] ++ beBytes 3 u.first ++ beBytes 3 u.last ++ opt 2 u.entry ++
        [byteOf u.level, flag u.continued])) ++ opt 1 (groupOfBin b s)) ∧
  (∀ (i : Nat) (s : State) (x : SchemeEntry) (p q r t u v w y z : Option Nat), schemeAt i s = x →
    x.pattern = [p, q, r, t, u, v, w, y, z] →
    let pair := fun a b : Option Nat => byteOf (a.getD 15 * 16 + b.getD 15 % 16)
    schemeContent i s =
      [1, pair p q, pair r t, pair u v, pair w y, byteOf (z.getD 15 * 16), byteOf x.group,
        byteOf ((if x.enabled then 128 else 0) + x.maxClass.code * 32 + x.keyLength % 16), byteOf x.level,
        byteOf (x.pattern.countP (·.isSome)), byteOf (i / 16), byteOf (pageUseAt (i / 16) s)]) ∧
  (∀ (i : Nat) (s : State), let inState := fun st => s.reprints.countP fun e => e.state == st
    reprintContent i s =
      beBytes 2 (inState .open) ++ beBytes 2 (inState .requested) ++ beBytes 2 (inState .queued) ++
      beBytes 2 (256 - s.reprints.length) ++
      match s.reprints[i]? with
      | none => [0]
      | some e => 1 :: (beBytes 3 e.seq ++ [byteOf e.inc, byteOf e.reason.code, byteOf e.state.code])) ∧
  (∀ s : State,
    let classes := [AlertClass.link, .jam, .mismatch, .sequence, .sorter, .reserve, .station, .run].flatMap fun c =>
      [flag (alertOf c s).pending, byteOf (alertOf c s).count]
    ((∀ c, (alertOf c s).pending = false) → alertsContent s = 0 :: classes) ∧
    ∀ c d, (alertOf c s).pending = true → (alertOf c s).detail = some d →
      (∀ k, k.code < c.code → (alertOf k s).pending = false) →
      alertsContent s = byteOf c.code :: (d.bytes ++ classes)) ∧
  (∀ a b c d e f : Nat,
    [AlertDetail.linkDown, .linkUp, .ringOverrun].map (·.bytes) = [[1], [2], [3]] ∧
    AlertDetail.bytes (.occupancy a) = [1, byteOf a] ∧ AlertDetail.bytes .accumulatorOverrun = [2] ∧
    AlertDetail.bytes (.mismatch a b c d e f) =
      byteOf a :: (beBytes 2 b ++ beBytes 3 c ++ [byteOf d] ++ beBytes 3 e ++ [byteOf f]) ∧
    AlertDetail.bytes .strayLimit = [1] ∧ AlertDetail.bytes (.noBin a) = [1, byteOf a] ∧
    AlertDetail.bytes (.unexpectedLanding a) = [2, byteOf a] ∧ AlertDetail.bytes (.timeout a) = [3, byteOf a] ∧
    AlertDetail.bytes (.selectUntaken a) = [4, byteOf a] ∧ AlertDetail.bytes (.markUntaken a) = [5, byteOf a] ∧
    AlertDetail.bytes (.divertUntaken a) = 6 :: beBytes 2 a ∧
    [AlertDetail.recordOverrun, .reserveDivert, .logOverflow].map (·.bytes) = [[1], [2], [3]] ∧
    (∀ st, AlertDetail.bytes (.stationStatus a st) = [byteOf a, byteOf st.code]) ∧
    AlertDetail.bytes .drainComplete = [1])

/-! ### RECORD, SKIP_RECORD, LOG_READ and REPRINT_READ (R2 to R16, R129, R132, R143) -/

/-- A record that passes the four steps of R2 is accepted without an answer: it joins the tail of the queue as R4 adjusts it,
a non-reprint record moves the last accepted sequence and a reprint record its entry to QUEUED, the accepted count rises, the
held flag is set when the count reaches H, which sends RECORD_HOLD, the feed permit follows its conditions, and nothing else
changes (R2 to R7, R15). -/
def Obligations.RecordAccepted : Prop :=
  ∀ (h : Header) (tag : Byte) (body : List Byte) (r : JobRecord) (s : State), Commanded h (tag :: body) s →
    IntakeOpen s → readRecord body = some r → RecordSound r s → SequenceAdmits r s → s.queue.records.length < 64 →
    s.line.counters.accepted < 16777215 →
    ∃ v, exec (.record h tag body) s = .next (taken h 1 (tag :: body) v) ∧
      v.queue.records = s.queue.records ++ [adjusted s.collation.sheetLimit r] ∧
      v.queue.last = (if r.reprint then s.queue.last else some r.seq) ∧
      v.line.counters = { s.line.counters with accepted := s.line.counters.accepted + 1 } ∧
      v.channel.held = (s.channel.held || decide (s.queue.records.length + 1 = s.queue.high)) ∧
      v.reprints.length = s.reprints.length ∧
      (∀ (i : Nat) (e : ReprintEntry), s.reprints[i]? = some e → r.reprint = false ∨ e.seq ≠ r.seq → v.reprints[i]? = some e) ∧
      (∀ e, r.reprint = true → entryOf r.seq s = some e → entryOf r.seq v = some { e with state := .queued }) ∧
      (OutputsFollowState s → OutputsFollowState v) ∧
      (s.queue.records ≠ [] → v.ring.own =
        if s.channel.held = false ∧ s.queue.records.length + 1 = s.queue.high ∧ s.ring.own.length < 32
        then s.ring.own ++ [⟨s.supervisor, .recordHold⟩] else s.ring.own) ∧
      StationsKept id (s.ring.own.length < 32) s v ∧ AlertsKeptBut [.station] s v ∧
      KeepsAllBut (permitParts ++ [.held, .records, .last, .reprints, .counters]) s v

/-- A record is refused at the first step of R2 that refuses it, with that step's code, and nothing changes; only FULL raises
the RESERVE alert, with RECORD_OVERRUN (R2, R3, R5, R6, R9). A refused request's frame goes on marked TAKEN (the model's
reading, log entry 20). -/
def Obligations.RecordRefusedInOrder : Prop :=
  ∀ (h : Header) (tag : Byte) (body : List Byte) (s : State), Commanded h (tag :: body) s →
    (¬ IntakeOpen s → exec (.record h tag body) s = .next (answered h 1 (tag :: body) tag .state [] s)) ∧
    (IntakeOpen s → (∀ r, readRecord body = some r → ¬ RecordSound r s) →
      exec (.record h tag body) s = .next (answered h 1 (tag :: body) tag .range [] s)) ∧
    ∀ r, IntakeOpen s → readRecord body = some r → RecordSound r s →
      (s.line.counters.accepted = 16777215 →
        exec (.record h tag body) s = .next (answered h 1 (tag :: body) tag .limit [] s)) ∧
      (s.line.counters.accepted ≠ 16777215 → r.reprint = false → (∃ n, s.queue.last = some n ∧ r.seq ≤ n) →
        exec (.record h tag body) s = .next (answered h 1 (tag :: body) tag .sequence [] s)) ∧
      (s.line.counters.accepted ≠ 16777215 → r.reprint = true →
        (entryOf r.seq s = none ∨ ∃ e, entryOf r.seq s = some e ∧ (e.state = .queued ∨ (e.inc ≠ 15 ∧ r.inc ≠ e.inc + 1))) →
        exec (.record h tag body) s = .next (answered h 1 (tag :: body) tag .unknownReprint [] s)) ∧
      (s.line.counters.accepted ≠ 16777215 → r.reprint = true →
        (∃ e, entryOf r.seq s = some e ∧ e.state ≠ .queued ∧ e.inc = 15) →
        exec (.record h tag body) s = .next (answered h 1 (tag :: body) tag .limit [] s)) ∧
      (SequenceAdmits r s → 64 ≤ s.queue.records.length →
        exec (.record h tag body) s =
          .next (answered h 1 (tag :: body) tag .full [] (raiseAlert .recordOverrun s)))

/-- A job record's bytes read back as the record (R170), for every record whose fields lie in the ranges of R1. -/
def Obligations.RecordBytesReadBack : Prop :=
  ∀ r : JobRecord, r.seq < 16777216 → r.inc < 16 → r.pages < 256 → r.panels < 256 → r.selections.length < 54 →
    (∀ x ∈ r.selections, x.station < 256 ∧ ∀ p, x.mode = .optional p → p < 8) →
    r.dest.required.length = 5 → (∀ d ∈ r.dest.required, d < 16) →
    (∀ l, r.dest.extra = some l → l.length = 4 ∧ ∀ d ∈ l, d < 16) →
    readRecord r.bytes = some r

/-- SKIP_RECORD removes head records, each disposed SKIPPED, until it has removed as many as it names, the queue is empty, or
the head is a non-reprint record and the free reprint count does not exceed the in-flight count; it answers with the number
removed. Each record removed was a reprint record or met a free count above the in-flight count, which each new entry before
it had lowered; a reprint record's QUEUED entry is OPEN again in its place with reason SKIPPED, every other record gets an
entry, and each asks for a PIECE record. A removal that leaves the count at or below the low mark clears a set held flag, with
one RECORD_GO. It is refused with STATE outside PAUSED and JAMMED, and with RANGE for a count outside 1..8 (R16, R124, R128,
R132, R137). A refused request's frame goes on marked TAKEN (the model's reading, log entry 20). -/
def Obligations.SkipRecordDisposesTheHead : Prop :=
  ∀ (h : Header) (tag : Byte) (operands : List Byte) (s : State), Commanded h (tag :: 10 :: operands) s →
    (∀ n, s.line.state = .paused ∨ s.line.state = .jammed → operands = [n] → 1 ≤ n.toNat → n.toNat ≤ 8 →
      s.line.counters.skipped ≤ 16777215 →
      ∃ k v, exec (.skipRecord h tag operands) s =
          .next (answered h 4 (tag :: 10 :: operands) tag .ok [byteOf k] v) ∧
        k ≤ n.toNat ∧ v.queue.records = s.queue.records.drop k ∧ k ≤ s.queue.records.length ∧
        v.line.counters = { s.line.counters with skipped := min 16777215 (s.line.counters.skipped + k) } ∧
        (∀ (i : Nat) (r : JobRecord), i < k → s.queue.records[i]? = some r → r.reprint = false →
          inFlightCount s + ((s.queue.records.take i).countP fun x => !x.reprint) < reprintFree s) ∧
        (k = n.toNat ∨ v.queue.records = [] ∨
          ∃ r rest, v.queue.records = r :: rest ∧ r.reprint = false ∧ reprintFree v ≤ inFlightCount v) ∧
        inFlightCount v = inFlightCount s ∧ v.reprints = (s.queue.records.take k).foldl skippedEntries s.reprints ∧
        LogTookAll ((s.queue.records.take k).map fun r => .piece
          { seq := r.seq, inc := r.inc, disposition := .skipped, reason := .disposition .skipped, faults := []
            saturated := false, serial := none, caliper := 0, verification := .none, output := .none, scheme := none
            caliperClass := none, bin := none, fed := [], stations := [], place := none }) s v ∧
        v.channel.held = (s.channel.held && (k == 0 || decide (s.queue.low < v.queue.records.length))) ∧
        (s.ring.own.length + 3 ≤ 32 → recordGoes (s.ring.own.length) v =
          if s.channel.held = true ∧ v.channel.held = false then [⟨s.supervisor, .recordGo⟩] else []) ∧
        StationsKept id (s.ring.own.length + 3 ≤ 32) s v ∧ AlertsKeptBut [.reserve, .station] s v ∧
        KeepsAllBut (disposeParts ++ [.held, .records]) s v) ∧
    (s.line.state ≠ .paused → s.line.state ≠ .jammed →
      exec (.skipRecord h tag operands) s = .next (answered h 4 (tag :: 10 :: operands) tag .state [] s)) ∧
    (s.line.state = .paused ∨ s.line.state = .jammed →
      (operands.length ≠ 1 ∨ ∃ n, operands = [n] ∧ (n.toNat = 0 ∨ 8 < n.toNat)) →
      exec (.skipRecord h tag operands) s = .next (answered h 4 (tag :: 10 :: operands) tag .range [] s))

/-- LOG_READ removes whole records from the oldest end while their total length stays at most n words, and answers with their
number and each whole; a count outside 1..30 is refused with RANGE and removes nothing (R143). Each record's length is the
number of its words, and its bytes are these words, the header first: its kind, length, RUN event and serial, then the words of
a PIECE, BUNDLE, TRAY, UNFED, RUN or OVERFLOW record, with the optional parts of a PIECE record each under its condition (R136
to R141, R170). The bits to which the layout gives no meaning, and a field whose value is none, are sent as 0 (log entry 39),
and key positions past a key's length as 15 (log entry 26). A refused request's frame goes on marked TAKEN (the model's
reading, log entry 20). -/
def Obligations.LogReadRemovesWholeRecords : Prop :=
  (∀ (h : Header) (tag : Byte) (operands : List Byte) (s : State), Commanded h (tag :: operands) s →
    (∀ n, operands = [n] → 1 ≤ n.toNat → n.toNat ≤ 30 →
      ∃ out rest v, s.log.records = out ++ rest ∧ (out.map LogRecord.length).sum ≤ n.toNat ∧
        (∀ r, rest.head? = some r → n.toNat < (out.map LogRecord.length).sum + r.length) ∧
        exec (.logRead h tag operands) s =
          .next (answered h 5 (tag :: operands) tag .ok (byteOf out.length :: out.flatMap LogRecord.bytes) v) ∧
        v.log = { s.log with records := rest } ∧ (OutputsFollowState s → OutputsFollowState v) ∧
        StationsKept id (s.ring.own.length < 32) s v ∧ AlertsKeptBut [.station] s v ∧
        KeepsAllBut (permitParts ++ [.logRecords]) s v) ∧
    (operands.length ≠ 1 ∨ (∃ n, operands = [n] ∧ (n.toNat = 0 ∨ 30 < n.toNat)) →
      exec (.logRead h tag operands) s = .next (answered h 5 (tag :: operands) tag .range [] s))) ∧
  (let word := fun n : Nat => [byteOf (n / 16777216), byteOf (n / 65536), byteOf (n / 256), byteOf n]
   let spells := fun (serial : Nat) (body : LogBody) (kind event : Nat) (rest : List Nat) =>
      LogRecord.length ⟨serial, body⟩ = rest.length + 1 ∧
      LogRecord.bytes ⟨serial, body⟩ =
        word (kind * 2 ^ 28 + (rest.length + 1) * 2 ^ 24 + event * 2 ^ 20 + serial % 65536) ++ rest.flatMap word
   let one := fun b : Bool => if b then 1 else 0
   ∀ serial : Nat,
      (∀ p : PieceLog, spells serial (.piece p) 1 0 (
        [p.seq * 2 ^ 8 + p.inc % 16 * 2 ^ 4 + p.disposition.code,
          p.bin.getD 0 * 2 ^ 27 + one p.bin.isSome * 2 ^ 26 +
            (match p.caliperClass with | none => 0 | some .letter => 1 | some .flat => 2 | some .bulk => 3) * 2 ^ 24 +
            (match p.output with | .none => 0 | .noRead => 1 | .value _ _ => 2) * 2 ^ 22 + p.verification.code * 2 ^ 20 +
            one p.saturated * 2 ^ 19 + p.reason.code * 2 ^ 14 + faultSetNat p.faults,
          p.serial.getD 0 * 2 ^ 16 + p.caliper % 65536,
          one p.serial.isSome * 2 ^ 31 +
            (match p.scheme with | none => 0 | some ⟨some _, _, _⟩ => 1 | some ⟨none, _, _⟩ => 2) * 2 ^ 29 +
            one (decide (p.fed ≠ [])) * 2 ^ 28 + one (decide (p.stations ≠ [])) * 2 ^ 27 +
            (match p.scheme with
             | none => 0
             | some m => m.entry.getD 0 * 2 ^ 16 + m.group * 2 ^ 12 + m.level * 2 ^ 9)] ++
        (if p.fed = [] then [] else [stationSetNat p.fed]) ++
        (if p.stations = [] then [] else [stationSetNat p.stations]) ++
        (match p.place with | none => [] | some (first, position) => [first * 2 ^ 8 + position % 256]) ++
        (match p.output with
         | .value seq inc => if seq = p.seq ∧ inc = p.inc then [] else [seq * 2 ^ 8 + inc % 16 * 2 ^ 4]
         | _ => []))) ∧
      (∀ b : BundleLog, let nibble := fun i => ((b.key[i]?).getD none).getD 15
        spells serial (.bundle b) 2 0
          [b.bin * 2 ^ 27 + b.group * 2 ^ 23 + b.count * 2 ^ 15 + b.level * 2 ^ 12 + b.cause.code * 2 ^ 9 +
              one b.demoted * 2 ^ 8 + one b.continued * 2 ^ 7,
            nibble 0 * 2 ^ 28 + nibble 1 * 2 ^ 24 + nibble 2 * 2 ^ 20 + nibble 3 * 2 ^ 16 + nibble 4 * 2 ^ 12 +
              nibble 5 * 2 ^ 8 + nibble 6 * 2 ^ 4 + nibble 7,
            nibble 8 * 2 ^ 28 + b.key.length * 2 ^ 24 + one b.entry.isNone * 2 ^ 9 + b.entry.getD 0,
            b.first * 2 ^ 8, b.last * 2 ^ 8]) ∧
      (∀ bin landed bundles : Nat, spells serial (.tray bin landed bundles) 3 0 [bin * 2 ^ 27 + landed, bundles]) ∧
      (∀ seq inc : Nat, spells serial (.unfed seq inc) 4 0 [seq * 2 ^ 8 + inc % 16 * 2 ^ 4]) ∧
      (∀ (event : RunEvent) (id : Word), spells serial (.run event id none) 5 event.code [id.toNat] ∧
        ∀ a b c d e f g h i j : Nat, spells serial (.run event id (some ⟨a, b, c, d, e, f, g, h, i, j⟩)) 5 event.code
          [id.toNat, a, b, c, d, e, f, g, h, i, j]) ∧
      ∀ lost : Nat, spells serial (.overflow lost) 6 0 [lost]) ∧
  PieceCodes ∧
  [RunEvent.open, .start, .flush, .abort, .closed, .reset].map (·.code) = List.range' 1 6 ∧
  [CloseCause.keyBreak, .full, .tray, .binOff, .runEnd, .abort].map (·.code) = List.range 6

/-- REPRINT_READ takes the OPEN entries from the oldest, up to n; each becomes REQUESTED in its place. It answers with their
number, each entry's sequence, incarnation and reason code, and the number of OPEN entries left; a count outside 1..16 is
refused with RANGE (R129, R170). That the last number takes two bytes
is the model's choice (log entry 10). A refused request's frame goes on marked TAKEN (the model's reading, log entry 20). -/
def Obligations.ReprintReadRequestsOpenEntries : Prop :=
  PieceCodes ∧ ∀ (h : Header) (tag : Byte) (operands : List Byte) (s : State), Commanded h (tag :: operands) s →
    (∀ n, operands = [n] → 1 ≤ n.toNat → n.toNat ≤ 16 →
      ∃ v, exec (.reprintRead h tag operands) s =
          .next (answered h 6 (tag :: operands) tag .ok
            (let sent := (s.reprints.filter fun e => e.state == .open).take n.toNat
              let left := (s.reprints.countP fun e => e.state == .open) - n.toNat
              byteOf sent.length :: (sent.flatMap fun e =>
                [byteOf (e.seq / 65536), byteOf (e.seq / 256), byteOf e.seq, byteOf e.inc, byteOf e.reason.code]) ++
              [byteOf (left / 256), byteOf left]) v) ∧
        v.reprints.length = s.reprints.length ∧
        (∀ (i : Nat) (e : ReprintEntry), s.reprints[i]? = some e → v.reprints[i]? = some
          (if e.state = .open ∧ ((s.reprints.take i).countP fun x => x.state == .open) < n.toNat
           then { e with state := .requested } else e)) ∧
        KeepsAllBut [.reprints] s v) ∧
    (operands.length ≠ 1 ∨ (∃ n, operands = [n] ∧ (n.toNat = 0 ∨ 16 < n.toNat)) →
      exec (.reprintRead h tag operands) s = .next (answered h 6 (tag :: operands) tag .range [] s))

/-! ### Run control (R18, R146 to R156) -/

/-- OPEN_RUN with the header unlocked stores and locks the identifier, resets the run's state and moves to READY, asking for a
RUN OPEN record. Every stock keeps its profile and every station its entry but for its late count; a station's status changes
only to ABSENT, by a FEED_PERMIT that meets a full own-frame queue. With the header locked it is refused with LOCKED and changes nothing (R5, R18, R24, R44, R59, R63, R70, R76,
R133, R140, R147). A refused request's frame goes on marked TAKEN (the model's reading, log entry 20). -/
def Obligations.OpenRunReachesReady : Prop :=
  ∀ (h : Header) (tag : Byte) (operands : List Byte) (s : State), Commanded h (tag :: 1 :: operands) s →
    (∀ b3 b2 b1 b0, operands = [b3, b2, b1, b0] → s.line.locked = false →
      ∃ v, exec (.openRun h tag operands) s = .next (answered h 4 (tag :: 1 :: operands) tag .ok [] v) ∧
        v.line.state = .ready ∧ v.line.reason = none ∧ v.line.locked = true ∧ v.line.runId = b3 ++ b2 ++ b1 ++ b0 ∧
        v.line.drive = false ∧ v.line.permit = false ∧ v.line.counters = Counters.zero ∧ v.queue.last = none ∧
        v.collation.collecting = .empty ∧ v.collation.staging = none ∧ v.collation.strays = 0 ∧
        (∀ i, stockAt i v = { stockAt i s with ring := [] }) ∧ v.track.slots = List.replicate s.track.length none ∧
        v.track.position = 0 ∧ v.track.boundary = s.track.pulses ∧ v.track.pitch = 0 ∧ v.track.encoderErrors = 0 ∧
        v.track.nextSerial = 0 ∧ v.track.jamSlot = none ∧
        StationsKept (fun e => { e with late := 0 }) (s.ring.own.length < 32) s v ∧ AlertsKeptBut [.reserve, .station] s v ∧
        LogTook (.run .open (b3 ++ b2 ++ b1 ++ b0) none) s v ∧
        KeepsAllBut (stateParts ++ writeParts ++ [.slots, .position, .boundary, .pitch, .encoderErrors, .nextSerial,
          .jamSlot, .collecting, .staging, .strays, .last, .stocks, .runId, .locked, .counters]) s v) ∧
    (operands.length ≠ 4 → s.line.locked = false →
      exec (.openRun h tag operands) s = .next (answered h 4 (tag :: 1 :: operands) tag .range [] s)) ∧
    (s.line.locked = true →
      exec (.openRun h tag operands) s = .next (answered h 4 (tag :: 1 :: operands) tag .locked [] s))

/-- START in READY asks for a RUN START record, moves to RUNNING, turns DRIVE_RUN on and re-evaluates the feed permit. PAUSE
in RUNNING or DRAINING moves to PAUSED with reason OPERATOR, drops the permit and DRIVE_RUN, and keeps the ending flag and the
log. With room for it, a permit that changed is sent to the SHEET_FEEDER entry, and else that entry is set ABSENT; nothing else
of the stations changes. In every other state they are refused with
STATE, and with operands they do not have with RANGE (R147, R148, R157, R165). A refused request's frame goes on marked TAKEN
(the model's reading, log entry 20). -/
def Obligations.StartAndPauseMoveTheLine : Prop :=
  ∀ (h : Header) (tag : Byte) (operands : List Byte) (s : State),
    (Commanded h (tag :: 2 :: operands) s →
      (operands = [] → s.line.state = .ready →
        ∃ v, exec (.start h tag operands) s = .next (answered h 4 (tag :: 2 :: operands) tag .ok [] v) ∧
          v.line.state = .running ∧ v.line.reason = none ∧ v.line.drive = true ∧
          v.line.permit = permitConditions v ∧ LogTook (.run .start s.line.runId none) s v ∧
          (∀ i e, stationOfKind .sheetFeeder s = some (i, e) → s.ring.own.length + 2 ≤ 32 → s.line.permit = false →
            v.line.permit = true → ∃ before, v.ring.own = s.ring.own ++ before ++ [⟨e.dst, .feedPermit true⟩]) ∧
          StationsKept id (s.ring.own.length + 2 ≤ 32) s v ∧ AlertsKeptBut [.reserve, .station] s v ∧
          KeepsAllBut (stateParts ++ writeParts) s v) ∧
      (s.line.state ≠ .ready →
        exec (.start h tag operands) s = .next (answered h 4 (tag :: 2 :: operands) tag .state [] s)) ∧
      (operands ≠ [] → s.line.state = .ready →
        exec (.start h tag operands) s = .next (answered h 4 (tag :: 2 :: operands) tag .range [] s))) ∧
    (Commanded h (tag :: 3 :: operands) s →
      (operands = [] → s.line.state = .running ∨ s.line.state = .draining →
        ∃ v, exec (.pause h tag operands) s = .next (answered h 4 (tag :: 3 :: operands) tag .ok [] v) ∧
          v.line.state = .paused ∧ v.line.reason = some .operator ∧ v.line.drive = false ∧ v.line.permit = false ∧
          (∀ i e, stationOfKind .sheetFeeder s = some (i, e) → s.ring.own.length < 32 →
            v.ring.own = s.ring.own ++ if s.line.permit then [⟨e.dst, .feedPermit false⟩] else []) ∧
          StationsKept id (s.ring.own.length < 32) s v ∧ AlertsKeptBut [.station] s v ∧
          KeepsAllBut stateParts s v) ∧
      (s.line.state ≠ .running → s.line.state ≠ .draining →
        exec (.pause h tag operands) s = .next (answered h 4 (tag :: 3 :: operands) tag .state [] s)) ∧
      (operands ≠ [] → s.line.state = .running ∨ s.line.state = .draining →
        exec (.pause h tag operands) s = .next (answered h 4 (tag :: 3 :: operands) tag .range [] s)))

/-- RESUME from PAUSED or JAMMED returns to RUNNING, or with the ending flag set to DRAINING, with the reason none and
DRIVE_RUN on; a drain whose work is already finished closes at once, with every open bundle closed and counted in its tray and
the records of the completion asked for. In every other state it is refused with STATE, and with operands with RANGE (R116,
R140, R147, R149, R152, R165). A refused request's frame goes on marked TAKEN (the model's reading, log entry 20). The group
that a bundle is judged with where its bin has none is log entry 16. -/
def Obligations.ResumeContinuesTheRun : Prop :=
  ∀ (h : Header) (tag : Byte) (operands : List Byte) (s : State), Commanded h (tag :: 4 :: operands) s →
    (operands = [] → s.line.state = .paused ∨ s.line.state = .jammed →
      ∃ v, exec (.resume h tag operands) s = .next (answered h 4 (tag :: 4 :: operands) tag .ok [] v) ∧
        v.line.reason = none ∧ v.line.permit = permitConditions v ∧ StationsKept id (s.ring.own.length < 32) s v ∧
        (s.line.ending = false → v.line.state = .running ∧ v.line.drive = true ∧ AlertsKeptBut [.station] s v ∧
          KeepsAllBut stateParts s v) ∧
        (s.line.ending = true → (recordsHeld s ≠ s.queue.records.length) →
          v.line.state = .draining ∧ v.line.drive = true ∧ v.line.permit = false ∧ AlertsKeptBut [.station] s v ∧
          KeepsAllBut stateParts s v) ∧
        (s.line.ending = true → (recordsHeld s = s.queue.records.length) →
          v.line.state = .closed ∧ v.line.drive = false ∧ (∀ b, binAt b v = (binAt b s).bundleClosed) ∧
          alertOf .run v = alertOf .run (raiseAlert .drainComplete s) ∧ AlertsKeptBut [.reserve, .station, .run] s v ∧
          LogTookAll (drainRecords (fun b => (binAt b s).bundle) s.line.counters s) s v ∧
          KeepsAllBut (stateParts ++ closeParts) s v)) ∧
    (s.line.state ≠ .paused → s.line.state ≠ .jammed →
      exec (.resume h tag operands) s = .next (answered h 4 (tag :: 4 :: operands) tag .state [] s)) ∧
    (operands ≠ [] → s.line.state = .paused ∨ s.line.state = .jammed →
      exec (.resume h tag operands) s = .next (answered h 4 (tag :: 4 :: operands) tag .range [] s))

/-- FLUSH in RUNNING or PAUSED with the ending flag clear sets the flag, disposes every queued record UNFED, which clears the
held flag with one RECORD_GO, and leaves no collation COLLECTING: a normal one receives MISSING_PAGE and goes into an EMPTY
staging pocket or, with that taken, stays COMPLETE, and a hand-finish one is disposed HAND_FINISH; the line goes to DRAINING
or stays PAUSED, and closes at once when nothing is left on it. The log is asked for RUN FLUSH, an UNFED record for each
record, the PIECE record of the hand-finish collation, and at a close the bundles' records and RUN CLOSED. With the flag set
it is refused with BUSY, in every other state with STATE, and with operands with RANGE (R12, R16, R35, R36, R39, R140, R147,
R151, R152, R165). A refused request's frame goes on marked TAKEN (the model's reading, log entry 20). The group that a bundle
is judged with where its bin has none is log entry 16. -/
def Obligations.FlushEndsTheIntake : Prop :=
  ∀ (h : Header) (tag : Byte) (operands : List Byte) (s : State), Commanded h (tag :: 5 :: operands) s →
    (operands = [] → s.line.ending = false → s.line.state = .running ∨ s.line.state = .paused →
      s.line.counters.unfed ≤ 16777215 →
      ∃ v, exec (.flush h tag operands) s = .next (answered h 4 (tag :: 5 :: operands) tag .ok [] v) ∧
        v.line.ending = true ∧ v.line.permit = false ∧ v.queue.records = [] ∧ v.queue.last = s.queue.last ∧
        v.line.counters = { s.line.counters with
          unfed := min 16777215 (s.line.counters.unfed + s.queue.records.length)
          handFinish :=
            if finishedByFlush s = [] then s.line.counters.handFinish else min 16777215 (s.line.counters.handFinish + 1) } ∧
        v.reprints = s.queue.records.foldl unfedEntries s.reprints ∧
        (recordsHeld v ≠ 0 → LogTookAll (flushRecords s) s v) ∧
        (recordsHeld v = 0 →
          LogTookAll (flushRecords s ++ drainRecords (fun b => (binAt b s).bundle) v.line.counters s) s v) ∧
        (∀ c, v.collation.collecting ≠ .collecting c) ∧
        v.collation =
          (match s.collation.collecting, s.collation.staging with
           | .collecting c, none =>
             if c.handFinish then { s.collation with collecting := .empty }
             else { s.collation with
               collecting := .empty, staging := some { c with faults := addOnce .missingPage c.faults } }
           | .collecting c, some _ =>
             if c.handFinish then { s.collation with collecting := .empty }
             else { s.collation with collecting := .complete { c with faults := addOnce .missingPage c.faults } }
           | _, _ => s.collation) ∧
        v.channel.held = (s.channel.held && s.queue.records.isEmpty) ∧
        (s.ring.own.length + 4 ≤ 32 → recordGoes (s.ring.own.length) v =
          if s.channel.held = true ∧ s.queue.records ≠ [] then [⟨s.supervisor, .recordGo⟩] else []) ∧
        pieceCount v = pieceCount s ∧ flightTotal v = flightTotal s ∧
        StationsKept id (s.ring.own.length + 2 ≤ 32) s v ∧ AlertsKeptBut [.reserve, .station, .run] s v ∧
        alertOf .run v = alertOf .run (if recordsHeld v = 0 then raiseAlert .drainComplete s else s) ∧
        (∀ b, binAt b v = if recordsHeld v = 0 then (binAt b s).bundleClosed else binAt b s) ∧
        (recordsHeld v = 0 → v.line.state = .closed ∧ v.line.reason = none ∧ v.line.drive = false) ∧
        (recordsHeld v ≠ 0 → s.line.state = .running →
          v.line.state = .draining ∧ v.line.reason = none ∧ v.line.drive = true) ∧
        (recordsHeld v ≠ 0 → s.line.state = .paused →
          v.line.state = .paused ∧ v.line.reason = s.line.reason ∧ v.line.drive = s.line.drive) ∧
        KeepsAllBut (endParts ++ [.held, .records, .collecting, .staging, .ending]) s v) ∧
    (s.line.ending = true →
      exec (.flush h tag operands) s = .next (answered h 4 (tag :: 5 :: operands) tag .busy [] s)) ∧
    (s.line.ending = false → s.line.state ≠ .running → s.line.state ≠ .paused →
      exec (.flush h tag operands) s = .next (answered h 4 (tag :: 5 :: operands) tag .state [] s)) ∧
    (operands ≠ [] → s.line.ending = false → s.line.state = .running ∨ s.line.state = .paused →
      exec (.flush h tag operands) s = .next (answered h 4 (tag :: 5 :: operands) tag .range [] s))

/-- ABORT ends the run with nothing left on the line: the queue UNFED, which clears the held flag with one RECORD_GO, the
pockets and the track ABORTED, the flights LOST with the committed counts lowered, and the bundles closed and counted in their
trays; the counts of the pages and groups fall by the pieces that the track held; the state is CLOSED with the ending flag set
and both outputs off. The collations and pieces get reprint entries, and the log is asked, in the order of its steps, for RUN
ABORT, the records of the dispositions and bundles, and RUN CLOSED. It is refused with STATE in IDLE and CLOSED, and with
operands with RANGE (R12, R16, R40, R69, R102, R107, R116, R121, R124, R137, R140, R147, R153, R165). A refused request's
frame goes on marked TAKEN (the model's reading, log entry 20). The group that a bundle is judged with where its bin has none
is log entry 16. That a list of 256 entries takes no further one is log entry 23. -/
def Obligations.AbortClearsTheLine : Prop :=
  ∀ (h : Header) (tag : Byte) (operands : List Byte) (s : State), Commanded h (tag :: 6 :: operands) s →
    (operands = [] → s.line.state ≠ .idle → s.line.state ≠ .closed →
      s.line.counters.unfed ≤ 16777215 → s.line.counters.aborted ≤ 16777215 → s.line.counters.lost ≤ 16777215 →
      ∃ v, exec (.abort h tag operands) s = .next (answered h 4 (tag :: 6 :: operands) tag .ok [] v) ∧
        v.line.state = .closed ∧ v.line.reason = none ∧ v.line.ending = true ∧ v.line.drive = false ∧
        v.line.permit = false ∧ recordsHeld v = 0 ∧
        (∀ b, binAt b v = { (binAt b s).bundleClosed with
          flights := [], committed := (binAt b s).committed - (binAt b s).flights.length }) ∧
        (∀ p, p < 32 → pageUseAt p v = pageUseAt p s - piecesOfPage p s) ∧
        (∀ g, g < 16 → groupAt g v = { groupAt g s with refs := (groupAt g s).refs - piecesOfGroup g s }) ∧
        StationsKept id (s.ring.own.length + 2 ≤ 32) s v ∧ AlertsKeptBut [.reserve, .station] s v ∧
        v.line.counters = { s.line.counters with
          unfed := min 16777215 (s.line.counters.unfed + s.queue.records.length)
          aborted := min 16777215 (s.line.counters.aborted + pocketCount s + pieceCount s)
          lost := min 16777215 (s.line.counters.lost + flightTotal s) } ∧
        v.reprints = ((abortedCollations s).map (Collation.entry .aborted) ++
          (abortedPieces s).map (Piece.entry .aborted)).foldl entered (s.queue.records.foldl unfedEntries s.reprints) ∧
        LogTookAll (abortRecords v.line.counters s) s v ∧
        v.line.runId = s.line.runId ∧ v.line.locked = s.line.locked ∧
        v.channel.held = (s.channel.held && s.queue.records.isEmpty) ∧
        (s.ring.own.length + 4 ≤ 32 → recordGoes (s.ring.own.length) v =
          if s.channel.held = true ∧ s.queue.records ≠ [] then [⟨s.supervisor, .recordGo⟩] else []) ∧
        KeepsAllBut (endParts ++ [.held, .records, .collecting, .staging, .slots, .pageUse, .groups, .ending]) s v) ∧
    (s.line.state = .idle ∨ s.line.state = .closed →
      exec (.abort h tag operands) s = .next (answered h 4 (tag :: 6 :: operands) tag .state [] s)) ∧
    (operands ≠ [] → s.line.state ≠ .idle → s.line.state ≠ .closed →
      exec (.abort h tag operands) s = .next (answered h 4 (tag :: 6 :: operands) tag .range [] s))

/-- CLOSE_RUN in CLOSED releases the header, empties the Reprint List, clears the counters, the last accepted sequence and the
ending flag, and moves to IDLE without a log record; in every other state it is refused with STATE, and with operands with
RANGE (R19, R131, R133, R147, R154, R165). A refused request's frame goes on marked TAKEN (the model's reading, log entry 20).
-/
def Obligations.CloseRunFreesThePart : Prop :=
  ∀ (h : Header) (tag : Byte) (operands : List Byte) (s : State), Commanded h (tag :: 7 :: operands) s →
    (operands = [] → s.line.state = .closed →
      ∃ v, exec (.closeRun h tag operands) s = .next (answered h 4 (tag :: 7 :: operands) tag .ok [] v) ∧
        v.line.state = .idle ∧ v.line.reason = none ∧ v.line.ending = false ∧ v.line.runId = 0 ∧
        v.line.locked = false ∧ v.line.counters = Counters.zero ∧ v.line.drive = false ∧ v.line.permit = false ∧
        v.reprints = [] ∧ v.queue.last = none ∧
        StationsKept id (s.ring.own.length < 32) s v ∧ AlertsKeptBut [.station] s v ∧
        KeepsAllBut (stateParts ++ [.runId, .locked, .counters, .ending, .reprints, .last]) s v) ∧
    (s.line.state ≠ .closed →
      exec (.closeRun h tag operands) s = .next (answered h 4 (tag :: 7 :: operands) tag .state [] s)) ∧
    (operands ≠ [] → s.line.state = .closed →
      exec (.closeRun h tag operands) s = .next (answered h 4 (tag :: 7 :: operands) tag .range [] s))

/-- RESET_LINE, in every state, asks for a RUN RESET record, empties the run's state without dispositions and returns to IDLE,
with RECORD_GO sent, with a supervisor and room for it, when the held flag was set. Kept are every station's entry but for its
late count, every stock's profile, the scheme, the groups' loads, the bins' loads, states, landed counts and tray counts, and
the alerts of the classes it does not raise; RESERVE is raised only by a log write that is the first loss, and a station's
status changes only to ABSENT, by a FEED_PERMIT that meets a full own-frame queue. With operands it is refused with RANGE
(R13, R24, R40, R44, R59, R63, R69, R70, R76, R102, R107, R109, R131, R155, R165, R168). A refused request's frame goes on
marked TAKEN (the model's reading, log entry 20). -/
def Obligations.ResetLineReturnsToIdle : Prop :=
  (∀ (h : Header) (tag : Byte) (s : State), Commanded h [tag, 8] s →
    ∃ v, exec (.resetLine h tag []) s = .next (answered h 4 [tag, 8] tag .ok [] v) ∧
      v.line.state = .idle ∧ v.line.reason = none ∧ v.line.ending = false ∧ v.line.runId = 0 ∧
      v.line.locked = false ∧ v.line.counters = Counters.zero ∧ v.line.drive = false ∧ v.line.permit = false ∧
      v.channel.held = false ∧ v.reprints = [] ∧ recordsHeld v = 0 ∧ v.queue.last = none ∧ v.collation.strays = 0 ∧
      v.collation.collecting = .empty ∧ v.collation.staging = none ∧
      (∀ i, stockAt i v = { stockAt i s with ring := [] }) ∧ v.track.slots = List.replicate s.track.length none ∧
      v.track.position = 0 ∧ v.track.boundary = s.track.pulses ∧ v.track.pitch = 0 ∧ v.track.encoderErrors = 0 ∧
      v.track.nextSerial = 0 ∧ v.track.jamSlot = none ∧
      StationsKept (fun e => { e with late := 0 }) (s.ring.own.length + 3 ≤ 32) s v ∧
      (∀ p, pageUseAt p v = 0) ∧ (∀ g, groupAt g v = { groupAt g s with refs := 0 }) ∧
      (∀ b, binAt b v = { binAt b s with
        committed := (binAt b s).landed, flights := [], bundle := none, previousKey := none }) ∧
      AlertsKeptBut [.reserve, .station] s v ∧
      (s.channel.held = true → s.supervisor ≠ 0 → s.supervisor ≠ 63 → s.ring.own.length + 3 ≤ 32 →
        ⟨s.supervisor, .recordGo⟩ ∈ v.ring.own.drop s.ring.own.length) ∧
      LogTook (.run .reset s.line.runId none) s v ∧
      KeepsAllBut (stateParts ++ writeParts ++ [.held, .records, .last, .collecting, .staging, .strays, .stocks, .slots,
        .position, .boundary, .pitch, .encoderErrors, .nextSerial, .jamSlot, .pageUse, .groups, .bins, .reprints, .runId,
        .locked, .counters, .ending]) s v) ∧
  ∀ (h : Header) (tag : Byte) (operands : List Byte) (s : State), Commanded h (tag :: 8 :: operands) s → operands ≠ [] →
    exec (.resetLine h tag operands) s = .next (answered h 4 (tag :: 8 :: operands) tag .range [] s)

/-- CLEAR_SLOTS in JAMMED empties the named pockets and, where it names a range, its slots, each collation and piece disposed
CLEARED with a reprint entry and a PIECE record, staging first, then collecting, then the slots from first to last; what it
does not name stays, but that a COMPLETE collation moves into a staging pocket that alone was named; the counts of the pages
and groups fall by the pieces removed. It answers with the numbers cleared; the state, its reason and the jam slot are kept.
It is refused with STATE in every other state, and with RANGE when it names nothing or a slot off the track or its operands
have another length (R36, R40, R69, R102, R107, R124, R137, R147, R156, R165). That a range flag above 1 and a pocket choice
above 3 are refused with RANGE, and that slots without a range are not examined, is the model's reading (log entry 43). A
refused request's frame goes on marked TAKEN (the model's reading, log entry 20). That a list of 256 entries takes no further
one is log entry 23. -/
def Obligations.ClearSlotsEmptiesWhatItNames : Prop :=
  (∀ (h : Header) (tag flag first last pockets : Byte) (s : State),
    Commanded h [tag, 9, flag, first, last, pockets] s →
    (s.line.state = .jammed →
      (flag = 1 ∧ first.toNat ≤ last.toNat ∧ last.toNat < s.track.length) ∨ (flag = 0 ∧ pockets ≠ 0) →
      pockets.toNat ≤ 3 → s.line.counters.cleared ≤ 16777215 →
      let collations := (if pockets = 1 ∨ pockets = 3 then s.collation.staging.toList else []) ++
        (if pockets = 2 ∨ pockets = 3 then s.collation.collecting.held else [])
      let pieces := if flag = 1 then ((s.track.slots.take (last.toNat + 1)).drop first.toNat).filterMap id else []
      ∃ v, exec (.clearSlots h tag [flag, first, last, pockets]) s =
          .next (answered h 4 [tag, 9, flag, first, last, pockets] tag .ok
            [byteOf collations.length, byteOf pieces.length] v) ∧
        (∀ k, pieceAt k v =
          if flag = 1 ∧ first.toNat ≤ k ∧ k ≤ last.toNat then none else pieceAt k s) ∧
        pieces.length + pieceCount v = pieceCount s ∧ collations.length + pocketCount v = pocketCount s ∧
        (pockets = 0 → v.collation = s.collation) ∧
        (pockets = 1 → v.collation = match s.collation.collecting with
          | .complete c => { s.collation with collecting := .empty, staging := some c }
          | _ => { s.collation with staging := none }) ∧
        (pockets = 2 → v.collation = { s.collation with collecting := .empty }) ∧
        (pockets = 3 → v.collation = { s.collation with collecting := .empty, staging := none }) ∧
        v.line.counters = { s.line.counters with
          cleared := min 16777215 (s.line.counters.cleared + collations.length + pieces.length) } ∧
        v.reprints =
          (collations.map (Collation.entry .cleared) ++ pieces.map (Piece.entry .cleared)).foldl entered s.reprints ∧
        LogTookAll ((collations.map fun c => .piece (c.logOf .cleared)) ++
          pieces.map fun p => .piece (p.logOf .cleared none)) s v ∧
        (∀ k, k < 32 →
          pageUseAt k v = pageUseAt k s - pieces.countP fun p => p.scheme.entry.map (· / 16) == some k) ∧
        (∀ g, g < 16 → groupAt g v =
          { groupAt g s with refs := (groupAt g s).refs - pieces.countP fun p => p.scheme.group == g }) ∧
        StationsKept id (s.ring.own.length + 2 ≤ 32) s v ∧ AlertsKeptBut [.reserve, .station] s v ∧
        KeepsAllBut (disposeParts ++ [.collecting, .staging, .slots, .pageUse, .groups]) s v) ∧
    (s.line.state ≠ .jammed →
      exec (.clearSlots h tag [flag, first, last, pockets]) s =
        .next (answered h 4 [tag, 9, flag, first, last, pockets] tag .state [] s)) ∧
    (s.line.state = .jammed →
      (flag = 0 ∧ pockets = 0 ∨ flag = 1 ∧ (last.toNat < first.toNat ∨ s.track.length ≤ last.toNat) ∨
        1 < flag.toNat ∨ 3 < pockets.toNat) →
      exec (.clearSlots h tag [flag, first, last, pockets]) s =
        .next (answered h 4 [tag, 9, flag, first, last, pockets] tag .range [] s))) ∧
  ∀ (h : Header) (tag : Byte) (operands : List Byte) (s : State), Commanded h (tag :: 9 :: operands) s →
    operands.length ≠ 4 →
    exec (.clearSlots h tag operands) s = .next (answered h 4 (tag :: 9 :: operands) tag
      (if s.line.state = .jammed then .range else .state) [] s)

/-- A pause or jam asked for by a block moves the run state as the table of R150 gives and keeps the ending flag: a pause
takes RUNNING, and all but the SEQUENCE pause take DRAINING; a jam takes PAUSED too. A permit that was on falls, and the
SHEET_FEEDER entry is told, with room for it. Everywhere else the state and its reason are left (R150, R157). -/
def Obligations.StopRequestsFollowTheTable : Prop :=
  ∀ (r : StopReason) (s : State),
    (s.line.state = .running ∨
      (s.line.state = .draining ∧ (r = .operator ∨ r = .mismatch ∨ r = .sorter ∨ r = .occupancy ∨ r = .linkDown)) ∨
      (s.line.state = .paused ∧ (r = .occupancy ∨ r = .accumulatorOverrun ∨ r = .linkDown)) →
      (requestStop r s).line.state =
        (if r = .occupancy ∨ r = .accumulatorOverrun ∨ r = .linkDown then .jammed else .paused) ∧
      (requestStop r s).line.reason = some r ∧ (requestStop r s).line.drive = false ∧
      (requestStop r s).line.permit = false ∧
      (∀ i e, stationOfKind .sheetFeeder s = some (i, e) → s.ring.own.length < 32 →
        (requestStop r s).ring.own = s.ring.own ++ if s.line.permit then [⟨e.dst, .feedPermit false⟩] else []) ∧
      StationsKept id (s.ring.own.length < 32) s (requestStop r s) ∧ AlertsKeptBut [.station] s (requestStop r s) ∧
      KeepsAllBut stateParts s (requestStop r s)) ∧
    (s.line.state = .idle ∨ s.line.state = .ready ∨ s.line.state = .jammed ∨ s.line.state = .closed ∨
      (s.line.state = .paused ∧ (r = .operator ∨ r = .mismatch ∨ r = .sequence ∨ r = .sorter)) →
      requestStop r s = s)

/-- A drain whose work is finished completes: every open bundle closes and is counted in its tray, the state becomes CLOSED with the reason none and both
outputs off, RUN is raised with DRAIN_COMPLETE, and the log is asked for the bundles' records in bin order and RUN CLOSED with
the counters. A DRAINING line with work left, and a line in any other state, is left as it is (R116, R140, R152, R158). That
the event does nothing there is the model's choice (log entry 3). The group that a bundle is judged with where its bin has
none is log entry 16. -/
def Obligations.DrainCompleteClosesTheRun : Prop :=
  ∀ s : State, s.resetHigh = true →
    (s.line.state = .draining → recordsHeld s = s.queue.records.length →
      ∃ t, exec .drainComplete s = .next t ∧ t.line.state = .closed ∧ t.line.reason = none ∧ t.line.drive = false ∧
        t.line.permit = false ∧ (∀ b, binAt b t = (binAt b s).bundleClosed) ∧
        alertOf .run t = alertOf .run (raiseAlert .drainComplete s) ∧ AlertsKeptBut [.reserve, .station, .run] s t ∧
        StationsKept id (s.ring.own.length + 2 ≤ 32) s t ∧
        LogTookAll (drainRecords (fun b => (binAt b s).bundle) s.line.counters s) s t ∧
        KeepsAllBut (stateParts ++ closeParts) s t) ∧
    (s.line.state = .draining → recordsHeld s ≠ s.queue.records.length → exec .drainComplete s = .next s) ∧
    (s.line.state ≠ .draining → exec .drainComplete s = .next s)

/-! ### The sheet path (R21 to R37, R43 to R46) -/

/-- A sheet scan's fields are those of R21, and a sheet that joins no collation is answered DIVERT with its reason: NO_RUN in
IDLE; LATE_SHEET in CLOSED or with the ending flag set; and while the part judges sheets UNREAD (which adds UNREAD_SHEET to
the open collation), STRAY (which counts, and at the stray limit raises SEQUENCE and asks for a pause), OVERRUN (which raises
JAM and asks for a jam) and RESERVE (which raises RESERVE). A DIVERT that a full own-frame queue drops sets the SHEET_DIVERT
station ABSENT. A scan from another node is forwarded (R21, R22, R23, R25, R26, R27, R29, R32, R37, R163). That a DIVERT carries sequence and incarnation 0 is the model's choice (log entry 11). That an incarnation
byte above 15 is compared as it is, is its reading (log entry 27), and so is that bits 6..2 of the stock byte are ignored (log
entry 37). -/
def Obligations.SheetsOutsideCollationsAreDiverted : Prop :=
  ∀ (h : Header) (x : RawScan) (s : State), Reached h s →
    let y := scanOf x
    let went := fun v => exec (.sheetScan h x) s = .next (actedOn h 16 (scanBytes x) v)
    (y.serial = x.serial.toNat ∧ y.stock = x.stock.toNat % 4 ∧ y.caliper = min 4095 x.caliper.toNat ∧
      y.read =
        if x.stock.toNat < 128 ∧ 1 ≤ x.page.toNat ∧ x.page.toNat ≤ 64 ∧ 1 ≤ x.pages.toNat ∧ x.pages.toNat ≤ 64
        then some (x.seq.toNat, x.inc.toNat, x.page.toNat, x.pages.toNat) else none) ∧
    (∀ r t, (stationOfKind .sheetDivert t = none → divertSheet y r t = t) ∧
      ∀ i e, stationOfKind .sheetDivert t = some (i, e) →
        (t.ring.own.length < 32 → divertSheet y r t = pushOwn e.dst (.sheetAction y.serial (.divert r) 0 0) t) ∧
        (32 ≤ t.ring.own.length → divertSheet y r t = nodeAbsentAfter e.dst t)) ∧
    (stationFor .sheetScanner h.src s = none →
      exec (.sheetScan h x) s =
        .next (forwardFrame { header := h, kind := 16, payload := scanBytes x } s)) ∧
    (stationFor .sheetScanner h.src s ≠ none →
      (s.line.state = .idle → went (divertSheet y .noRun s)) ∧
      (s.line.state ≠ .idle → s.line.state = .closed ∨ s.line.ending = true → went (divertSheet y .lateSheet s)) ∧
      (IntakeOpen s →
        (∀ c, s.collation.collecting = .collecting c → y.read = none →
          went (divertSheet y .unread
            { s with collation := { s.collation with
              collecting := .collecting { c with faults := addOnce .unreadSheet c.faults } } })) ∧
        ((∀ c, s.collation.collecting ≠ .collecting c) →
          ((∀ seq inc page pages r, y.read = some (seq, inc, page, pages) → s.queue.records.head? = some r →
              ¬(seq = r.seq ∧ inc = r.inc)) →
            let n := min 15 (s.collation.strays + 1)
            let v := divertSheet y .stray { s with collation := { s.collation with strays := n } }
            went (if s.collation.strayLimit ≤ n then requestStop .sequence (raiseAlert .strayLimit v) else v)) ∧
          (∀ page pages r, y.read = some (r.seq, r.inc, page, pages) → s.queue.records.head? = some r →
            (s.collation.collecting ≠ .empty →
              went (requestStop .accumulatorOverrun (raiseAlert .accumulatorOverrun (divertSheet y .overrun s)))) ∧
            (s.collation.collecting = .empty → r.reprint = false → reprintFree s ≤ inFlightCount s →
              went (raiseAlert .reserveDivert (divertSheet y .reserve s)))))))

/-- A sheet of the COLLECTING collation joins it: its reading is classed against its stock's reference and a SINGLE one
learned, the sheet list, expected index and fault set move, the stray run count becomes 0 and the sheet is answered; then the
collation completes, closes at the sheet limit with MISSING_PAGE, or goes on, a normal one into staging or COMPLETE and a
hand-finish one disposed HAND_FINISH as it stands, with a PIECE record. A SHEET_ACTION that a full own-frame queue drops sets
the SHEET_DIVERT station ABSENT, and an ACCEPT dropped so adds MISSING_PAGE to the collation (R22, R23, R30, R31, R34, R35, R36,
R43, R45, R46, R124, R137, R163). That the DIVERT of a hand-finish sheet carries sequence and incarnation 0 is the model's choice (log entry 11), and
that a hand-finish collation receives no MISSING_PAGE at the sheet limit is its reading (log entry 28). -/
def Obligations.SheetsJoinTheirCollation : Prop :=
  (∀ (x : Stock) (m : Nat),
    x.reference = (if x.ring = [] then x.nominal else (x.ring.sum + x.ring.length / 2) / x.ring.length) ∧
    (let u := min (x.reference + max (x.reference * x.tolerance / 64) x.margin) 4094
     x.classify m =
      if m = 4095 then (.double, true) else if u ≤ m ∧ m ≤ 4094 then (.double, false)
      else if m ≤ x.reference / 4 then (.thin, false) else (.single, false)) ∧
    (x.learn m .single).ring = (x.ring ++ [m]).drop (x.ring.length + 1 - x.averaging)) ∧
  (∀ (c : Collation) (page pages reading : Nat) (cls : SheetClass) (note : Bool),
    let d := c.addSheet page pages reading (cls, note)
    d.job = c.job ∧ d.handFinish = c.handFinish ∧ d.sheets = c.sheets ++ [⟨reading, note⟩] ∧
    d.next = (if page < c.next then c.next else if cls = .double then page + 2 else page + 1) ∧
    ∀ f, f ∈ d.faults ↔ f ∈ c.faults ∨ (f = .missingPage ∧ c.next < page) ∨
      (f = .extraPage ∧ (page < c.next ∨ c.job.pages < page)) ∨ (f = .countMismatch ∧ pages ≠ c.job.pages) ∨
      (f = .doubleSheet ∧ cls = .double) ∨ (f = .thinSheet ∧ cls = .thin)) ∧
  ∀ (h : Header) (x : RawScan) (c : Collation) (page pages : Nat) (s : State), Reached h s →
    stationFor .sheetScanner h.src s ≠ none → IntakeOpen s → s.collation.collecting = .collecting c →
    (scanOf x).read = some (c.job.seq, c.job.inc, page, pages) →
    let stock := stockAt (scanOf x).stock s
    let cls := stock.classify (scanOf x).caliper
    let joined := c.addSheet page pages (scanOf x).caliper cls
    let dropped := 32 ≤ s.ring.own.length ∧ stationOfKind .sheetDivert s ≠ none
    let d := if dropped ∧ c.handFinish = false then { joined with faults := addOnce .missingPage joined.faults } else joined
    let complete := page = c.job.pages ∨ (cls.1 = .double ∧ page + 1 = c.job.pages)
    let ends := complete ∨ s.collation.sheetLimit ≤ d.sheets.length
    let final := if complete then d else { d with faults := addOnce .missingPage d.faults }
    ∃ v, exec (.sheetScan h x) s = .next (actedOn h 16 (scanBytes x) v) ∧
      stockAt (scanOf x).stock v =
        (if cls.1 = .single then { stock with
          ring := (stock.ring ++ [(scanOf x).caliper]).drop (stock.ring.length + 1 - stock.averaging) } else stock) ∧
      (∀ i, i ≠ (scanOf x).stock → stockAt i v = stockAt i s) ∧ v.collation.strays = 0 ∧
      (∀ i e, stationOfKind .sheetDivert s = some (i, e) → s.ring.own.length < 32 →
        ∃ more, v.ring.own = s.ring.own ++
          ⟨e.dst, if c.handFinish then .sheetAction x.serial.toNat (.divert .handFinish) 0 0
            else .sheetAction x.serial.toNat .accept c.job.seq c.job.inc⟩ :: more) ∧
      (∀ i e, stationOfKind .sheetDivert s = some (i, e) → 32 ≤ s.ring.own.length → v.ring.own = s.ring.own ∧
        ∀ j y, stationOfNode e.dst.toNat s = some (j, y) → stationAt j v = some { y with status := .absent }) ∧
      (¬ends → v.collation.collecting = .collecting d ∧ v.collation.staging = s.collation.staging ∧
        v.line.counters = s.line.counters) ∧
      (ends → c.handFinish = false → v.line.counters = s.line.counters ∧
        (s.collation.staging = none →
          v.collation.collecting = .empty ∧ v.collation.staging = some final) ∧
        (∀ b, s.collation.staging = some b →
          v.collation.collecting = .complete final ∧ v.collation.staging = some b)) ∧
      (¬ends ∨ c.handFinish = false → v.log = s.log) ∧
      (ends → c.handFinish = true → v.collation.collecting = .empty ∧
        v.collation.staging = s.collation.staging ∧
        LogTook (.piece
          { seq := c.job.seq, inc := c.job.inc, disposition := .handFinish, reason := reasonOf d.faults .handFinish
            faults := d.faults
            saturated := (d.sheets.any fun x => x.saturated) || decide (65535 < (d.sheets.map (·.reading)).sum)
            serial := none, caliper := min 65535 (d.sheets.map (·.reading)).sum, verification := .none, output := .none
            scheme := none, caliperClass := none, bin := none, fed := [], stations := [], place := none }) s v ∧
        v.line.counters = { s.line.counters with handFinish := min 16777215 (s.line.counters.handFinish + 1) }) ∧
      (¬dropped → StationsKept id (s.ring.own.length + 2 ≤ 32) s v) ∧ AlertsKeptBut [.reserve, .station] s v ∧
      KeepsAllBut (writeParts ++ [.counters, .stocks, .collecting, .staging, .strays]) s v

/-- A sheet that matches the head record with an EMPTY collecting pocket, of a reprint record or with the reserve gate open,
takes the head record into a new collation and is then taken as a sheet of that collation; a reprint record's QUEUED entry is
removed, and a count at or below the low mark clears a set held flag with one RECORD_GO. A sheet of another record closes the
COLLECTING collation, which receives MISSING_PAGE and, in hand-finish mode, is disposed with its PIECE record, and is then
judged on its own (R10, R16, R26, R27, R28, R33, R35, R36, R124). -/
def Obligations.SheetsOpenAndCloseCollations : Prop :=
  ∀ (h : Header) (x : RawScan) (seq inc page pages : Nat) (s : State), Reached h s →
    stationFor .sheetScanner h.src s ≠ none → IntakeOpen s → (scanOf x).read = some (seq, inc, page, pages) →
    (∀ r rest, s.collation.collecting = .empty → s.queue.records = r :: rest → seq = r.seq → inc = r.inc →
      r.reprint = true ∨ inFlightCount s < reprintFree s →
      ∃ w, exec (.sheetScan h x) s = exec (.sheetScan h x) w ∧ w.queue.records = rest ∧
        w.collation.collecting = .collecting { job := r, sheets := [], next := 1, faults := [], handFinish := r.handFinish } ∧
        w.reprints = (if r.reprint then s.reprints.eraseP fun e => e.seq == r.seq && e.state == .queued
          else s.reprints) ∧
        w.channel.held = (s.channel.held && decide (s.queue.low < rest.length)) ∧
        (s.supervisor ≠ 0 → s.supervisor ≠ 63 → s.ring.own.length < 32 → recordGoes (s.ring.own.length) w =
          if s.channel.held = true ∧ w.channel.held = false then [⟨s.supervisor, .recordGo⟩] else []) ∧
        (OutputsFollowState s → OutputsFollowState w) ∧
        KeepsAllBut (permitParts ++ [.held, .records, .reprints, .collecting]) s w) ∧
    (∀ c, s.collation.collecting = .collecting c → ¬(seq = c.job.seq ∧ inc = c.job.inc) →
      ∃ w, exec (.sheetScan h x) s = exec (.sheetScan h x) w ∧
        (c.handFinish = true → w.collation.collecting = .empty ∧ w.collation.staging = s.collation.staging ∧
          w.line.counters = { s.line.counters with handFinish := min 16777215 (s.line.counters.handFinish + 1) } ∧
          LogTook (.piece ({ c with faults := addOnce .missingPage c.faults }.logOf .handFinish)) s w ∧
          KeepsAllBut (writeParts ++ [.counters, .collecting]) s w) ∧
        (c.handFinish = false →
          let d := { c with faults := addOnce .missingPage c.faults }
          (s.collation.staging = none → w.collation.collecting = .empty ∧ w.collation.staging = some d) ∧
          (∀ b, s.collation.staging = some b → w.collation.collecting = .complete d ∧ w.collation.staging = some b) ∧
          KeepsAllBut [.collecting, .staging] s w))

/-! ### The encoder and the advance (R59 to R69) -/

/-- While a run is open a forward pulse that does not bring EP to NB raises EP by one and a reverse pulse lowers it by one,
but for a reverse pulse at the least value; in IDLE neither is counted; a step in which both channels change raises the
encoder error count up to 255 and leaves EP (R59, R60). That the error count rises in IDLE too is the model's reading (log
entry 9). -/
def Obligations.EncoderPulseCounts : Prop :=
  ∀ s : State, s.resetHigh = true →
    (s.line.state = .idle →
      exec (.encoderPulse .forward) s = .next s ∧ exec (.encoderPulse .reverse) s = .next s) ∧
    (s.line.state ≠ .idle →
      (s.track.position + 1 ≠ s.track.boundary →
        exec (.encoderPulse .forward) s =
          .next { s with track := { s.track with position := s.track.position + 1 } }) ∧
      (-2147483648 < s.track.position →
        exec (.encoderPulse .reverse) s =
          .next { s with track := { s.track with position := s.track.position - 1 } }) ∧
      (s.track.position ≤ -2147483648 → exec (.encoderPulse .reverse) s = .next s)) ∧
    exec (.encoderPulse .both) s =
      .next { s with track := { s.track with encoderErrors := min 255 (s.track.encoderErrors + 1) } }

/-- The forward pulse that brings EP to NB is a pitch advance, which makes these steps one after the other: the mark, the
exit, the move, the release, the arrivals slot by slot, and the examination of the flights. The pitch number and NB rise, EP
and NB are lowered when NB stands above 1,073,741,824, PITCH is queued before any other frame of the advance, the piece in the
last slot leaves, its windows closing and the counts of its match falling, every other piece moves one slot with its serial
and record and its passed windows close, the staging collation is committed at slot 0 with the next serial and FOLD_SET goes
to the FOLDER entry, which a full own-frame queue sets ABSENT, a COMPLETE collation moves into staging, and the piece in each
slot arrives at its INSERT stations in increasing index, the ENVELOPE and the SCAN_OUT station (R36, R38, R60, R62, R63, R65,
R67, R68, R73). That the slots arrive in rising order and that the examination comes last are the model's readings (log
entries 12, 14). -/
def Obligations.PitchAdvanceCarriesPieces : Prop :=
  (∀ s : State, s.resetHigh = true → s.line.state ≠ .idle → s.track.position + 1 = s.track.boundary →
    s.track.slots ≠ [] →
    ∃ t, exec .pitchAdvance s = .next t ∧ exec (.encoderPulse .forward) s = .next t ∧
      t.track.pitch = (s.track.pitch + 1) % 256 ∧
      (1073741824 < s.track.boundary + s.track.pulses →
        t.track.boundary = s.track.pulses ∧ t.track.position = 0) ∧
      (s.track.boundary + s.track.pulses ≤ 1073741824 →
        t.track.boundary = s.track.boundary + s.track.pulses ∧ t.track.position = s.track.boundary) ∧
      (s.ring.own.length < 32 →
        ∃ more, t.ring.own = s.ring.own ++ ⟨63, .pitch ((s.track.pitch + 1) % 256)⟩ :: more) ∧
      t.track.slots.length = s.track.slots.length ∧
      (∀ n, 0 < n → n < s.track.slots.length →
        (pieceAt n t).map (fun p => (p.serial, p.job)) = (pieceAt (n - 1) s).map (fun p => (p.serial, p.job))) ∧
      (s.collation.staging = none →
        pieceAt 0 t = none ∧ t.track.nextSerial = s.track.nextSerial ∧ t.collation = s.collation) ∧
      (∀ c, s.collation.staging = some c →
        (∃ p, pieceAt 0 t = some p ∧ p.serial = s.track.nextSerial ∧ p.job = c.job) ∧
        t.track.nextSerial = (s.track.nextSerial + 1) % 65536 ∧
        (∀ d, s.collation.collecting = .complete d →
          t.collation = { s.collation with collecting := .empty, staging := some d }) ∧
        ((∀ d, s.collation.collecting ≠ .complete d) → t.collation = { s.collation with staging := none })) ∧
      KeepsAllBut (endParts ++ [.slots, .position, .boundary, .pitch, .nextSerial, .collecting, .staging,
        .divertSerials, .pageUse, .groups]) s t) ∧
  (∀ s : State, s.resetHigh = true → s.line.state ≠ .idle → s.track.position + 1 = s.track.boundary →
    exec .pitchAdvance s = .next (sorterTimeouts (arrivals (releaseStaging (moveSlots (exitSlot
      (markPitch { s with track := { s.track with position := s.track.position + 1 } }))))))) ∧
  (∀ s : State,
    let nb := s.track.boundary + s.track.pulses
    let n := (s.track.pitch + 1) % 256
    markPitch s = { s with
      ring := if s.ring.own.length < 32 then { s.ring with own := s.ring.own ++ [⟨63, .pitch n⟩] } else s.ring
      track := { s.track with
        pitch := n
        boundary := if 1073741824 < nb then s.track.pulses else nb
        position := if 1073741824 < nb then s.track.position - s.track.boundary else s.track.position } }) ∧
  (∀ s : State,
    let n := s.track.slots.length - 1
    (pieceAt n s = none → exitSlot s = s) ∧
    ∀ p, pieceAt n s = some p → ∃ w, exitSlot s = exitPiece p.leaveWindows w ∧ pieceAt n w = none ∧
      (∀ k, k ≠ n → pieceAt k w = pieceAt k s) ∧
      (∀ k, k < 32 → pageUseAt k w = pageUseAt k s - if p.scheme.entry.map (· / 16) = some k then 1 else 0) ∧
      (∀ g, g < 16 → groupAt g w =
        { groupAt g s with refs := (groupAt g s).refs - if p.scheme.group = g then 1 else 0 }) ∧
      KeepsAllBut [.slots, .pageUse, .groups] s w) ∧
  (∀ s : State, s.track.slots ≠ [] →
    (moveSlots s).track.slots.length = s.track.slots.length ∧ pieceAt 0 (moveSlots s) = none ∧
    (∀ n, 0 < n → n < s.track.slots.length →
      pieceAt n (moveSlots s) = (pieceAt (n - 1) s).map (·.passWindows n)) ∧
    KeepsAllBut [.slots] s (moveSlots s)) ∧
  (∀ s : State,
    (s.collation.staging = none → releaseStaging s = s) ∧
    ∀ c, s.collation.staging = some c →
      let w := commit c { s with collation := { s.collation with staging := none } }
      let moved := fun v : State => { v with collation := match s.collation.collecting with
        | .complete d => { s.collation with collecting := .empty, staging := some d }
        | _ => { s.collation with staging := none } }
      (stationOfKind .folder s = none → releaseStaging s = moved w) ∧
      ∀ i e, stationOfKind .folder s = some (i, e) →
        (s.ring.own.length < 32 → releaseStaging s = moved (pushOwn e.dst (.foldSet c.job.panels) w)) ∧
        (32 ≤ s.ring.own.length → releaseStaging s = moved (nodeAbsentAfter e.dst w))) ∧
  ∀ s : State,
    arrivals s = (List.range s.track.slots.length).foldl (fun t n => slotArrivals n t) s ∧
    ∀ n : Nat,
      let standing := fun kind : StationKind => (List.range 24).filter fun i =>
        (stationAt i s).any fun e => e.kind == kind && e.offset == n
      slotArrivals n s =
        if pieceAt n s = none then s
        else (standing .insert ++ standing .envelope ++ standing .scanOut).foldl (fun t i => arriveAt n i t) s

/-- A commit gives the piece the collation's record and faults, marks it with its collation faults and with INSERT_WITHHELD
where a MANDATORY selection's station may not feed, notes WITHHELD stations, gives a marked piece an empty plan and its folded
caliper plus E, and raises the counts of its match's page and group. The effective mode is the more restrictive of the
operator mode and the status (R51, R52, R63, R66, R79, R80, R101, R102, R107). -/
def Obligations.CommitBuildsThePiece : Prop :=
  (∀ e : StationEntry,
    (e.effectiveMode = .off ↔ e.mode = .off ∨ e.status = .fault ∨ e.status = .unknown ∨ e.status = .absent) ∧
    (e.effectiveMode = .skip ↔ (e.mode = .skip ∧ (e.status = .ready ∨ e.status = .low ∨ e.status = .empty)) ∨
      (e.mode ≠ .off ∧ e.status = .empty)) ∧
    (e.effectiveMode = .force ↔ e.mode = .force ∧ (e.status = .ready ∨ e.status = .low))) ∧
  ∀ (c : Collation) (s : State), s.track.slots ≠ [] → ∃ p, pieceAt 0 (commit c s) = some p ∧
    p.serial = s.track.nextSerial ∧ p.job = c.job ∧ p.collationFaults = c.faults ∧ p.windows = [] ∧ p.fed = [] ∧
    p.missed = [] ∧ p.output = .none ∧ p.verification = .none ∧ p.scheme = schemeMatch c.job.dest s ∧
    (p.diverted = true ↔ c.faults ≠ [] ∨ MandatoryWithheld c.job s ∨ .overstuff ∈ p.faults) ∧
    (.insertWithheld ∈ p.faults ↔ .insertWithheld ∈ c.faults ∨ MandatoryWithheld c.job s) ∧
    (∀ f, f ≠ .insertWithheld → f ≠ .overstuff → (f ∈ p.faults ↔ f ∈ c.faults)) ∧
    (∀ i, i ∈ p.withheld ↔ ∃ e k, stationAt i s = some e ∧ e.kind = .insert ∧
      c.job.selectionFor i = some (.optional k) ∧ (e.effectiveMode = .skip ∨ e.effectiveMode = .off)) ∧
    (c.faults ≠ [] ∨ MandatoryWithheld c.job s →
      (∀ i, p.planFor i = .none) ∧ p.dropped = [] ∧ p.caliper = min 65535 (foldedCaliper c + s.caliper.allowance)) ∧
    (p.saturated = true ↔ (∃ x ∈ c.sheets, x.saturated = true) ∨ 65535 < (c.sheets.map (·.reading)).sum ∨
      65535 < c.job.panels * min 65535 (c.sheets.map (·.reading)).sum) ∧
    (commit c s).track.nextSerial = (s.track.nextSerial + 1) % 65536 ∧
    (∀ k, k < 32 → pageUseAt k (commit c s) =
      pageUseAt k s + if p.scheme.entry.map (· / 16) = some k then 1 else 0) ∧
    (∀ g, g < 16 → groupAt g (commit c s) =
      { groupAt g s with refs := (groupAt g s).refs + if p.scheme.group = g then 1 else 0 }) ∧
    (∀ n, 0 < n → pieceAt n (commit c s) = pieceAt n s) ∧
    KeepsAllBut [.slots, .nextSerial, .pageUse, .groups] s (commit c s)

/-- The fill check of an unmarked piece: a base above CMAX is OVERSTUFF with an empty plan; otherwise every mandatory feed is
planned, candidates are dropped in the order that R54 gives and only while the total exceeds CMAX, every other candidate is
planned with its kind, and the live caliper is the final total, at most CMAX (R53, R54, R55). -/
def Obligations.FillCheckFitsTheEnvelope : Prop :=
  ∀ (c : Collation) (s : State), c.faults = [] → ¬MandatoryWithheld c.job s →
    let p := buildPiece c s
    (s.caliper.limit < baseCaliper c s →
      p.faults = [.overstuff] ∧ p.diverted = true ∧ (∀ i, p.planFor i = .none) ∧ p.dropped = [] ∧
      p.caliper = baseCaliper c s) ∧
    (baseCaliper c s ≤ s.caliper.limit →
      p.faults = [] ∧ p.diverted = false ∧ p.caliper ≤ s.caliper.limit ∧
      p.caliper = baseCaliper c s + caliperSum (fun i e =>
        (actionFor c.job i e != .mandatory && actionFor c.job i e != .noFeed) && decide (i ∉ p.dropped)) s ∧
      (∀ i e, stationAt i s = some e → e.kind = .insert →
        (c.job.selectionFor i = some .mandatory → p.planFor i = .mandatory) ∧
        (actionFor c.job i e = .noFeed → p.planFor i = .none)) ∧
      (∀ i e k, FillCandidate c.job i e k s →
        (i ∈ p.dropped → p.planFor i = .none) ∧
        (i ∉ p.dropped → actionFor c.job i e = .optional k → p.planFor i = .optional k) ∧
        (i ∉ p.dropped → actionFor c.job i e = .forced → p.planFor i = .forced)) ∧
      (∀ i ∈ p.dropped, ∃ e k, FillCandidate c.job i e k s ∧
        ∀ j f m, FillCandidate c.job j f m s → j ∉ p.dropped →
          m < k ∨ (m = k ∧ (f.offset < e.offset ∨ (f.offset = e.offset ∧ j < i)))) ∧
      (∀ l i e, p.dropped = l ++ [i] → stationAt i s = some e → s.caliper.limit < p.caliper + e.caliper))

/-- The arrival of a piece at a station: a divert-marked piece, and a kind without an arrival action, get nothing. At an
INSERT station the plan entry and the effective action decide the feed, the withholding or the fill, at the ENVELOPE and
SCAN_OUT stations the effective mode decides the command. A command that a full own-frame queue drops acts as untaken: the
station ABSENT, and a MISS of the feed's kind, an ENVELOPE_FAULT or a failed read of the piece, whose window is closed again
(R57, R67, R81, R82, R83, R84, R88, R89, R90, R91, R94, R162, R163). The dropped forms are stated for a station that its node
names, with no other window open on the piece for it and no other piece with the tag, which every run has (R63, R67, R71). -/
def Obligations.ArrivalsFollowPlanAndMode : Prop :=
  ∀ (n i : Nat) (p : Piece) (e : StationEntry) (s : State), pieceAt n s = some p → stationAt i s = some e →
    let window := fun k => p.windows ++ [⟨i, e.offset + e.window, k⟩]
    let feed := fun (q : Piece) k => pushOwn e.dst (.feedCmd p.tag k) (putSlot n (some q) s)
    let fits := e.effectiveMode = .normal ∨ e.effectiveMode = .force
    let dropped := 32 ≤ s.ring.own.length ∧ stationOfNode e.dst.toNat s = some (i, e) ∧ p.windowFor i = none ∧
      ∀ m < s.track.slots.length, ∀ q, pieceAt m s = some q → q.tag = p.tag → m = n
    let untaken := fun (q : Piece) => putSlot n (some q) (absentAfter i e s)
    (p.diverted = true ∨ (e.kind ≠ .insert ∧ e.kind ≠ .envelope ∧ e.kind ≠ .scanOut) → arriveAt n i s = s) ∧
    (p.diverted = false → e.kind = .insert →
      (s.ring.own.length < 32 →
        (p.planFor i = .mandatory → actionFor p.job i e = .mandatory →
          arriveAt n i s = feed { p with windows := window (.feed .mandatory) } .mandatory) ∧
        (∀ k m, p.planFor i = .optional k → actionFor p.job i e = .optional m →
          arriveAt n i s = feed { p with windows := window (.feed .optional) } .optional) ∧
        (p.planFor i = .forced → actionFor p.job i e = .forced →
          arriveAt n i s = feed { p with windows := window (.feed .optional) } .optional) ∧
        (p.planFor i = .none → actionFor p.job i e = .forced → i ∉ p.dropped → p.caliper + e.caliper ≤ s.caliper.limit →
          arriveAt n i s =
            feed { p with windows := window (.feed .optional), caliper := min 65535 (p.caliper + e.caliper) } .optional)) ∧
      (dropped →
        (p.planFor i = .mandatory → actionFor p.job i e = .mandatory →
          arriveAt n i s = untaken { p with diverted := true, faults := addOnce .insertMiss p.faults }) ∧
        ((∃ k m, p.planFor i = .optional k ∧ actionFor p.job i e = .optional m) ∨
            (p.planFor i = .forced ∧ actionFor p.job i e = .forced) →
          arriveAt n i s = untaken { p with missed := addOnce i p.missed, caliper := p.caliper - e.caliper }) ∧
        (p.planFor i = .none → actionFor p.job i e = .forced → i ∉ p.dropped → p.caliper + e.caliper ≤ s.caliper.limit →
          arriveAt n i s = untaken { p with
            missed := addOnce i p.missed, caliper := min 65535 (p.caliper + e.caliper) - e.caliper })) ∧
      (p.planFor i = .none → actionFor p.job i e = .forced → i ∉ p.dropped → s.caliper.limit < p.caliper + e.caliper →
        arriveAt n i s = putSlot n (some { p with dropped := p.dropped ++ [i] }) s) ∧
      (p.planFor i = .none → actionFor p.job i e ≠ .forced ∨ i ∈ p.dropped → arriveAt n i s = s) ∧
      (actionFor p.job i e = .noFeed →
        (p.planFor i = .mandatory →
          arriveAt n i s =
            putSlot n (some { p with diverted := true, faults := addOnce .insertWithheld p.faults }) s) ∧
        (∀ k, p.planFor i = .optional k →
          arriveAt n i s =
            putSlot n (some { p with withheld := addOnce i p.withheld, caliper := p.caliper - e.caliper }) s) ∧
        (p.planFor i = .forced →
          arriveAt n i s = putSlot n (some { p with caliper := p.caliper - e.caliper }) s))) ∧
    (p.diverted = false → e.kind = .envelope →
      (fits → s.ring.own.length < 32 →
        arriveAt n i s =
          pushOwn e.dst (.envCmd p.tag) (putSlot n (some { p with windows := window .envelope }) s)) ∧
      (fits → dropped →
        arriveAt n i s = untaken { p with diverted := true, faults := addOnce .envelopeFault p.faults }) ∧
      (¬fits → arriveAt n i s =
        putSlot n (some { p with diverted := true, faults := addOnce .envelopeFault p.faults }) s)) ∧
    (p.diverted = false → e.kind = .scanOut →
      (fits → s.ring.own.length < 32 →
        arriveAt n i s =
          pushOwn e.dst (.scanArm p.tag) (putSlot n (some { p with windows := window .scan }) s)) ∧
      (fits → dropped → p.job.matchRequired = true → arriveAt n i s = untaken { p with
        diverted := true, faults := addOnce .unverified p.faults, verification := .unverified }) ∧
      (fits → dropped → p.job.matchRequired = false →
        arriveAt n i s = untaken { p with verification := .unread }) ∧
      (¬fits → p.job.matchRequired = true → arriveAt n i s =
        putSlot n (some { p with
          diverted := true, faults := addOnce .unverified p.faults, verification := .unverified }) s) ∧
      (¬fits → p.job.matchRequired = false →
        arriveAt n i s = putSlot n (some { p with verification := .unread }) s))

/-- Every window whose piece stands beyond its closing slot closes without a result: a mandatory feed's adds
INSERT_UNCONFIRMED, an optional feed's a note, the envelope's ENVELOPE_FAULT, the scanner's a failed read; the live caliper
and all else stay. A piece that leaves the track closes every window that is still open in the same way. In IDLE there is
nothing to close (R67, R68, R87, R90, R94). That the event does nothing there is the model's choice (log entry 3). -/
def Obligations.PassedWindowsCloseWithoutResult : Prop :=
  (∀ (n : Nat) (p : Piece),
    p.passWindows n = p.expireWhere (fun w => decide (w.closing < n)) ∧ p.leaveWindows = p.expireWhere fun _ => true) ∧
  (∀ (test : Window → Bool) (p : Piece),
    let q := p.expireWhere test
    let ends := fun k => ∃ w ∈ p.windows, test w = true ∧ w.kind = k
    q = { p with
      windows := p.windows.filter (fun w => !test w), diverted := q.diverted, faults := q.faults, missed := q.missed
      verification := q.verification } ∧
    (∀ f, f ∈ q.faults ↔ f ∈ p.faults ∨ (f = .insertUnconfirmed ∧ ends (.feed .mandatory)) ∨
      (f = .envelopeFault ∧ ends .envelope) ∨ (f = .unverified ∧ ends .scan ∧ p.job.matchRequired = true)) ∧
    (q.diverted = true ↔ p.diverted = true ∨ ends (.feed .mandatory) ∨ ends .envelope ∨
      (ends .scan ∧ p.job.matchRequired = true)) ∧
    (∀ i, i ∈ q.missed ↔
      i ∈ p.missed ∨ ∃ w ∈ p.windows, test w = true ∧ w.kind = .feed .optional ∧ w.station = i) ∧
    q.verification = (if ends .scan then if p.job.matchRequired then .unverified else .unread else p.verification)) ∧
  ∀ s : State, s.resetHigh = true →
    (s.line.state = .idle → exec .windowCloseByPassing s = .next s) ∧
    (s.line.state ≠ .idle → ∃ t, exec .windowCloseByPassing s = .next t ∧
      t.track.slots.length = s.track.slots.length ∧ (∀ n, pieceAt n s = none → pieceAt n t = none) ∧
      (∀ n p, pieceAt n s = some p → ∃ q, pieceAt n t = some q ∧
        q = { p with
          windows := p.windows.filter (fun w => decide (n ≤ w.closing)), diverted := q.diverted, faults := q.faults
          missed := q.missed, verification := q.verification } ∧
        (∀ f, f ∈ q.faults ↔ f ∈ p.faults ∨ ∃ w ∈ p.windows, w.passed n ∧
          ((f = .insertUnconfirmed ∧ w.kind = .feed .mandatory) ∨ (f = .envelopeFault ∧ w.kind = .envelope) ∨
            (f = .unverified ∧ w.kind = .scan ∧ p.job.matchRequired = true))) ∧
        (q.diverted = true ↔ p.diverted = true ∨ ∃ w ∈ p.windows, w.passed n ∧
          (w.kind = .feed .mandatory ∨ w.kind = .envelope ∨ (w.kind = .scan ∧ p.job.matchRequired = true))) ∧
        (∀ i, i ∈ q.missed ↔
          i ∈ p.missed ∨ ∃ w ∈ p.windows, w.passed n ∧ w.kind = .feed .optional ∧ w.station = i) ∧
        q.verification =
          (if ∃ w ∈ p.windows, w.passed n ∧ w.kind = .scan then
            if p.job.matchRequired then .unverified else .unread
           else p.verification)) ∧
      KeepsAllBut [.slots] s t)

/-! ### Reports of the stations (R72 to R76, R85 to R94) -/

/-- A STATION_STATUS replaces the reported status of the entry it comes from; READY clears the late count, and a change to
LOW, EMPTY or FAULT raises STATION. A SLOT_REPORT in an open run is late under another pitch number, agrees with the slot
queue, or is an occupancy fault: the jam slot, JAM, an occupancy jam, and the divert mark of a piece not seen. A late report
raises the station's late count and at its limit sets FAULT. Other values are discarded, and other nodes' reports forwarded
(R72, R74, R75, R76). -/
def Obligations.StationReportsMoveTheirEntry : Prop :=
  (∀ (h : Header) (value : Byte) (s : State), Reached h s →
    let went := fun v => exec (.stationStatus h value) s = .next (actedOn h 28 [value] v)
    (stationOfNode h.src.toNat s = none →
      exec (.stationStatus h value) s = .next (forwardFrame { header := h, kind := 28, payload := [value] } s)) ∧
    ∀ i e, stationOfNode h.src.toNat s = some (i, e) →
      (value = 1 → went (putStation i (some { e with status := .ready, late := 0 }) s)) ∧
      (∀ st, (value = 2 ∧ st = .low) ∨ (value = 3 ∧ st = .empty) ∨ (value = 4 ∧ st = .fault) →
        (e.status = st → went s) ∧
        (e.status ≠ st → went (raiseAlert (.stationStatus i st) (putStation i (some { e with status := st }) s)))) ∧
      (value = 0 ∨ 4 < value.toNat → went s)) ∧
  (∀ (i : Nat) (e : StationEntry) (s : State), stationAt i s = some e →
    let n := min 15 (e.late + 1)
    (n < e.lateLimit → lateReport i e s = putStation i (some { e with late := n }) s) ∧
    (e.lateLimit ≤ n → e.status = .fault → lateReport i e s = putStation i (some { e with late := n }) s) ∧
    (e.lateLimit ≤ n → e.status ≠ .fault → lateReport i e s =
      raiseAlert (.stationStatus i .fault) (putStation i (some { e with late := n, status := .fault }) s))) ∧
  ∀ (h : Header) (pitch occupancy : Byte) (s : State), Reached h s →
    let went := fun v => exec (.slotReport h pitch occupancy) s = .next (actedOn h 27 [pitch, occupancy] v)
    (stationFor .slotCheck h.src s = none →
      exec (.slotReport h pitch occupancy) s =
        .next (forwardFrame { header := h, kind := 27, payload := [pitch, occupancy] } s)) ∧
    ∀ i e, stationFor .slotCheck h.src s = some (i, e) →
      (s.line.state = .idle ∨ occupancy = 0 ∨ 2 < occupancy.toNat → went s) ∧
      (s.line.state ≠ .idle → occupancy = 1 ∨ occupancy = 2 →
        (pitch.toNat ≠ s.track.pitch → went (lateReport i e s)) ∧
        (pitch.toNat = s.track.pitch →
          ((occupancy = 1 ∧ pieceAt e.offset s ≠ none) ∨ (occupancy = 2 ∧ pieceAt e.offset s = none) → went s) ∧
          ((occupancy = 1 ∧ pieceAt e.offset s = none) ∨ (occupancy = 2 ∧ pieceAt e.offset s ≠ none) →
            ∃ v, went v ∧ v.track.jamSlot = some e.offset ∧
              alertOf .jam v = alertOf .jam (raiseAlert (.occupancy e.offset) s) ∧
              (s.line.state = .running ∨ s.line.state = .paused ∨ s.line.state = .draining →
                v.line.state = .jammed ∧ v.line.reason = some .occupancy ∧ v.line.drive = false ∧
                v.line.permit = false) ∧
              (s.line.state = .ready ∨ s.line.state = .jammed ∨ s.line.state = .closed → v.line = s.line) ∧
              (∀ p, pieceAt e.offset s = some p → pieceAt e.offset v = some { p with diverted := true }) ∧
              (∀ n, n ≠ e.offset ∨ pieceAt n s = none → pieceAt n v = pieceAt n s) ∧
              KeepsAllBut (stateParts ++ [.jamSlot, .slots]) s v)))

/-- A FEED_RESULT from an INSERT entry in an open run closes the window of the piece with its tag and acts by the command's
kind: FED joins the fed set; MISS of a mandatory feed adds INSERT_MISS, of an optional one a note and I off the live caliper;
DOUBLE adds INSERT_DOUBLE, the fed set and I. Without such a window, one of another kind counting for nothing, it is late; in
IDLE, and with another value, it is discarded; from another node it is forwarded (R85, R86). -/
def Obligations.FeedResultsActByTheirKind : Prop :=
  ∀ (h : Header) (tag result : Byte) (s : State), Reached h s →
    let went := fun v => exec (.feedResult h tag result) s = .next (actedOn h 22 [tag, result] v)
    (stationFor .insert h.src s = none →
      exec (.feedResult h tag result) s =
        .next (forwardFrame { header := h, kind := 22, payload := [tag, result] } s)) ∧
    ∀ i e, stationFor .insert h.src s = some (i, e) →
      (s.line.state = .idle ∨ result = 0 ∨ 3 < result.toNat → went s) ∧
      (s.line.state ≠ .idle → 1 ≤ result.toNat → result.toNat ≤ 3 →
        (NothingAwaits feedWindows i tag.toNat s → went (lateReport i e s)) ∧
        ∀ n p w k, Awaits n i tag.toNat p w s → w.kind = .feed k →
          let q := { p with windows := p.windows.filter (fun x => x.station != i) }
          (result = 1 → went (putSlot n (some { q with fed := addOnce i p.fed }) s)) ∧
          (result = 2 → k = .mandatory →
            went (putSlot n (some { q with diverted := true, faults := addOnce .insertMiss p.faults }) s)) ∧
          (result = 2 → k = .optional →
            went (putSlot n (some { q with missed := addOnce i p.missed, caliper := p.caliper - e.caliper }) s)) ∧
          (result = 3 →
            went (putSlot n (some { q with
              diverted := true, faults := addOnce .insertDouble p.faults, fed := addOnce i p.fed
              caliper := min 65535 (p.caliper + e.caliper) }) s)))

/-- An ENV_RESULT closes the envelope's window, and ENV_FAULT adds ENVELOPE_FAULT. An ADDR_SCAN closes the scanner's window
and writes the output read: the piece's own sequence and incarnation verify it, another value adds MISMATCH, raises MATCH and
asks for a MATCH pause, and NO_READ makes it UNVERIFIED and marked when the record requires a match, and UNREAD otherwise.
Without an open window of their own kind they are late; in IDLE, and with another value, they are discarded; from another node
they are forwarded (R90, R92, R93, R94). That an incarnation byte above 15 is compared as it is, is the model's reading (log
entry 27), and that an ADDR_SCAN with a result byte other than 1 and 2 is taken and discarded without a late count (log entry
46). -/
def Obligations.EnvelopeAndScanResultsActOnTheirPiece : Prop :=
  (∀ (h : Header) (tag result : Byte) (s : State), Reached h s →
    let went := fun v => exec (.envResult h tag result) s = .next (actedOn h 24 [tag, result] v)
    (stationFor .envelope h.src s = none →
      exec (.envResult h tag result) s =
        .next (forwardFrame { header := h, kind := 24, payload := [tag, result] } s)) ∧
    ∀ i e, stationFor .envelope h.src s = some (i, e) →
      (s.line.state = .idle ∨ result = 0 ∨ 2 < result.toNat → went s) ∧
      (s.line.state ≠ .idle → result = 1 ∨ result = 2 →
        (NothingAwaits [.envelope] i tag.toNat s → went (lateReport i e s)) ∧
        ∀ n p w, Awaits n i tag.toNat p w s → w.kind = .envelope →
          let q := { p with windows := p.windows.filter (fun x => x.station != i) }
          (result = 1 → went (putSlot n (some q) s)) ∧
          (result = 2 →
            went (putSlot n (some { q with diverted := true, faults := addOnce .envelopeFault p.faults }) s)))) ∧
  ∀ (h : Header) (tag result : Byte) (seq : BitVec 24) (inc : Byte) (s : State), Reached h s →
    let payload := tag :: result :: (beBytes 3 seq.toNat ++ [inc])
    let went := fun v => exec (.addrScan h tag result seq inc) s = .next (actedOn h 26 payload v)
    (stationFor .scanOut h.src s = none →
      exec (.addrScan h tag result seq inc) s =
        .next (forwardFrame { header := h, kind := 26, payload := payload } s)) ∧
    ∀ i e, stationFor .scanOut h.src s = some (i, e) →
      (s.line.state = .idle ∨ result = 0 ∨ 2 < result.toNat → went s) ∧
      (s.line.state ≠ .idle → result = 1 ∨ result = 2 →
        (NothingAwaits [.scan] i tag.toNat s → went (lateReport i e s)) ∧
        ∀ n p w, Awaits n i tag.toNat p w s → w.kind = .scan →
          let q := { p with windows := p.windows.filter (fun x => x.station != i) }
          let own := seq.toNat = p.job.seq ∧ inc.toNat = p.job.inc
          (result = 1 → own →
            went (putSlot n (some { q with
              output := .value seq.toNat inc.toNat, verification := .verified }) s)) ∧
          (result = 1 → ¬own →
            went (requestStop .mismatch
              (raiseAlert (.mismatch n p.serial p.job.seq p.job.inc seq.toNat inc.toNat)
                (putSlot n (some { q with
                  output := .value seq.toNat inc.toNat, diverted := true
                  faults := addOnce .mismatch p.faults }) s)))) ∧
          (result = 2 → p.job.matchRequired = true →
            went (putSlot n (some { q with
              output := .noRead, diverted := true, faults := addOnce .unverified p.faults
              verification := .unverified }) s)) ∧
          (result = 2 → p.job.matchRequired = false →
            went (putSlot n (some { q with output := .noRead, verification := .unread }) s)))

/-! ### The exit and the sorter (R58, R111 to R120, R126) -/

/-- An unmarked piece at the exit is classed by its live caliper and goes to the first bin of its group's chain that can take
it, group 0 standing in for a piece above its maximum class and for a chain without room; the flight, with the parts of the
piece that its PIECE record carries, joins the bin's list, the committed count rises, a bin at its capacity becomes FULL_WAIT
and BIN_SELECT is sent. A piece with no bin is disposed HAND_SORT with NO_BIN and the group raised, and a marked one DIVERTED
with a reprint entry, each with its PIECE record and, with room for it, a DIVERT_CMD with the tag to the EXIT entry, after
which a drain whose work is finished completes. A DIVERT_CMD that a full own-frame queue drops acts as untaken once that
disposition, and a drain's completion with it, is made: the EXIT station ABSENT, SORTER with DIVERT_UNTAKEN and a SORTER pause.
A BIN_SELECT that a full own-frame queue drops acts as untaken once the whole selection is made (log entry 13): the bin OFF, the
flight taken off again and LOST with its PIECE record, SORTER with SELECT_UNTAKEN, the close of a bundle left with nothing in
flight and a drain's completion; it is stated for a bin without another flight of the tag (R58, R73, R112, R120, R123, R124,
R126, R127, R137, R152, R163). That NO_BIN follows DIVERT_UNTAKEN for a piece with no bin is the
model's reading (log entry 29). The group that a bundle is judged with where its bin has none is log entry 16. The serial of a
DIVERT_CMD is kept in the model's own field (log entry 7). -/
def Obligations.ExitSelectsABin : Prop :=
  ∀ (p : Piece) (s : State),
    let cls := if p.caliper ≤ s.caliper.letterLimit then CaliperClass.letter
      else if p.caliper ≤ s.caliper.flatLimit then .flat else .bulk
    let group := if (maxClassOf p.scheme s).code < cls.code then 0 else p.scheme.group
    let takes := fun b => (binAt b s).state = .open ∧ (binAt b s).committed < (binAt b s).capacity.getD 0 ∧
      (binAt b s).flights.length < 8
    let record := fun (d : Disposition) (c : Option CaliperClass) (g : Nat) => LogBody.piece
      { seq := p.job.seq, inc := p.job.inc, disposition := d, reason := reasonOf p.faults d, faults := p.faults
        saturated := p.saturated, serial := some p.serial, caliper := p.caliper, verification := p.verification
        output := p.output, scheme := some { entry := p.scheme.entry, group := g, level := p.scheme.level }
        caliperClass := c, bin := none, fed := p.fed, stations := unionStations p.dropped p.withheld, place := none }
    let room := s.ring.own.length < 32 ∨ stationOfKind .exit s = none
    let logged := fun (b : LogBody) (t : State) =>
      AlertsKeptBut [.sorter, .reserve, .station, .run] s t ∧ (room → StationsKept id (s.ring.own.length + 3 ≤ 32) s t) ∧
      (s.line.state ≠ .draining → LogTook b s t ∧ t.sort.bins = s.sort.bins ∧ alertOf .run t = alertOf .run s) ∧
      (s.line.state = .draining →
        (recordsHeld s ≠ s.queue.records.length →
          LogTook b s t ∧ t.sort.bins = s.sort.bins ∧ alertOf .run t = alertOf .run s ∧
          (room → t.line.state = .draining)) ∧
        (recordsHeld s = s.queue.records.length → t.line.state = .closed ∧
          (∀ c, binAt c t = (binAt c s).bundleClosed) ∧ alertOf .run t = alertOf .run (raiseAlert .drainComplete s) ∧
          LogTookAll (b :: drainRecords (fun c => (binAt c s).bundle) t.line.counters s) s t))
    (p.diverted = false →
      ∀ g before b after n, (groupAt g s).chain = before ++ b :: after → (∀ x ∈ before, ¬takes x) → takes b →
        g = group ∨ (g = 0 ∧ ∀ x ∈ (groupAt group s).chain, ¬takes x) → (binAt b s).node = some n →
        let f : Flight :=
          { serial := p.serial, seq := p.job.seq, inc := p.job.inc, key := p.scheme.key, entry := p.scheme.entry
            level := p.scheme.level, pitch := s.track.pitch, group := g, caliperClass := cls, caliper := p.caliper
            saturated := p.saturated, fed := p.fed, dropped := p.dropped, withheld := p.withheld, output := p.output
            verification := p.verification }
        (s.ring.own.length < 32 → exitPiece p s =
          pushOwn (BitVec.ofNat 6 n) (.binSelect (p.serial % 256))
            (putBin b { binAt b s with
              flights := (binAt b s).flights ++ [f], committed := (binAt b s).committed + 1
              state := if (binAt b s).capacity = some ((binAt b s).committed + 1) then .fullWait else .open } s)) ∧
        (32 ≤ s.ring.own.length → (∀ y ∈ (binAt b s).flights, y.serial % 256 ≠ p.serial % 256) →
          let x := binAt b s
          let t := exitPiece p s
          let closes := x.flights = [] ∧ x.bundle ≠ none
          let now : Bin := { x with
            state := .off, bundle := if closes then none else x.bundle
            trayBundles := x.trayBundles + if closes then 1 else 0 }
          let records : List LogBody :=
            .piece (f.logOf .lost b none) :: if closes then closeRecord b .binOff x.bundle s else []
          let finished := recordsHeld s = s.queue.records.length
          t.line.counters = { s.line.counters with lost := min 16777215 (s.line.counters.lost + 1) } ∧
          t.reprints = s.reprints ∧ t.ring.own = s.ring.own ∧ t.track.divertSerials = s.track.divertSerials ∧
          alertOf .sorter t = alertOf .sorter (raiseAlert (.selectUntaken b) s) ∧
          AlertsKeptBut [.sorter, .reserve, .station, .run] s t ∧ StationsKept id False s t ∧
          (s.line.state ≠ .draining ∨ ¬finished →
            t.line.state = s.line.state ∧ t.line.reason = s.line.reason ∧ t.line.drive = s.line.drive ∧
            alertOf .run t = alertOf .run s ∧ binAt b t = now ∧ (∀ c, c ≠ b → binAt c t = binAt c s) ∧
            LogTookAll records s t) ∧
          (s.line.state = .draining → finished →
            t.line.state = .closed ∧ t.line.reason = none ∧ t.line.drive = false ∧
            alertOf .run t = alertOf .run (raiseAlert .drainComplete s) ∧
            (∀ c, binAt c t = (if c = b then now else binAt c s).bundleClosed) ∧
            LogTookAll (records ++
              drainRecords (fun c => (if c = b then now else binAt c s).bundle) t.line.counters s) s t))) ∧
    (p.diverted = false → (∀ x ∈ (groupAt group s).chain, ¬takes x) → (∀ x ∈ (groupAt 0 s).chain, ¬takes x) →
      (exitPiece p s).line.counters =
        { s.line.counters with handSort := min 16777215 (s.line.counters.handSort + 1) } ∧
      (room → alertOf .sorter (exitPiece p s) = alertOf .sorter (raiseAlert (.noBin group) s)) ∧
      (alertOf .sorter (exitPiece p s)).pending = true ∧ (exitPiece p s).reprints = s.reprints ∧
      logged (record .handSort (some cls) group) (exitPiece p s)) ∧
    (p.diverted = true → s.reprints.length < 256 →
      (exitPiece p s).line.counters =
        { s.line.counters with diverted := min 16777215 (s.line.counters.diverted + 1) } ∧
      (∃ reason, (exitPiece p s).reprints =
          s.reprints ++ [{ seq := p.job.seq, inc := p.job.inc, reason := reason, state := .open }] ∧
        (p.faults = [] → reason = .disposition .diverted) ∧
        (p.faults ≠ [] → ∃ f ∈ p.faults, reason = .fault f ∧ ∀ x ∈ p.faults, f.order ≤ x.order)) ∧
      logged (record .diverted none p.scheme.group) (exitPiece p s)) ∧
    (p.diverted = true ∨
        ((∀ x ∈ (groupAt group s).chain, ¬takes x) ∧ ∀ x ∈ (groupAt 0 s).chain, ¬takes x) →
      (stationOfKind .exit s = none → (exitPiece p s).track.divertSerials = s.track.divertSerials) ∧
      ∀ i e, stationOfKind .exit s = some (i, e) →
        (s.ring.own.length < 32 →
          (∃ more, (exitPiece p s).ring.own = s.ring.own ++ ⟨e.dst, .divertCmd (p.serial % 256)⟩ :: more) ∧
          (exitPiece p s).track.divertSerials =
            p.serial :: s.track.divertSerials.filter fun x => x % 256 != p.serial % 256) ∧
        (32 ≤ s.ring.own.length →
          let t := exitPiece p s
          let u := raiseAlert (.divertUntaken p.serial) s
          t.track.divertSerials = s.track.divertSerials ∧
          (∀ j x, stationOfNode e.dst.toNat s = some (j, x) → stationAt j t = some { x with status := .absent }) ∧
          (p.diverted = true → alertOf .sorter t = alertOf .sorter u) ∧
          (p.diverted = false → alertOf .sorter t = alertOf .sorter (raiseAlert (.noBin group) u)) ∧
          (s.line.state = .running ∨ (s.line.state = .draining ∧ recordsHeld s ≠ s.queue.records.length) →
            t.line.state = .paused ∧ t.line.reason = some .sorter ∧ t.line.drive = false ∧ t.line.permit = false) ∧
          (s.line.state ≠ .running → s.line.state ≠ .draining →
            t.line.state = s.line.state ∧ t.line.reason = s.line.reason ∧ t.line.drive = s.line.drive))) ∧
    KeepsAllBut (endParts ++ [.divertSerials]) s (exitPiece p s)

/-- A destination's match is the enabled entry that matches it with the most named positions, the lowest index among equals;
with none it is the residual match. An entry matches when each position it names faces the same digit; the bundle key is the
leading positions of the destination (R97, R98, R99, R100). -/
def Obligations.SchemeMatchIsTheMostSpecific : Prop :=
  ∀ (d : Destination) (s : State), d.positions.length = 9 → (∀ i, (schemeAt i s).pattern.length = 9) →
    let matching := fun i => i < 512 ∧ (schemeAt i s).enabled = true ∧
      ∀ (k digit : Nat), (schemeAt i s).pattern[k]? = some (some digit) → d.positions[k]? = some (some digit)
    let named := fun i => (schemeAt i s).pattern.countP (·.isSome)
    ((∀ i, ¬matching i) → schemeMatch d s = { entry := none, group := 0, key := d.positions.take 5, level := 0 }) ∧
    ((∃ i, matching i) → ∃ i, matching i ∧
      (∀ j, matching j → named j < named i ∨ (named j = named i ∧ i ≤ j)) ∧
      schemeMatch d s =
        { entry := some i, group := (schemeAt i s).group, key := d.positions.take (schemeAt i s).keyLength
          level := (schemeAt i s).level })

/-- A LANDED event with pieces in flight removes the head entry, raises the landed count, and disposes it SORTED; the piece
joins the open bundle of its key or, after a KEY_BREAK close, opens its own; the bundle closes when it reaches the group's B,
with a BUNDLE_MARK of its count to the bin's node, or when the bin is OFF with nothing left in flight. A BUNDLE_MARK that a full
own-frame queue drops raises SORTER with MARK_UNTAKEN. The log is asked for
the BUNDLE record of a KEY_BREAK, the PIECE record with the bin and the place in the bundle, the BUNDLE record of the second
close, and at the end of a drain the records of its completion. With an empty list it only raises SORTER with
UNEXPECTED_LANDING (R113, R114, R115, R116, R124, R137, R152, R163). The records are stated for bins with a group, which every open
bundle of a run has. -/
def Obligations.LandingsFormBundles : Prop :=
  ∀ (h : Header) (s : State), Reached h s →
    (binOfNode h.src.toNat s = none →
      exec (.landed h) s = .next (forwardFrame { header := h, kind := 33, payload := [1] } s)) ∧
    ∀ b, binOfNode h.src.toNat s = some b →
      let x := binAt b s
      (x.flights = [] → exec (.landed h) s = .next (actedOn h 33 [1] (raiseAlert (.unexpectedLanding b) s))) ∧
      ∀ f rest, x.flights = f :: rest →
        let opened : Bundle :=
          { key := f.key, count := 1, first := f.seq, last := f.seq, entry := f.entry, level := f.level
            continued := decide (x.previousKey = some f.key) }
        let broken := ∃ u, x.bundle = some u ∧ u.key ≠ f.key
        let joined := match x.bundle with
          | some u => if u.key = f.key then { u with count := u.count + 1, last := f.seq } else opened
          | none => opened
        let full := ∃ g, groupOfBin b s = some g ∧ (groupAt g s).target ≤ joined.count
        let closes := full ∨ (x.state = .off ∧ rest = [])
        let now : Bin := { x with
          landed := x.landed + 1, flights := rest, bundle := if closes then none else some joined
          trayBundles := x.trayBundles + (if broken then 1 else 0) + (if closes then 1 else 0)
          previousKey := if x.bundle = none ∨ broken then none else x.previousKey }
        let records : List LogBody := (if broken then closeRecord b .keyBreak x.bundle s else []) ++
          [.piece
            { seq := f.seq, inc := f.inc, disposition := .sorted, reason := .disposition .sorted, faults := []
              saturated := f.saturated, serial := some f.serial, caliper := f.caliper, verification := f.verification
              output := f.output, scheme := some { entry := f.entry, group := f.group, level := f.level }
              caliperClass := some f.caliperClass, bin := some b, fed := f.fed
              stations := unionStations f.dropped f.withheld, place := some (joined.first, joined.count) }] ++
          (if full then closeRecord b .full (some joined) s
            else if closes then closeRecord b .binOff (some joined) s else [])
        ∃ v, exec (.landed h) s = .next (actedOn h 33 [1] v) ∧
          v.line.counters = { s.line.counters with sorted := min 16777215 (s.line.counters.sorted + 1) } ∧
          (s.ring.own.length + 4 ≤ 32 → bundleMarks (s.ring.own.length) v =
            if full then [⟨h.src, .bundleMark joined.count⟩] else []) ∧
          (s.ring.own.length + 4 ≤ 32 ∨ ¬full → alertOf .sorter v = alertOf .sorter s) ∧
          (32 ≤ s.ring.own.length → v.ring.own = s.ring.own ∧
            (full → alertOf .sorter v = alertOf .sorter (raiseAlert (.markUntaken b) s))) ∧
          AlertsKeptBut [.sorter, .reserve, .station, .run] s v ∧ StationsKept id (s.ring.own.length + 4 ≤ 32) s v ∧
          alertOf .run v = alertOf .run (if s.line.state = .draining ∧ recordsHeld v = v.queue.records.length
            then raiseAlert .drainComplete s else s) ∧
          (s.line.state ≠ .draining →
            binAt b v = now ∧ (∀ c, c ≠ b → binAt c v = binAt c s) ∧
            (groupOfBin b s ≠ none → LogTookAll records s v) ∧ KeepsAllBut (closeParts ++ [.counters]) s v) ∧
          (s.line.state = .draining →
            (recordsHeld v ≠ v.queue.records.length →
              v.line.state = .draining ∧ binAt b v = now ∧ (groupOfBin b s ≠ none → LogTookAll records s v) ∧
              ∀ c, c ≠ b → binAt c v = binAt c s) ∧
            (recordsHeld v = v.queue.records.length →
              v.line.state = .closed ∧ v.line.drive = false ∧
              (∀ c, binAt c v = (if c = b then now else binAt c s).bundleClosed) ∧
              ((∀ c < 32, c = b ∨ (binAt c s).bundle ≠ none → groupOfBin c s ≠ none) → LogTookAll (records ++
                drainRecords (fun c => if c = b then now.bundle else (binAt c s).bundle) v.line.counters s) s v)) ∧
            KeepsAllBut (stateParts ++ closeParts ++ [.counters]) s v)

/-- A SWEPT event closes the open bundle with cause TRAY, asks for a TRAY record with the landed count and the tray's bundles,
and starts a new tray: landed 0, committed the pieces in flight, the swept bundle's key kept, and a FULL_WAIT bin with room
OPEN. A FULL event makes an OPEN bin FULL_WAIT and leaves every other bin. Another event value is discarded, and a BIN_EVENT
from a node that is no loaded bin's is forwarded (R113, R116, R117, R118). -/
def Obligations.SweepsAndFullMoveTheBin : Prop :=
  ∀ (h : Header) (event : Byte) (s : State), Reached h s →
    (binOfNode h.src.toNat s = none →
      exec (.swept h) s = .next (forwardFrame { header := h, kind := 33, payload := [2] } s) ∧
      exec (.full h) s = .next (forwardFrame { header := h, kind := 33, payload := [3] } s) ∧
      exec (.otherBinEvent h event) s = .next (forwardFrame { header := h, kind := 33, payload := [event] } s)) ∧
    ∀ b, binOfNode h.src.toNat s = some b →
      let x := binAt b s
      (event = 0 ∨ 3 < event.toNat → exec (.otherBinEvent h event) s = .next (actedOn h 33 [event] s)) ∧
      (x.state = .open →
        exec (.full h) s = .next (actedOn h 33 [3] (putBin b { x with state := .fullWait } s))) ∧
      (x.state ≠ .open → exec (.full h) s = .next (actedOn h 33 [3] s)) ∧
      ∃ v, exec (.swept h) s = .next (actedOn h 33 [2] v) ∧
        binAt b v = { x with
          landed := 0, committed := x.flights.length, bundle := none, trayBundles := 0
          previousKey := x.bundle.map (·.key)
          state := if x.state = .fullWait ∧ x.flights.length < x.capacity.getD 0 then .open else x.state } ∧
        (∀ c, c ≠ b → binAt c v = binAt c s) ∧
        (x.bundle = none → LogTook (.tray b x.landed x.trayBundles) s v) ∧
        (∀ u g, x.bundle = some u → groupOfBin b s = some g → ∃ w,
          LogTook (.bundle
            { bin := b, group := g, key := u.key, count := u.count
              level := if (groupAt g s).minimum ≤ u.count then u.level else (groupAt g s).demote
              cause := .tray, entry := u.entry, first := u.first, last := u.last
              demoted := decide (u.count < (groupAt g s).minimum), continued := u.continued }) s w ∧
          LogTook (.tray b x.landed (x.trayBundles + 1)) w v) ∧
        StationsKept id (s.ring.own.length + 2 ≤ 32) s v ∧ AlertsKeptBut [.reserve, .station] s v ∧
        KeepsAllBut closeParts s v

/-- The examination of the flights removes every entry whose selection pitch lies at least the sorter window behind, modulo
256, lowers the committed counts and disposes the pieces LOST with PIECE records and without reprint entries; a bundle of an
OFF bin left with nothing in flight closes; if there was one, SORTER is raised with TIMEOUT and a bin and a RUNNING or
DRAINING line pauses with reason SORTER, while in every other state the run state and its reason stay; if there was none,
nothing changes. An advance makes it
against the pitch number it set: the advance at which a flight of the state before it times out ends with the examination, and
with room for its own frames no flight has left a list before it (R60, R116, R119, R124). That the command does nothing when
the next pulse is no such advance is the model's choice (log entry 3), and so is the order of the bins in the log (log entry
40). That the examination comes last in an advance is the model's reading (log entry 14). The group that a bundle is judged
with where its bin has none is log entry 16. -/
def Obligations.TimedOutFlightsAreLost : Prop :=
  (∀ s : State,
    let late := fun f : Flight => decide (s.sort.window ≤ (s.track.pitch + 256 - f.pitch % 256) % 256)
    let gone := ((List.range 32).map fun b => ((binAt b s).flights.filter late).length).sum
    let emptied := fun x : Bin => x.state = .off ∧ x.flights ≠ [] ∧ ∀ f ∈ x.flights, late f = true
    let t := sorterTimeouts s
    (∀ b, b < 32 → let x := binAt b s
      binAt b t = { x with
        flights := x.flights.filter (fun f => !late f), committed := x.committed - (x.flights.filter late).length
        bundle := if emptied x then none else x.bundle
        trayBundles := x.trayBundles + if emptied x ∧ x.bundle ≠ none then 1 else 0 }) ∧
    (s.line.counters.lost ≤ 16777215 →
      t.line.counters = { s.line.counters with lost := min 16777215 (s.line.counters.lost + gone) }) ∧
    LogTookAll ((List.range 32).flatMap fun b =>
      (((binAt b s).flights.filter late).map fun f => .piece (f.logOf .lost b none)) ++
        if emptied (binAt b s) then closeRecord b .binOff (binAt b s).bundle s else []) s t ∧
    (gone ≠ 0 →
      (alertOf .sorter t).pending = true ∧ (alertOf .sorter t).count = min 255 ((alertOf .sorter s).count + gone) ∧
      ((alertOf .sorter s).pending = true → (alertOf .sorter t).detail = (alertOf .sorter s).detail) ∧
      ((alertOf .sorter s).pending = false → ∃ b, b < 32 ∧ (alertOf .sorter t).detail = some (.timeout b) ∧
        ∃ f ∈ (binAt b s).flights, late f = true) ∧
      (s.line.state = .running ∨ s.line.state = .draining →
        t.line.state = .paused ∧ t.line.reason = some .sorter ∧ t.line.drive = false ∧ t.line.permit = false)) ∧
    (s.line.state ≠ .running → s.line.state ≠ .draining →
      t.line.state = s.line.state ∧ t.line.reason = s.line.reason ∧ t.line.drive = s.line.drive) ∧
    (gone = 0 → sorterTimeouts s = s) ∧
    StationsKept id (s.ring.own.length + 3 ≤ 32) s t ∧ AlertsKeptBut [.sorter, .reserve, .station] s t ∧
    KeepsAllBut (stateParts ++ closeParts ++ [.counters]) s t) ∧
  ∀ s : State, s.resetHigh = true →
    let pitch := (s.track.pitch + 1) % 256
    let due := s.line.state ≠ .idle ∧ s.track.position + 1 = s.track.boundary ∧
      ∃ b < 32, ∃ f ∈ (binAt b s).flights, s.sort.window ≤ (pitch + 256 - f.pitch % 256) % 256
    (¬due → exec .sorterTimeout s = .next s) ∧
    (due → exec .sorterTimeout s = exec .pitchAdvance s ∧
      ∃ w, exec .sorterTimeout s = .next (sorterTimeouts w) ∧ w.track.pitch = pitch ∧ w.sort.window = s.sort.window ∧
        (s.ring.own.length + 2 ≤ 32 → ∀ b, b < 32 → ∃ more,
          (binAt b w).flights = (binAt b s).flights ++ more ∧ ∀ f ∈ more, f.pitch = pitch))

/-! ### Returns (R162) -/

/-- A return marked TAKEN, and an untaken one of a kind without a rule, ends without effect; an untaken return acts as the
command of its kind. An untaken station frame sets the entry at its destination ABSENT; an untaken FEED_CMD, ENV_CMD or
SCAN_ARM is besides the result MISS, ENV_FAULT or a failed read of its own kind of window, a feed's, the envelope's or the
scanner's, while that is still open, and leaves a window of another kind as it is; an untaken ACCEPT adds MISSING_PAGE to its
collation or piece, and an untaken DIVERT nothing (R17, R23, R38, R73, R88, R90, R94, R157, R162). That a return acts on the
entry at its destination, and closes no window where there is none, is the model's reading (log entry 22). That a MISS acts by
the kind kept with the window, not by the frame's, is the model's choice (log entry 42). That a SHEET_ACTION with an action
above 7 counts as a DIVERT is its reading (log entry 43). -/
def Obligations.UntakenStationFramesAct : Prop :=
  (∀ (dst : Node) (kind : Byte) (payload : List Byte) (s : State),
    exec (.frameReturn dst true kind payload) s = .next s ∧
    (kind = 8 ∨ kind = 9 ∨ kind = 10 ∨ kind = 11 ∨ kind = 20 →
      exec (.frameReturn dst false kind payload) s = .next s)) ∧
  (∀ (dst : Node) (a b : Byte) (hold : Bool) (s : State),
    exec (.flowFrameUntaken dst hold) s = .next s ∧
    (∀ serial action q2 q1 q0 inc : Byte, exec (.frameReturn dst false 17 [serial, action, q2, q1, q0, inc]) s =
      exec (.sheetActionUntaken dst serial action (q2 ++ q1 ++ q0) inc) s) ∧
    exec (.frameReturn dst false 18 [a]) s = exec (.foldSetUntaken dst a) s ∧
    exec (.frameReturn dst false 19 [a]) s = exec (.feedPermitUntaken dst a) s ∧
    exec (.frameReturn dst false 21 [a, b]) s = exec (.feedCmdUntaken dst a b) s ∧
    exec (.frameReturn dst false 23 [a]) s = exec (.envCmdUntaken dst a) s ∧
    exec (.frameReturn dst false 25 [a]) s = exec (.scanArmUntaken dst a) s ∧
    exec (.frameReturn dst false 29 [a]) s = exec (.divertCmdUntaken dst a) s ∧
    exec (.frameReturn dst false 32 [a]) s = exec (.binSelectUntaken dst a) s ∧
    exec (.frameReturn dst false 34 [a]) s = exec (.bundleMarkUntaken dst a) s) ∧
  (∀ (dst : Node) (a b : Byte) (s : State), Returned s →
    exec (.foldSetUntaken dst a) s = .next (nodeAbsentAfter dst s) ∧
    exec (.feedPermitUntaken dst a) s = .next (nodeAbsentAfter dst s) ∧
    (stationOfNode dst.toNat s = none →
      exec (.feedCmdUntaken dst a b) s = .next s ∧ exec (.envCmdUntaken dst a) s = .next s ∧
      exec (.scanArmUntaken dst a) s = .next s) ∧
    ∀ i e, stationOfNode dst.toNat s = some (i, e) →
      (NothingAwaits feedWindows i a.toNat s → exec (.feedCmdUntaken dst a b) s = .next (absentAfter i e s)) ∧
      (NothingAwaits [.envelope] i a.toNat s → exec (.envCmdUntaken dst a) s = .next (absentAfter i e s)) ∧
      (NothingAwaits [.scan] i a.toNat s → exec (.scanArmUntaken dst a) s = .next (absentAfter i e s)) ∧
      ∀ n p w, Awaits n i a.toNat p w s →
        let q := { p with windows := p.windows.filter (fun x => x.station != i) }
        (w.kind = .feed .mandatory → exec (.feedCmdUntaken dst a b) s = .next
          (putSlot n (some { q with diverted := true, faults := addOnce .insertMiss p.faults }) (absentAfter i e s))) ∧
        (w.kind = .feed .optional → exec (.feedCmdUntaken dst a b) s = .next
          (putSlot n (some { q with missed := addOnce i p.missed, caliper := p.caliper - e.caliper })
            (absentAfter i e s))) ∧
        (w.kind = .envelope → exec (.envCmdUntaken dst a) s = .next
          (putSlot n (some { q with diverted := true, faults := addOnce .envelopeFault p.faults })
            (absentAfter i e s))) ∧
        (w.kind = .scan → p.job.matchRequired = true → exec (.scanArmUntaken dst a) s = .next
          (putSlot n (some { q with
            diverted := true, faults := addOnce .unverified p.faults, verification := .unverified })
            (absentAfter i e s))) ∧
        (w.kind = .scan → p.job.matchRequired = false → exec (.scanArmUntaken dst a) s = .next
          (putSlot n (some { q with verification := .unread }) (absentAfter i e s)))) ∧
  ∀ (dst : Node) (serial action : Byte) (seq : BitVec 24) (inc : Byte) (s : State), Returned s →
    let went := fun v => exec (.sheetActionUntaken dst serial action seq inc) s = .next v
    let t := nodeAbsentAfter dst s
    let isIt := fun r : JobRecord => r.seq = seq.toNat ∧ r.inc = inc.toNat
    let spoiled := fun c : Collation => { c with faults := addOnce .missingPage c.faults }
    (action ≠ 0 → went t) ∧
    (action = 0 →
      (∀ c, s.collation.collecting = .collecting c → isIt c.job →
        went { t with collation := { t.collation with collecting := .collecting (spoiled c) } }) ∧
      (∀ c, s.collation.collecting = .complete c → isIt c.job →
        went { t with collation := { t.collation with collecting := .complete (spoiled c) } }) ∧
      ((∀ c, s.collation.collecting = .collecting c ∨ s.collation.collecting = .complete c → ¬isIt c.job) →
        (∀ c, s.collation.staging = some c → isIt c.job →
          went { t with collation := { t.collation with staging := some (spoiled c) } }) ∧
        ((∀ c, s.collation.staging = some c → ¬isIt c.job) →
          (∀ n p, pieceAt n s = some p → isIt p.job →
            (∀ m < s.track.slots.length, ∀ q, pieceAt m s = some q → isIt q.job → m = n) →
            went (putSlot n (some { p with
              diverted := true, faults := addOnce .missingPage p.faults
              collationFaults := addOnce .missingPage p.collationFaults }) t)) ∧
          ((∀ n < s.track.slots.length, ∀ p, pieceAt n s = some p → ¬isIt p.job) → went t))))

/-- An untaken DIVERT_CMD sets the EXIT station ABSENT, raises SORTER with DIVERT_UNTAKEN and the piece's serial and asks for
a SORTER pause. An untaken BIN_SELECT sets the bin OFF, gives the flight with its tag up as LOST with its PIECE record, raises
SORTER with SELECT_UNTAKEN and the bin without a pause, closes a bundle left with nothing in flight, and completes a drain
whose work is finished. An untaken BUNDLE_MARK raises SORTER with MARK_UNTAKEN (R116, R120, R124, R126, R152, R162). That both
do nothing at a node that is no loaded bin's is the model's reading (log entry 15), and so is that SELECT_UNTAKEN is raised
for a BIN_SELECT whose flight is gone (log entry 45). The serial is kept in the model's own field, and is a free value for a
tag that no DIVERT_CMD carried (log entry 7). The group that a bundle is judged with where its bin has none is log entry 16.
-/
def Obligations.UntakenSorterFramesAct : Prop :=
  ∀ (dst : Node) (a : Byte) (s : State), Returned s →
    (∀ serial, s.track.divertSerials.find? (fun x => x % 256 == a.toNat) = some serial →
      exec (.divertCmdUntaken dst a) s =
        .next (requestStop .sorter (raiseAlert (.divertUntaken serial) (nodeAbsentAfter dst s)))) ∧
    (s.track.divertSerials.find? (fun x => x % 256 == a.toNat) = none → ∃ serial,
      exec (.divertCmdUntaken dst a) s = .next (requestStop .sorter
        (raiseAlert (.divertUntaken serial) (nodeAbsentAfter dst { s with freeIndex := s.freeIndex + 1 })))) ∧
    (binOfNode dst.toNat s = none →
      exec (.binSelectUntaken dst a) s = .next s ∧ exec (.bundleMarkUntaken dst a) s = .next s) ∧
    ∀ b, binOfNode dst.toNat s = some b →
      let x := binAt b s
      exec (.bundleMarkUntaken dst a) s = .next (raiseAlert (.markUntaken b) s) ∧
      ∀ lost left : List Flight,
        (lost = [] ∧ left = x.flights ∧ ∀ f ∈ x.flights, f.serial % 256 ≠ a.toNat) ∨
        (∃ before f rest, x.flights = before ++ f :: rest ∧ (∀ g ∈ before, g.serial % 256 ≠ a.toNat) ∧
          f.serial % 256 = a.toNat ∧ lost = [f] ∧ left = before ++ rest) →
        let now : Bin := { x with
          state := .off, flights := left, committed := x.committed - lost.length
          bundle := if left = [] then none else x.bundle
          trayBundles := x.trayBundles + if left = [] ∧ x.bundle ≠ none then 1 else 0 }
        let records : List LogBody := (lost.map fun f => .piece (f.logOf .lost b none)) ++
          if left = [] then closeRecord b .binOff x.bundle s else []
        ∃ t, exec (.binSelectUntaken dst a) s = .next t ∧
          alertOf .sorter t = alertOf .sorter (raiseAlert (.selectUntaken b) s) ∧
          AlertsKeptBut [.sorter, .reserve, .station, .run] s t ∧ StationsKept id (s.ring.own.length + 3 ≤ 32) s t ∧
          alertOf .run t = alertOf .run (if s.line.state = .draining ∧ recordsHeld t = t.queue.records.length
            then raiseAlert .drainComplete s else s) ∧
          t.line.counters =
            (if lost = [] then s.line.counters
             else { s.line.counters with lost := min 16777215 (s.line.counters.lost + 1) }) ∧
          (s.line.state ≠ .draining →
            binAt b t = now ∧ (∀ c, c ≠ b → binAt c t = binAt c s) ∧ LogTookAll records s t ∧
            KeepsAllBut (closeParts ++ [.counters]) s t) ∧
          (s.line.state = .draining →
            (recordsHeld t ≠ t.queue.records.length →
              t.line.state = .draining ∧ binAt b t = now ∧ LogTookAll records s t ∧ ∀ c, c ≠ b → binAt c t = binAt c s) ∧
            (recordsHeld t = t.queue.records.length →
              t.line.state = .closed ∧ t.line.reason = none ∧ t.line.drive = false ∧ t.line.permit = false ∧
              (∀ c, binAt c t = (if c = b then now else binAt c s).bundleClosed) ∧
              LogTookAll (records ++
                drainRecords (fun c => if c = b then now.bundle else (binAt c s).bundle) t.line.counters s) s t) ∧
            KeepsAllBut (stateParts ++ closeParts ++ [.counters]) s t)

/-! ### Tables (R42, R50, R61, R71, R78, R103, R104, R108, R110, R111, R166) -/

/-- LOAD PROFILE in IDLE and READY is judged whole by its range step and its in-use step, and a load that passes stores its
fields with their clamps, treats each stock's ring by what changed, resizes the empty slot queue, moves NB for a new P, and
makes the held-flag check when a mark changed; in every other state it is refused with STATE. Its fields stand in the 42 bytes
of the layout (R14, R24, R42, R50, R61, R144, R166, R170). That the in-use step compares the values as sent is the model's
reading (log entry 24). A refused request's frame goes on marked TAKEN (the model's reading, log entry 20). -/
def Obligations.ProfileLoadsWholeOrNotAtAll : Prop :=
  ∀ (h : Header) (tag : Byte) (items : List Byte) (s : State), Commanded h (tag :: 1 :: items) s →
    let refused := fun code => exec (.loadProfile h tag items) s = .next (answered h 2 (tag :: 1 :: items) tag code [] s)
    let stock := fun k : Nat => StockFields.mk (byteAt items k) (wordAt items (k + 1)) (byteAt items (k + 3)) (wordAt items (k + 4))
    (items.length ≠ 42 → readProfile items = none) ∧
    (items.length = 42 → readProfile items = some
      { stocks := [stock 0, stock 6, stock 12, stock 18], allowance := wordAt items 24, limit := wordAt items 26
        letterLimit := wordAt items 28, flatLimit := wordAt items 30, sheetLimit := byteAt items 32
        strayLimit := byteAt items 33, length := byteAt items 34, pulses := wordAt items 35, window := byteAt items 37
        high := byteAt items 38, low := byteAt items 39, reserve := wordAt items 40 }) ∧
    (s.line.state ≠ .idle → s.line.state ≠ .ready → refused .state) ∧
    (s.line.state = .idle ∨ s.line.state = .ready →
      (items.length ≠ 42 → refused .range) ∧
      ∀ p, readProfile items = some p →
        (¬ProfileSound p s → refused .range) ∧
        (ProfileSound p s → ProfileInUse p s → refused .inUse) ∧
        (ProfileSound p s → ¬ProfileInUse p s →
          let low := min (p.high - 1) p.low
          let marks := p.high ≠ s.queue.high ∨ low ≠ s.queue.low
          ∃ v, exec (.loadProfile h tag items) s = .next (answered h 2 (tag :: 1 :: items) tag .ok [] v) ∧
            (∀ i f, p.stocks[i]? = some f → stockAt i v = stockLoaded f (stockAt i s)) ∧
            v.caliper.allowance = min 2047 p.allowance ∧ v.caliper.limit = max 1 (min 32767 p.limit) ∧
            v.caliper.letterLimit = p.letterLimit ∧ v.caliper.flatLimit = max p.letterLimit p.flatLimit ∧
            v.collation.sheetLimit = p.sheetLimit ∧ v.collation.strayLimit = p.strayLimit ∧
            v.track.length = p.length ∧ v.track.pulses = p.pulses ∧
            v.track.slots = (if p.length = s.track.length then s.track.slots else List.replicate p.length none) ∧
            v.track.boundary =
              (if p.pulses = s.track.pulses then s.track.boundary else s.track.position + p.pulses) ∧
            v.sort.window = p.window ∧ v.queue.high = p.high ∧ v.queue.low = low ∧
            v.log.reserve = max 64 (min 4096 p.reserve) ∧
            v.channel.held =
              (if marks then
                if s.channel.held then decide (low < s.queue.records.length)
                else decide (p.high ≤ s.queue.records.length)
               else s.channel.held) ∧
            (OutputsFollowState s → OutputsFollowState v) ∧
            KeepsAllBut (permitParts ++ [.stocks, .allowance, .limit, .letterLimit, .flatLimit, .sheetLimit, .strayLimit,
              .length, .pulses, .slots, .boundary, .window, .high, .low, .reserve, .held]) s v))

/-- LOAD STATION in IDLE writes 1 to 8 items from a first position when the table that would result passes every check of R71,
and otherwise refuses the whole request with RANGE; in every other state it is refused with STATE. Each item is read from its
six bytes (R71, R170). That fields that do not apply to a kind are stored as 0 before the checks is the model's reading (log
entry 25). A refused request's frame goes on marked TAKEN (the model's reading, log entry 20). -/
def Obligations.StationLoadsKeepTheTableSound : Prop :=
  ∀ (h : Header) (tag : Byte) (items : List Byte) (s : State), Commanded h (tag :: 2 :: items) s →
    let refused := fun code => exec (.loadStation h tag items) s = .next (answered h 2 (tag :: 2 :: items) tag code [] s)
    (∀ first l, readStations items = some (first, l) ↔
      items.length = 2 + 6 * l.length ∧ byteAt items 0 = first ∧ byteAt items 1 = l.length ∧
        ∀ (j : Nat) x, l[j]? = some x → StationItemReads items (2 + 6 * j) x) ∧
    (s.line.state ≠ .idle → refused .state) ∧
    (s.line.state = .idle →
      (readStations items = none → refused .range) ∧
      ∀ first l, readStations items = some (first, l) →
        (∀ e ∈ l, ∀ x, e = some x → x.mode = .normal ∧ x.status = .unknown ∧ x.late = 0) ∧
        (l.length = 0 ∨ 8 < l.length ∨ 24 < first + l.length → refused .range) ∧
        (1 ≤ l.length → l.length ≤ 8 → first + l.length ≤ 24 →
          (¬StationsSound (stationsLoaded first l s) s → refused .range) ∧
          (StationsSound (stationsLoaded first l s) s → ∃ v,
            exec (.loadStation h tag items) s = .next (answered h 2 (tag :: 2 :: items) tag .ok [] v) ∧
            (∀ i, i < 24 → stationAt i v = stationsLoaded first l s i) ∧ KeepsAllBut [.stations] s v)))

/-- LOAD SCHEME writes its items in order at the offsets (o + j) mod 16 of its page, the last item written to an offset
staying, and touches no other page; with a count of pieces above zero on the page it is refused with IN_USE, with a field out
of range with RANGE, and in RUNNING and DRAINING with STATE. Its items are read from their bytes, each field in its range and
the key length clamped (R103, R104, R170). That unnamed bits are ignored is the model's reading (log entry 37), and so is that
an item marker other than 0 and 1 is refused with RANGE (log entry 43). A refused request's frame goes on marked TAKEN (the
model's reading, log entry 20). -/
def Obligations.SchemeLoadsWrapWithinThePage : Prop :=
  ∀ (h : Header) (tag : Byte) (items : List Byte) (s : State), Commanded h (tag :: 3 :: items) s →
    let refused := fun code => exec (.loadScheme h tag items) s = .next (answered h 2 (tag :: 3 :: items) tag code [] s)
    (∀ page start l, readScheme items = some (page, start, l) ↔
      page ≤ 31 ∧ start ≤ 15 ∧ 1 ≤ l.length ∧ l.length ≤ 32 ∧ ∃ chunks : List (List Byte),
        items = byteOf page :: byteOf start :: byteOf l.length :: chunks.flatten ∧ List.Forall₂ SchemeItemReads chunks l) ∧
    (s.line.state = .running ∨ s.line.state = .draining → refused .state) ∧
    (s.line.state ≠ .running → s.line.state ≠ .draining →
      (readScheme items = none → refused .range) ∧
      ∀ page start l, readScheme items = some (page, start, l) →
        page ≤ 31 ∧ start ≤ 15 ∧ 1 ≤ l.length ∧ l.length ≤ 32 ∧
        (0 < pageUseAt page s → refused .inUse) ∧
        (pageUseAt page s = 0 → ∃ v,
          exec (.loadScheme h tag items) s = .next (answered h 2 (tag :: 3 :: items) tag .ok [] v) ∧
          (∀ i, i < 512 → i / 16 ≠ page → schemeAt i v = schemeAt i s) ∧
          (∀ (j : Nat) e, l[j]? = some e →
            (∀ k, j < k → k < l.length → (start + k) % 16 ≠ (start + j) % 16) →
            schemeAt (16 * page + (start + j) % 16) v = e) ∧
          (∀ o, o < 16 → (∀ j, j < l.length → (start + j) % 16 ≠ o) →
            schemeAt (16 * page + o) v = schemeAt (16 * page + o) s) ∧
          KeepsAllBut [.scheme] s v))

/-- LOAD GROUP and LOAD BIN, in every state, write their entry whole when it passes the range step and nothing is in use, and
otherwise refuse with RANGE or IN_USE and write nothing, each read from the bytes of its layout (R108, R110, R170). That a
LOAD BIN refused for both is answered RANGE is the model's reading (log entry 44). A refused request's frame goes on marked
TAKEN (the model's reading, log entry 20). -/
def Obligations.GroupAndBinLoadsWriteWhole : Prop :=
  ∀ (h : Header) (tag : Byte) (items : List Byte) (s : State),
    (Commanded h (tag :: 4 :: items) s →
      let went := fun code v => exec (.loadGroup h tag items) s = .next (answered h 2 (tag :: 4 :: items) tag code [] v)
      (∀ f, readGroup items = some f ↔ ∃ (g target minimum demote : Byte) (bins : List Byte), bins.length ≤ 4 ∧
        items = g :: byteOf bins.length :: (bins ++ [target, minimum, demote]) ∧
        f = { group := g.toNat, chain := bins.map (·.toNat), target := target.toNat, minimum := minimum.toNat
              demote := demote.toNat }) ∧
      (readGroup items = none → went .range s) ∧
      ∀ f, readGroup items = some f →
        f.chain.length ≤ 4 ∧ (¬GroupLoadSound f s → went .range s) ∧
        (GroupLoadSound f s →
          let used := (groupAt f.group s).refs ≠ 0 ∨ (∃ b ∈ (groupAt f.group s).chain, BinInUse b s) ∨
            ∃ b ∈ f.chain, BinInUse b s
          (used → went .inUse s) ∧
          (¬used → went .ok (putGroup f.group
            { chain := f.chain, target := max 1 f.target, minimum := min (max 1 f.target) (max 1 f.minimum)
              demote := f.demote, refs := (groupAt f.group s).refs } s)))) ∧
    (Commanded h (tag :: 5 :: items) s →
      let went := fun code v => exec (.loadBin h tag items) s = .next (answered h 2 (tag :: 5 :: items) tag code [] v)
      (items.length ≠ 4 → went .range s) ∧
      ∀ b node c1 c0 : Byte, items = [b, node, c1, c0] →
        let capacity := c1.toNat * 256 + c0.toNat
        (¬BinLoadSound b.toNat node.toNat capacity s → went .range s) ∧
        (BinLoadSound b.toNat node.toNat capacity s →
          ((binAt b.toNat s).state ≠ .off ∨ BinInUse b.toNat s → went .inUse s) ∧
          ((binAt b.toNat s).state = .off → ¬BinInUse b.toNat s →
            went .ok (putBin b.toNat
              { binAt b.toNat s with node := some node.toNat, capacity := some capacity } s))))

/-- STATION_MODE sets one entry's operator mode, or with position 255 every entry's; BIN_MODE ON makes a loaded bin OPEN, or
FULL_WAIT at its capacity, and OFF makes it OFF and closes a bundle with nothing in flight, with its BUNDLE record; RELEARN
empties one stock's ring, or with 255 all four. Each is taken in every state, answers OK, and is refused with RANGE when it names
nothing it may, a BIN_MODE frame with another mode or length too (R44, R78, R111, R116, R139, R165, R170). A refused request's frame goes on marked TAKEN (the model's reading, log entry 20). -/
def Obligations.ModesAndRelearnAct : Prop :=
  (∀ (h : Header) (tag : Byte) (operands : List Byte) (s : State), Commanded h (tag :: 11 :: operands) s →
    operands.length ≠ 2 →
    exec (.stationMode h tag operands) s = .next (answered h 4 (tag :: 11 :: operands) tag .range [] s)) ∧
  (∀ (h : Header) (tag position m : Byte) (s : State), Commanded h [tag, 11, position, m] s →
    let went := fun code v => exec (.stationMode h tag [position, m]) s =
      .next (answered h 4 [tag, 11, position, m] tag code [] v)
    (m = 0 ∨ 4 < m.toNat → went .range s) ∧
    ∀ x, (m = 1 ∧ x = .normal) ∨ (m = 2 ∧ x = .force) ∨ (m = 3 ∧ x = .skip) ∨ (m = 4 ∧ x = .off) →
      (position = 255 → ∃ v, went .ok v ∧
        (∀ i, stationAt i v = (stationAt i s).map fun e => { e with mode := x }) ∧ KeepsAllBut [.stations] s v) ∧
      (∀ e, stationAt position.toNat s = some e →
        went .ok (putStation position.toNat (some { e with mode := x }) s)) ∧
      (position ≠ 255 → stationAt position.toNat s = none → went .range s)) ∧
  (∀ (h : Header) (tag bin : Byte) (s : State),
    let x := binAt bin.toNat s
    (Commanded h [tag, 12, bin, 1] s →
      let went := fun code v => exec (.binModeOn h tag bin) s = .next (answered h 4 [tag, 12, bin, 1] tag code [] v)
      (x.node = none → went .range s) ∧
      (x.node ≠ none → went .ok (putBin bin.toNat
        { x with state := if x.capacity = some x.committed then .fullWait else .open } s))) ∧
    (Commanded h [tag, 12, bin, 2] s →
      let went := fun code v => exec (.binModeOff h tag bin) s = .next (answered h 4 [tag, 12, bin, 2] tag code [] v)
      (x.node = none → went .range s) ∧
      (x.node ≠ none → x.flights ≠ [] ∨ x.bundle = none →
        went .ok (putBin bin.toNat { x with state := .off } s)) ∧
      (x.node ≠ none → x.flights = [] → x.bundle ≠ none → ∃ v, went .ok v ∧
        binAt bin.toNat v = { x with state := .off, bundle := none, trayBundles := x.trayBundles + 1 } ∧
        (∀ c, c ≠ bin.toNat → binAt c v = binAt c s) ∧
        (∀ u g, x.bundle = some u → groupOfBin bin.toNat s = some g → LogTook (.bundle
          { bin := bin.toNat, group := g, key := u.key, count := u.count
            level := if (groupAt g s).minimum ≤ u.count then u.level else (groupAt g s).demote
            cause := .binOff, entry := u.entry, first := u.first, last := u.last
            demoted := decide (u.count < (groupAt g s).minimum), continued := u.continued }) s v) ∧
        StationsKept id (s.ring.own.length < 32) s v ∧ AlertsKeptBut [.reserve, .station] s v ∧
        KeepsAllBut closeParts s v))) ∧
  (∀ (h : Header) (tag : Byte) (operands : List Byte) (s : State), Commanded h (tag :: 12 :: operands) s →
    operands.length ≠ 2 ∨ (∃ bin m, operands = [bin, m] ∧ m ≠ 1 ∧ m ≠ 2) →
    exec (.forwardFrame { header := h, kind := 4, payload := tag :: 12 :: operands }) s =
      .next (answered h 4 (tag :: 12 :: operands) tag .range [] s)) ∧
  ∀ (h : Header) (tag : Byte) (operands : List Byte) (s : State), Commanded h (tag :: 13 :: operands) s →
    let went := fun code v => exec (.relearn h tag operands) s =
      .next (answered h 4 (tag :: 13 :: operands) tag code [] v)
    (operands.length ≠ 1 → went .range s) ∧
    ∀ i, operands = [i] →
      (3 < i.toNat → i ≠ 255 → went .range s) ∧
      (i.toNat ≤ 3 → went .ok (putStock i.toNat { stockAt i.toNat s with ring := [] } s)) ∧
      (i = 255 → ∃ v, went .ok v ∧ (∀ k, k < 4 → stockAt k v = { stockAt k s with ring := [] }) ∧
        KeepsAllBut [.stocks] s v)

/-! ### Invariants -/

/-- Every step keeps the feed permit on exactly while its conditions hold, and DRIVE_RUN on exactly in RUNNING and DRAINING.
Each re-evaluation of the permit that changes it sends FEED_PERMIT with the new value to the SHEET_FEEDER entry if there is
one, which a full own-frame queue sets ABSENT; one that does not change it does nothing (R73, R157, R158, R163). -/
def Obligations.OutputsFollowStateKept : Prop :=
  (∀ s t : State, OutputsFollowState s → step s = .next t → OutputsFollowState t) ∧
  ∀ s : State,
    let v := { s with line := { s.line with permit := permitConditions s } }
    (permitConditions s = true ↔ s.line.state = .running ∧ s.line.ending = false ∧ s.queue.records ≠ [] ∧
      s.track.length + 2 ≤ 256 - s.reprints.length ∧ s.log.reserve ≤ 8192 - logUsed s) ∧
    (permitConditions s = s.line.permit → evalPermit s = s) ∧
    (permitConditions s ≠ s.line.permit →
      (stationOfKind .sheetFeeder s = none → evalPermit s = v) ∧
      ∀ i e, stationOfKind .sheetFeeder s = some (i, e) →
        (s.ring.own.length < 32 → evalPermit s = pushOwn e.dst (.feedPermit (permitConditions s)) v) ∧
        (32 ≤ s.ring.own.length → evalPermit s = nodeAbsentAfter e.dst v))

/-- Every step keeps the queues, the Reprint List and the log within their capacities, and keeps the serials of the log's
records consecutive up to the log serial (R8, R127, R136, R141, R143, R163). -/
def Obligations.QueuesAndLogKept : Prop :=
  (∀ s t : State, WithinCapacity s → step s = .next t → WithinCapacity t) ∧
  ∀ s t : State, LogSerialsConsecutive s → step s = .next t → LogSerialsConsecutive t

/-- Every step keeps, for every bin, the committed count equal to the landed count plus the pieces in flight and at most the
capacity, and at most 8 pieces in flight (R109). -/
def Obligations.BinCountsKept : Prop :=
  ∀ s t : State, BinsSound s → step s = .next t → BinsSound t

/-- On a sound track, every step keeps the run's bookkeeping, with the accepted count equal to the records on the line plus
the nine dispositions in an open run; keeps every page's and group's count equal to the number of pieces on the track that it
stands for; and keeps the discipline of the sequences: the non-reprint records of the queue in rising order, no sequence twice
on the line or in the Reprint List, the QUEUED entries those of the reprint records in the queue, and free reprint entries for
everything in flight (R5, R8, R18, R27, R102, R107, R127, R134, R146). -/
def Obligations.RecordsAreConserved : Prop :=
  ∀ s t : State, TrackSound s → RunAccounted s → step s = .next t →
    RunAccounted t ∧ (MatchCountsExact s → MatchCountsExact t) ∧ (SequencesSound s → SequencesSound t)

/-- Every step keeps the track as its profile says with EP below NB, the stocks' profiles and rings in their ranges, the
groups' chains apart, and every node address to one station or bin (R48, R59, R60, R61, R63, R71, R107, R108, R110). -/
def Obligations.TablesStaySound : Prop :=
  (∀ s t : State, TrackSound s → step s = .next t → TrackSound t) ∧
  (∀ s t : State, StocksSound s → step s = .next t → StocksSound t) ∧
  (∀ s t : State, GroupsSound s → step s = .next t → GroupsSound t) ∧
  (∀ s t : State, NodesDistinct s → step s = .next t → NodesDistinct t)

/-- The state after reset meets every invariant above. -/
def Obligations.ResetMeetsTheInvariants : Prop :=
  OutputsFollowState State.reset ∧ WithinCapacity State.reset ∧ LogSerialsConsecutive State.reset ∧
    BinsSound State.reset ∧ TrackSound State.reset ∧ RunAccounted State.reset ∧ MatchCountsExact State.reset ∧
    SequencesSound State.reset ∧
    StocksSound State.reset ∧ GroupsSound State.reset ∧ NodesDistinct State.reset
end

