-- ==== Sys2Proof/Laws/State.lean ====
section
/-! SUPPORT. One lemma for each field and each update of State, so that no proof unfolds a record update. -/

namespace Sys2Proof.Machine

@[simp] theorem State.setRing_resetHigh (s : State) (x : RingPort) : (s.setRing x).resetHigh = s.resetHigh := rfl
@[simp] theorem State.setRing_supervisor (s : State) (x : RingPort) : (s.setRing x).supervisor = s.supervisor := rfl
@[simp] theorem State.setRing_ring (s : State) (x : RingPort) : (s.setRing x).ring = x := rfl
@[simp] theorem State.setRing_channel (s : State) (x : RingPort) : (s.setRing x).channel = s.channel := rfl
@[simp] theorem State.setRing_queue (s : State) (x : RingPort) : (s.setRing x).queue = s.queue := rfl
@[simp] theorem State.setRing_collation (s : State) (x : RingPort) : (s.setRing x).collation = s.collation := rfl
@[simp] theorem State.setRing_caliper (s : State) (x : RingPort) : (s.setRing x).caliper = s.caliper := rfl
@[simp] theorem State.setRing_track (s : State) (x : RingPort) : (s.setRing x).track = s.track := rfl
@[simp] theorem State.setRing_sort (s : State) (x : RingPort) : (s.setRing x).sort = s.sort := rfl
@[simp] theorem State.setRing_reprints (s : State) (x : RingPort) : (s.setRing x).reprints = s.reprints := rfl
@[simp] theorem State.setRing_log (s : State) (x : RingPort) : (s.setRing x).log = s.log := rfl
@[simp] theorem State.setRing_line (s : State) (x : RingPort) : (s.setRing x).line = s.line := rfl
@[simp] theorem State.setRing_freeIndex (s : State) (x : RingPort) : (s.setRing x).freeIndex = s.freeIndex := rfl
@[simp] theorem State.setRing_pending (s : State) (x : RingPort) : (s.setRing x).pending = s.pending := rfl
@[simp] theorem State.setChannel_resetHigh (s : State) (x : Channel) : (s.setChannel x).resetHigh = s.resetHigh := rfl
@[simp] theorem State.setChannel_supervisor (s : State) (x : Channel) : (s.setChannel x).supervisor = s.supervisor := rfl
@[simp] theorem State.setChannel_ring (s : State) (x : Channel) : (s.setChannel x).ring = s.ring := rfl
@[simp] theorem State.setChannel_channel (s : State) (x : Channel) : (s.setChannel x).channel = x := rfl
@[simp] theorem State.setChannel_queue (s : State) (x : Channel) : (s.setChannel x).queue = s.queue := rfl
@[simp] theorem State.setChannel_collation (s : State) (x : Channel) : (s.setChannel x).collation = s.collation := rfl
@[simp] theorem State.setChannel_caliper (s : State) (x : Channel) : (s.setChannel x).caliper = s.caliper := rfl
@[simp] theorem State.setChannel_track (s : State) (x : Channel) : (s.setChannel x).track = s.track := rfl
@[simp] theorem State.setChannel_sort (s : State) (x : Channel) : (s.setChannel x).sort = s.sort := rfl
@[simp] theorem State.setChannel_reprints (s : State) (x : Channel) : (s.setChannel x).reprints = s.reprints := rfl
@[simp] theorem State.setChannel_log (s : State) (x : Channel) : (s.setChannel x).log = s.log := rfl
@[simp] theorem State.setChannel_line (s : State) (x : Channel) : (s.setChannel x).line = s.line := rfl
@[simp] theorem State.setChannel_freeIndex (s : State) (x : Channel) : (s.setChannel x).freeIndex = s.freeIndex := rfl
@[simp] theorem State.setChannel_pending (s : State) (x : Channel) : (s.setChannel x).pending = s.pending := rfl
@[simp] theorem State.setQueue_resetHigh (s : State) (x : RecordQueue) : (s.setQueue x).resetHigh = s.resetHigh := rfl
@[simp] theorem State.setQueue_supervisor (s : State) (x : RecordQueue) : (s.setQueue x).supervisor = s.supervisor := rfl
@[simp] theorem State.setQueue_ring (s : State) (x : RecordQueue) : (s.setQueue x).ring = s.ring := rfl
@[simp] theorem State.setQueue_channel (s : State) (x : RecordQueue) : (s.setQueue x).channel = s.channel := rfl
@[simp] theorem State.setQueue_queue (s : State) (x : RecordQueue) : (s.setQueue x).queue = x := rfl
@[simp] theorem State.setQueue_collation (s : State) (x : RecordQueue) : (s.setQueue x).collation = s.collation := rfl
@[simp] theorem State.setQueue_caliper (s : State) (x : RecordQueue) : (s.setQueue x).caliper = s.caliper := rfl
@[simp] theorem State.setQueue_track (s : State) (x : RecordQueue) : (s.setQueue x).track = s.track := rfl
@[simp] theorem State.setQueue_sort (s : State) (x : RecordQueue) : (s.setQueue x).sort = s.sort := rfl
@[simp] theorem State.setQueue_reprints (s : State) (x : RecordQueue) : (s.setQueue x).reprints = s.reprints := rfl
@[simp] theorem State.setQueue_log (s : State) (x : RecordQueue) : (s.setQueue x).log = s.log := rfl
@[simp] theorem State.setQueue_line (s : State) (x : RecordQueue) : (s.setQueue x).line = s.line := rfl
@[simp] theorem State.setQueue_freeIndex (s : State) (x : RecordQueue) : (s.setQueue x).freeIndex = s.freeIndex := rfl
@[simp] theorem State.setQueue_pending (s : State) (x : RecordQueue) : (s.setQueue x).pending = s.pending := rfl
@[simp] theorem State.setCollation_resetHigh (s : State) (x : CollationUnit) : (s.setCollation x).resetHigh = s.resetHigh := rfl
@[simp] theorem State.setCollation_supervisor (s : State) (x : CollationUnit) : (s.setCollation x).supervisor = s.supervisor := rfl
@[simp] theorem State.setCollation_ring (s : State) (x : CollationUnit) : (s.setCollation x).ring = s.ring := rfl
@[simp] theorem State.setCollation_channel (s : State) (x : CollationUnit) : (s.setCollation x).channel = s.channel := rfl
@[simp] theorem State.setCollation_queue (s : State) (x : CollationUnit) : (s.setCollation x).queue = s.queue := rfl
@[simp] theorem State.setCollation_collation (s : State) (x : CollationUnit) : (s.setCollation x).collation = x := rfl
@[simp] theorem State.setCollation_caliper (s : State) (x : CollationUnit) : (s.setCollation x).caliper = s.caliper := rfl
@[simp] theorem State.setCollation_track (s : State) (x : CollationUnit) : (s.setCollation x).track = s.track := rfl
@[simp] theorem State.setCollation_sort (s : State) (x : CollationUnit) : (s.setCollation x).sort = s.sort := rfl
@[simp] theorem State.setCollation_reprints (s : State) (x : CollationUnit) : (s.setCollation x).reprints = s.reprints := rfl
@[simp] theorem State.setCollation_log (s : State) (x : CollationUnit) : (s.setCollation x).log = s.log := rfl
@[simp] theorem State.setCollation_line (s : State) (x : CollationUnit) : (s.setCollation x).line = s.line := rfl
@[simp] theorem State.setCollation_freeIndex (s : State) (x : CollationUnit) : (s.setCollation x).freeIndex = s.freeIndex := rfl
@[simp] theorem State.setCollation_pending (s : State) (x : CollationUnit) : (s.setCollation x).pending = s.pending := rfl
@[simp] theorem State.setCaliper_resetHigh (s : State) (x : CaliperUnit) : (s.setCaliper x).resetHigh = s.resetHigh := rfl
@[simp] theorem State.setCaliper_supervisor (s : State) (x : CaliperUnit) : (s.setCaliper x).supervisor = s.supervisor := rfl
@[simp] theorem State.setCaliper_ring (s : State) (x : CaliperUnit) : (s.setCaliper x).ring = s.ring := rfl
@[simp] theorem State.setCaliper_channel (s : State) (x : CaliperUnit) : (s.setCaliper x).channel = s.channel := rfl
@[simp] theorem State.setCaliper_queue (s : State) (x : CaliperUnit) : (s.setCaliper x).queue = s.queue := rfl
@[simp] theorem State.setCaliper_collation (s : State) (x : CaliperUnit) : (s.setCaliper x).collation = s.collation := rfl
@[simp] theorem State.setCaliper_caliper (s : State) (x : CaliperUnit) : (s.setCaliper x).caliper = x := rfl
@[simp] theorem State.setCaliper_track (s : State) (x : CaliperUnit) : (s.setCaliper x).track = s.track := rfl
@[simp] theorem State.setCaliper_sort (s : State) (x : CaliperUnit) : (s.setCaliper x).sort = s.sort := rfl
@[simp] theorem State.setCaliper_reprints (s : State) (x : CaliperUnit) : (s.setCaliper x).reprints = s.reprints := rfl
@[simp] theorem State.setCaliper_log (s : State) (x : CaliperUnit) : (s.setCaliper x).log = s.log := rfl
@[simp] theorem State.setCaliper_line (s : State) (x : CaliperUnit) : (s.setCaliper x).line = s.line := rfl
@[simp] theorem State.setCaliper_freeIndex (s : State) (x : CaliperUnit) : (s.setCaliper x).freeIndex = s.freeIndex := rfl
@[simp] theorem State.setCaliper_pending (s : State) (x : CaliperUnit) : (s.setCaliper x).pending = s.pending := rfl
@[simp] theorem State.setTrack_resetHigh (s : State) (x : TrackUnit) : (s.setTrack x).resetHigh = s.resetHigh := rfl
@[simp] theorem State.setTrack_supervisor (s : State) (x : TrackUnit) : (s.setTrack x).supervisor = s.supervisor := rfl
@[simp] theorem State.setTrack_ring (s : State) (x : TrackUnit) : (s.setTrack x).ring = s.ring := rfl
@[simp] theorem State.setTrack_channel (s : State) (x : TrackUnit) : (s.setTrack x).channel = s.channel := rfl
@[simp] theorem State.setTrack_queue (s : State) (x : TrackUnit) : (s.setTrack x).queue = s.queue := rfl
@[simp] theorem State.setTrack_collation (s : State) (x : TrackUnit) : (s.setTrack x).collation = s.collation := rfl
@[simp] theorem State.setTrack_caliper (s : State) (x : TrackUnit) : (s.setTrack x).caliper = s.caliper := rfl
@[simp] theorem State.setTrack_track (s : State) (x : TrackUnit) : (s.setTrack x).track = x := rfl
@[simp] theorem State.setTrack_sort (s : State) (x : TrackUnit) : (s.setTrack x).sort = s.sort := rfl
@[simp] theorem State.setTrack_reprints (s : State) (x : TrackUnit) : (s.setTrack x).reprints = s.reprints := rfl
@[simp] theorem State.setTrack_log (s : State) (x : TrackUnit) : (s.setTrack x).log = s.log := rfl
@[simp] theorem State.setTrack_line (s : State) (x : TrackUnit) : (s.setTrack x).line = s.line := rfl
@[simp] theorem State.setTrack_freeIndex (s : State) (x : TrackUnit) : (s.setTrack x).freeIndex = s.freeIndex := rfl
@[simp] theorem State.setTrack_pending (s : State) (x : TrackUnit) : (s.setTrack x).pending = s.pending := rfl
@[simp] theorem State.setSort_resetHigh (s : State) (x : SortUnit) : (s.setSort x).resetHigh = s.resetHigh := rfl
@[simp] theorem State.setSort_supervisor (s : State) (x : SortUnit) : (s.setSort x).supervisor = s.supervisor := rfl
@[simp] theorem State.setSort_ring (s : State) (x : SortUnit) : (s.setSort x).ring = s.ring := rfl
@[simp] theorem State.setSort_channel (s : State) (x : SortUnit) : (s.setSort x).channel = s.channel := rfl
@[simp] theorem State.setSort_queue (s : State) (x : SortUnit) : (s.setSort x).queue = s.queue := rfl
@[simp] theorem State.setSort_collation (s : State) (x : SortUnit) : (s.setSort x).collation = s.collation := rfl
@[simp] theorem State.setSort_caliper (s : State) (x : SortUnit) : (s.setSort x).caliper = s.caliper := rfl
@[simp] theorem State.setSort_track (s : State) (x : SortUnit) : (s.setSort x).track = s.track := rfl
@[simp] theorem State.setSort_sort (s : State) (x : SortUnit) : (s.setSort x).sort = x := rfl
@[simp] theorem State.setSort_reprints (s : State) (x : SortUnit) : (s.setSort x).reprints = s.reprints := rfl
@[simp] theorem State.setSort_log (s : State) (x : SortUnit) : (s.setSort x).log = s.log := rfl
@[simp] theorem State.setSort_line (s : State) (x : SortUnit) : (s.setSort x).line = s.line := rfl
@[simp] theorem State.setSort_freeIndex (s : State) (x : SortUnit) : (s.setSort x).freeIndex = s.freeIndex := rfl
@[simp] theorem State.setSort_pending (s : State) (x : SortUnit) : (s.setSort x).pending = s.pending := rfl
@[simp] theorem State.setReprints_resetHigh (s : State) (x : List ReprintEntry) : (s.setReprints x).resetHigh = s.resetHigh := rfl
@[simp] theorem State.setReprints_supervisor (s : State) (x : List ReprintEntry) : (s.setReprints x).supervisor = s.supervisor := rfl
@[simp] theorem State.setReprints_ring (s : State) (x : List ReprintEntry) : (s.setReprints x).ring = s.ring := rfl
@[simp] theorem State.setReprints_channel (s : State) (x : List ReprintEntry) : (s.setReprints x).channel = s.channel := rfl
@[simp] theorem State.setReprints_queue (s : State) (x : List ReprintEntry) : (s.setReprints x).queue = s.queue := rfl
@[simp] theorem State.setReprints_collation (s : State) (x : List ReprintEntry) : (s.setReprints x).collation = s.collation := rfl
@[simp] theorem State.setReprints_caliper (s : State) (x : List ReprintEntry) : (s.setReprints x).caliper = s.caliper := rfl
@[simp] theorem State.setReprints_track (s : State) (x : List ReprintEntry) : (s.setReprints x).track = s.track := rfl
@[simp] theorem State.setReprints_sort (s : State) (x : List ReprintEntry) : (s.setReprints x).sort = s.sort := rfl
@[simp] theorem State.setReprints_reprints (s : State) (x : List ReprintEntry) : (s.setReprints x).reprints = x := rfl
@[simp] theorem State.setReprints_log (s : State) (x : List ReprintEntry) : (s.setReprints x).log = s.log := rfl
@[simp] theorem State.setReprints_line (s : State) (x : List ReprintEntry) : (s.setReprints x).line = s.line := rfl
@[simp] theorem State.setReprints_freeIndex (s : State) (x : List ReprintEntry) : (s.setReprints x).freeIndex = s.freeIndex := rfl
@[simp] theorem State.setReprints_pending (s : State) (x : List ReprintEntry) : (s.setReprints x).pending = s.pending := rfl
@[simp] theorem State.setLog_resetHigh (s : State) (x : AuditLog) : (s.setLog x).resetHigh = s.resetHigh := rfl
@[simp] theorem State.setLog_supervisor (s : State) (x : AuditLog) : (s.setLog x).supervisor = s.supervisor := rfl
@[simp] theorem State.setLog_ring (s : State) (x : AuditLog) : (s.setLog x).ring = s.ring := rfl
@[simp] theorem State.setLog_channel (s : State) (x : AuditLog) : (s.setLog x).channel = s.channel := rfl
@[simp] theorem State.setLog_queue (s : State) (x : AuditLog) : (s.setLog x).queue = s.queue := rfl
@[simp] theorem State.setLog_collation (s : State) (x : AuditLog) : (s.setLog x).collation = s.collation := rfl
@[simp] theorem State.setLog_caliper (s : State) (x : AuditLog) : (s.setLog x).caliper = s.caliper := rfl
@[simp] theorem State.setLog_track (s : State) (x : AuditLog) : (s.setLog x).track = s.track := rfl
@[simp] theorem State.setLog_sort (s : State) (x : AuditLog) : (s.setLog x).sort = s.sort := rfl
@[simp] theorem State.setLog_reprints (s : State) (x : AuditLog) : (s.setLog x).reprints = s.reprints := rfl
@[simp] theorem State.setLog_log (s : State) (x : AuditLog) : (s.setLog x).log = x := rfl
@[simp] theorem State.setLog_line (s : State) (x : AuditLog) : (s.setLog x).line = s.line := rfl
@[simp] theorem State.setLog_freeIndex (s : State) (x : AuditLog) : (s.setLog x).freeIndex = s.freeIndex := rfl
@[simp] theorem State.setLog_pending (s : State) (x : AuditLog) : (s.setLog x).pending = s.pending := rfl
@[simp] theorem State.setLine_resetHigh (s : State) (x : LineControl) : (s.setLine x).resetHigh = s.resetHigh := rfl
@[simp] theorem State.setLine_supervisor (s : State) (x : LineControl) : (s.setLine x).supervisor = s.supervisor := rfl
@[simp] theorem State.setLine_ring (s : State) (x : LineControl) : (s.setLine x).ring = s.ring := rfl
@[simp] theorem State.setLine_channel (s : State) (x : LineControl) : (s.setLine x).channel = s.channel := rfl
@[simp] theorem State.setLine_queue (s : State) (x : LineControl) : (s.setLine x).queue = s.queue := rfl
@[simp] theorem State.setLine_collation (s : State) (x : LineControl) : (s.setLine x).collation = s.collation := rfl
@[simp] theorem State.setLine_caliper (s : State) (x : LineControl) : (s.setLine x).caliper = s.caliper := rfl
@[simp] theorem State.setLine_track (s : State) (x : LineControl) : (s.setLine x).track = s.track := rfl
@[simp] theorem State.setLine_sort (s : State) (x : LineControl) : (s.setLine x).sort = s.sort := rfl
@[simp] theorem State.setLine_reprints (s : State) (x : LineControl) : (s.setLine x).reprints = s.reprints := rfl
@[simp] theorem State.setLine_log (s : State) (x : LineControl) : (s.setLine x).log = s.log := rfl
@[simp] theorem State.setLine_line (s : State) (x : LineControl) : (s.setLine x).line = x := rfl
@[simp] theorem State.setLine_freeIndex (s : State) (x : LineControl) : (s.setLine x).freeIndex = s.freeIndex := rfl
@[simp] theorem State.setLine_pending (s : State) (x : LineControl) : (s.setLine x).pending = s.pending := rfl
@[simp] theorem State.setFree_resetHigh (s : State) (x : Nat) : (s.setFree x).resetHigh = s.resetHigh := rfl
@[simp] theorem State.setFree_supervisor (s : State) (x : Nat) : (s.setFree x).supervisor = s.supervisor := rfl
@[simp] theorem State.setFree_ring (s : State) (x : Nat) : (s.setFree x).ring = s.ring := rfl
@[simp] theorem State.setFree_channel (s : State) (x : Nat) : (s.setFree x).channel = s.channel := rfl
@[simp] theorem State.setFree_queue (s : State) (x : Nat) : (s.setFree x).queue = s.queue := rfl
@[simp] theorem State.setFree_collation (s : State) (x : Nat) : (s.setFree x).collation = s.collation := rfl
@[simp] theorem State.setFree_caliper (s : State) (x : Nat) : (s.setFree x).caliper = s.caliper := rfl
@[simp] theorem State.setFree_track (s : State) (x : Nat) : (s.setFree x).track = s.track := rfl
@[simp] theorem State.setFree_sort (s : State) (x : Nat) : (s.setFree x).sort = s.sort := rfl
@[simp] theorem State.setFree_reprints (s : State) (x : Nat) : (s.setFree x).reprints = s.reprints := rfl
@[simp] theorem State.setFree_log (s : State) (x : Nat) : (s.setFree x).log = s.log := rfl
@[simp] theorem State.setFree_line (s : State) (x : Nat) : (s.setFree x).line = s.line := rfl
@[simp] theorem State.setFree_freeIndex (s : State) (x : Nat) : (s.setFree x).freeIndex = x := rfl
@[simp] theorem State.setFree_pending (s : State) (x : Nat) : (s.setFree x).pending = s.pending := rfl
@[simp] theorem State.setPending_resetHigh (s : State) (l : List Instr) : (s.setPending l).resetHigh = s.resetHigh := rfl
@[simp] theorem State.setPending_supervisor (s : State) (l : List Instr) : (s.setPending l).supervisor = s.supervisor := rfl
@[simp] theorem State.setPending_ring (s : State) (l : List Instr) : (s.setPending l).ring = s.ring := rfl
@[simp] theorem State.setPending_channel (s : State) (l : List Instr) : (s.setPending l).channel = s.channel := rfl
@[simp] theorem State.setPending_queue (s : State) (l : List Instr) : (s.setPending l).queue = s.queue := rfl
@[simp] theorem State.setPending_collation (s : State) (l : List Instr) : (s.setPending l).collation = s.collation := rfl
@[simp] theorem State.setPending_caliper (s : State) (l : List Instr) : (s.setPending l).caliper = s.caliper := rfl
@[simp] theorem State.setPending_track (s : State) (l : List Instr) : (s.setPending l).track = s.track := rfl
@[simp] theorem State.setPending_sort (s : State) (l : List Instr) : (s.setPending l).sort = s.sort := rfl
@[simp] theorem State.setPending_reprints (s : State) (l : List Instr) : (s.setPending l).reprints = s.reprints := rfl
@[simp] theorem State.setPending_log (s : State) (l : List Instr) : (s.setPending l).log = s.log := rfl
@[simp] theorem State.setPending_line (s : State) (l : List Instr) : (s.setPending l).line = s.line := rfl
@[simp] theorem State.setPending_freeIndex (s : State) (l : List Instr) : (s.setPending l).freeIndex = s.freeIndex := rfl
@[simp] theorem State.setPending_pending (s : State) (l : List Instr) : (s.setPending l).pending = l := rfl

end Sys2Proof.Machine
end

