-- ==== Sys2Proof/Laws/Frames.lean ====
section
/-! SUPPORT. Frames of the shared operations: for each operation one lemma that lists the parts of State it can touch, in the
form in which the lemmas chain: what was kept up to the operation is kept after it. -/

namespace Sys2Proof.Machine

/-- Nothing has changed yet. -/
theorem KeepsAllBut.start (l : List Part) (s : State) : KeepsAllBut l s s := by
  intro p _; cases p <;> rfl

/-- More parts may be listed. -/
theorem KeepsAllBut.more {l m : List Part} {s t : State} (hl : l ⊆ m) (h : KeepsAllBut l s t) : KeepsAllBut m s t :=
  fun p hp => h p (fun hm => hp (hl hm))

/-- Two steps one after the other. -/
theorem KeepsAllBut.trans {l : List Part} {s t u : State} (h : KeepsAllBut l s t) (k : KeepsAllBut l t u) :
    KeepsAllBut l s u := by
  intro p hp
  have a := h p hp
  have b := k p hp
  cases p <;> exact b.trans a

/-- A step with its own footprint, inside a larger one. -/
theorem KeepsAllBut.step {f l : List Part} {s t u : State} (hl : f ⊆ l) (h : KeepsAllBut l s t) (k : KeepsAllBut f t u) :
    KeepsAllBut l s u := h.trans (k.more hl)

/-- A fold of steps. -/
theorem KeepsAllBut.fold {α : Type} {l : List Part} {s : State} {f : State → α → State}
    (hf : ∀ t a, KeepsAllBut l s t → KeepsAllBut l s (f t a)) :
    ∀ (xs : List α) {t : State}, KeepsAllBut l s t → KeepsAllBut l s (xs.foldl f t)
  | [], _, h => h
  | a :: xs, _, h => KeepsAllBut.fold hf xs (hf _ a h)

theorem State.setRing_keeps {f l : List Part} (hl : f ⊆ l) {s t : State} (h : KeepsAllBut l s t) (x : RingPort)
    (k : KeepsAllBut f t (t.setRing x)) : KeepsAllBut l s (t.setRing x) := h.step hl k

theorem State.setChannel_keeps {f l : List Part} (hl : f ⊆ l) {s t : State} (h : KeepsAllBut l s t) (x : Channel)
    (k : KeepsAllBut f t (t.setChannel x)) : KeepsAllBut l s (t.setChannel x) := h.step hl k

theorem State.setQueue_keeps {f l : List Part} (hl : f ⊆ l) {s t : State} (h : KeepsAllBut l s t) (x : RecordQueue)
    (k : KeepsAllBut f t (t.setQueue x)) : KeepsAllBut l s (t.setQueue x) := h.step hl k

theorem State.setCollation_keeps {f l : List Part} (hl : f ⊆ l) {s t : State} (h : KeepsAllBut l s t) (x : CollationUnit)
    (k : KeepsAllBut f t (t.setCollation x)) : KeepsAllBut l s (t.setCollation x) := h.step hl k

theorem State.setCaliper_keeps {f l : List Part} (hl : f ⊆ l) {s t : State} (h : KeepsAllBut l s t) (x : CaliperUnit)
    (k : KeepsAllBut f t (t.setCaliper x)) : KeepsAllBut l s (t.setCaliper x) := h.step hl k

theorem State.setTrack_keeps {f l : List Part} (hl : f ⊆ l) {s t : State} (h : KeepsAllBut l s t) (x : TrackUnit)
    (k : KeepsAllBut f t (t.setTrack x)) : KeepsAllBut l s (t.setTrack x) := h.step hl k

theorem State.setSort_keeps {f l : List Part} (hl : f ⊆ l) {s t : State} (h : KeepsAllBut l s t) (x : SortUnit)
    (k : KeepsAllBut f t (t.setSort x)) : KeepsAllBut l s (t.setSort x) := h.step hl k

theorem State.setReprints_keeps {f l : List Part} (hl : f ⊆ l) {s t : State} (h : KeepsAllBut l s t) (x : List ReprintEntry)
    (k : KeepsAllBut f t (t.setReprints x)) : KeepsAllBut l s (t.setReprints x) := h.step hl k

theorem State.setLog_keeps {f l : List Part} (hl : f ⊆ l) {s t : State} (h : KeepsAllBut l s t) (x : AuditLog)
    (k : KeepsAllBut f t (t.setLog x)) : KeepsAllBut l s (t.setLog x) := h.step hl k

theorem State.setLine_keeps {f l : List Part} (hl : f ⊆ l) {s t : State} (h : KeepsAllBut l s t) (x : LineControl)
    (k : KeepsAllBut f t (t.setLine x)) : KeepsAllBut l s (t.setLine x) := h.step hl k

theorem State.setFree_keeps {f l : List Part} (hl : f ⊆ l) {s t : State} (h : KeepsAllBut l s t) (x : Nat)
    (k : KeepsAllBut f t (t.setFree x)) : KeepsAllBut l s (t.setFree x) := h.step hl k

theorem pushOwn_keeps {l : List Part} (hl : [.own] ⊆ l) {s t : State} (h : KeepsAllBut l s t)
    (dst : Node) (body : OwnBody) :
    KeepsAllBut l s (pushOwn dst body t) := by
  unfold pushOwn
  all_goals repeat' first
    | with_reducible exact h
    | ((with_reducible refine State.setRing_keeps hl ?_ _ ?hk); case hk => intro p hp; cases p <;> first | rfl | exact absurd (by decide) hp)

theorem sendPlain_keeps {l : List Part} (hl : [.own] ⊆ l) {s t : State} (h : KeepsAllBut l s t)
    (dst : Node) (body : OwnBody) :
    KeepsAllBut l s (sendPlain dst body t) := by
  unfold sendPlain
  all_goals repeat' split
  all_goals repeat' first
    | with_reducible exact h
    | ((with_reducible refine pushOwn_keeps ?hs ?_ _ _); case hs => exact List.Subset.trans (by decide) hl)

theorem sendSupervisor_keeps {l : List Part} (hl : [.own] ⊆ l) {s t : State} (h : KeepsAllBut l s t)
    (body : OwnBody) :
    KeepsAllBut l s (sendSupervisor body t) := by
  unfold sendSupervisor
  all_goals repeat' split
  all_goals repeat' first
    | with_reducible exact h
    | ((with_reducible refine sendPlain_keeps ?hs ?_ _ _); case hs => exact List.Subset.trans (by decide) hl)

theorem sendAnswer_keeps {l : List Part} (hl : [.own] ⊆ l) {s t : State} (h : KeepsAllBut l s t)
    (tag : Byte) (code : AnswerCode) (content : List Byte) :
    KeepsAllBut l s (sendAnswer tag code content t) := by
  unfold sendAnswer
  all_goals repeat' first
    | with_reducible exact h
    | ((with_reducible refine sendSupervisor_keeps ?hs ?_ _); case hs => exact List.Subset.trans (by decide) hl)
    | (with_reducible refine KeepsAllBut.fold (fun t a h => ?_) _ ?_)

theorem setAlert_keeps {l : List Part} (hl : [.alerts] ⊆ l) {s t : State} (h : KeepsAllBut l s t)
    (c : AlertClass) (a : Alert) :
    KeepsAllBut l s (setAlert c a t) := by
  unfold setAlert
  all_goals repeat' first
    | with_reducible exact h
    | ((with_reducible refine State.setChannel_keeps hl ?_ _ ?hk); case hk => intro p hp; cases p <;> first | rfl | exact absurd (by decide) hp)

theorem raiseAlert_keeps {l : List Part} (hl : [.own, .alerts] ⊆ l) {s t : State} (h : KeepsAllBut l s t)
    (d : AlertDetail) :
    KeepsAllBut l s (raiseAlert d t) := by
  unfold raiseAlert
  all_goals try dsimp only
  all_goals repeat' split
  all_goals repeat' first
    | with_reducible exact h
    | ((with_reducible refine setAlert_keeps ?hs ?_ _ _); case hs => exact List.Subset.trans (by decide) hl)
    | ((with_reducible refine sendSupervisor_keeps ?hs ?_ _); case hs => exact List.Subset.trans (by decide) hl)

theorem forwardFrame_keeps {l : List Part} (hl : [.own, .forward, .alerts] ⊆ l) {s t : State} (h : KeepsAllBut l s t)
    (f : RingFrame) :
    KeepsAllBut l s (forwardFrame f t) := by
  unfold forwardFrame
  all_goals repeat' split
  all_goals repeat' first
    | with_reducible exact h
    | ((with_reducible refine raiseAlert_keeps ?hs ?_ _); case hs => exact List.Subset.trans (by decide) hl)
    | ((with_reducible refine State.setRing_keeps hl ?_ _ ?hk); case hk => intro p hp; cases p <;> first | rfl | exact absurd (by decide) hp)

theorem putStation_keeps {l : List Part} (hl : [.stations] ⊆ l) {s t : State} (h : KeepsAllBut l s t)
    (i : Nat) (e : Option StationEntry) :
    KeepsAllBut l s (putStation i e t) := by
  unfold putStation
  all_goals repeat' first
    | with_reducible exact h
    | ((with_reducible refine State.setTrack_keeps hl ?_ _ ?hk); case hk => intro p hp; cases p <;> first | rfl | exact absurd (by decide) hp)

theorem markAbsent_keeps {l : List Part} (hl : frameParts ⊆ l) {s t : State} (h : KeepsAllBut l s t)
    (i : Nat) (e : StationEntry) :
    KeepsAllBut l s (markAbsent i e t) := by
  unfold markAbsent
  all_goals try dsimp only
  all_goals repeat' split
  all_goals repeat' first
    | with_reducible exact h
    | ((with_reducible refine putStation_keeps ?hs ?_ _ _); case hs => exact List.Subset.trans (by decide) hl)
    | ((with_reducible refine raiseAlert_keeps ?hs ?_ _); case hs => exact List.Subset.trans (by decide) hl)

theorem nodeAbsent_keeps {l : List Part} (hl : frameParts ⊆ l) {s t : State} (h : KeepsAllBut l s t)
    (dst : Node) :
    KeepsAllBut l s (nodeAbsent dst t) := by
  unfold nodeAbsent
  all_goals repeat' split
  all_goals repeat' first
    | with_reducible exact h
    | ((with_reducible refine markAbsent_keeps ?hs ?_ _ _); case hs => exact List.Subset.trans (by decide) hl)

theorem sendStation_keeps {l : List Part} (hl : frameParts ⊆ l) {s t : State} (h : KeepsAllBut l s t)
    (dst : Node) (body : OwnBody) :
    KeepsAllBut l s (sendStation dst body t) := by
  unfold sendStation
  all_goals repeat' split
  all_goals repeat' first
    | with_reducible exact h
    | ((with_reducible refine nodeAbsent_keeps ?hs ?_ _); case hs => exact List.Subset.trans (by decide) hl)
    | ((with_reducible refine pushOwn_keeps ?hs ?_ _ _); case hs => exact List.Subset.trans (by decide) hl)

theorem lateReport_keeps {l : List Part} (hl : frameParts ⊆ l) {s t : State} (h : KeepsAllBut l s t)
    (i : Nat) (e : StationEntry) :
    KeepsAllBut l s (lateReport i e t) := by
  unfold lateReport
  all_goals try dsimp only
  all_goals repeat' split
  all_goals repeat' first
    | with_reducible exact h
    | ((with_reducible refine putStation_keeps ?hs ?_ _ _); case hs => exact List.Subset.trans (by decide) hl)
    | ((with_reducible refine raiseAlert_keeps ?hs ?_ _); case hs => exact List.Subset.trans (by decide) hl)

theorem putBin_keeps {l : List Part} (hl : [.bins] ⊆ l) {s t : State} (h : KeepsAllBut l s t)
    (b : Nat) (x : Bin) :
    KeepsAllBut l s (putBin b x t) := by
  unfold putBin
  all_goals repeat' first
    | with_reducible exact h
    | ((with_reducible refine State.setSort_keeps hl ?_ _ ?hk); case hk => intro p hp; cases p <;> first | rfl | exact absurd (by decide) hp)

theorem putGroup_keeps {l : List Part} (hl : [.groups] ⊆ l) {s t : State} (h : KeepsAllBut l s t)
    (g : Nat) (x : Group) :
    KeepsAllBut l s (putGroup g x t) := by
  unfold putGroup
  all_goals repeat' first
    | with_reducible exact h
    | ((with_reducible refine State.setSort_keeps hl ?_ _ ?hk); case hk => intro p hp; cases p <;> first | rfl | exact absurd (by decide) hp)

theorem putPageUse_keeps {l : List Part} (hl : [.pageUse] ⊆ l) {s t : State} (h : KeepsAllBut l s t)
    (p n : Nat) :
    KeepsAllBut l s (putPageUse p n t) := by
  unfold putPageUse
  all_goals repeat' first
    | with_reducible exact h
    | ((with_reducible refine State.setSort_keeps hl ?_ _ ?hk); case hk => intro p hp; cases p <;> first | rfl | exact absurd (by decide) hp)

theorem putSlot_keeps {l : List Part} (hl : [.slots] ⊆ l) {s t : State} (h : KeepsAllBut l s t)
    (n : Nat) (p : Option Piece) :
    KeepsAllBut l s (putSlot n p t) := by
  unfold putSlot
  all_goals repeat' first
    | with_reducible exact h
    | ((with_reducible refine State.setTrack_keeps hl ?_ _ ?hk); case hk => intro p hp; cases p <;> first | rfl | exact absurd (by decide) hp)

theorem holdFlow_keeps {l : List Part} (hl : [.own, .held] ⊆ l) {s t : State} (h : KeepsAllBut l s t) :
    KeepsAllBut l s (holdFlow t) := by
  unfold holdFlow
  all_goals repeat' first
    | with_reducible exact h
    | ((with_reducible refine sendSupervisor_keeps ?hs ?_ _); case hs => exact List.Subset.trans (by decide) hl)
    | ((with_reducible refine State.setChannel_keeps hl ?_ _ ?hk); case hk => intro p hp; cases p <;> first | rfl | exact absurd (by decide) hp)

theorem releaseFlow_keeps {l : List Part} (hl : [.own, .held] ⊆ l) {s t : State} (h : KeepsAllBut l s t) :
    KeepsAllBut l s (releaseFlow t) := by
  unfold releaseFlow
  all_goals repeat' first
    | with_reducible exact h
    | ((with_reducible refine sendSupervisor_keeps ?hs ?_ _); case hs => exact List.Subset.trans (by decide) hl)
    | ((with_reducible refine State.setChannel_keeps hl ?_ _ ?hk); case hk => intro p hp; cases p <;> first | rfl | exact absurd (by decide) hp)

theorem checkHold_keeps {l : List Part} (hl : [.own, .held] ⊆ l) {s t : State} (h : KeepsAllBut l s t) :
    KeepsAllBut l s (checkHold t) := by
  unfold checkHold
  all_goals repeat' split
  all_goals repeat' first
    | with_reducible exact h
    | ((with_reducible refine holdFlow_keeps ?hs ?_); case hs => exact List.Subset.trans (by decide) hl)

theorem checkGo_keeps {l : List Part} (hl : [.own, .held] ⊆ l) {s t : State} (h : KeepsAllBut l s t) :
    KeepsAllBut l s (checkGo t) := by
  unfold checkGo
  all_goals repeat' split
  all_goals repeat' first
    | with_reducible exact h
    | ((with_reducible refine releaseFlow_keeps ?hs ?_); case hs => exact List.Subset.trans (by decide) hl)

theorem checkMarks_keeps {l : List Part} (hl : [.own, .held] ⊆ l) {s t : State} (h : KeepsAllBut l s t) :
    KeepsAllBut l s (checkMarks t) := by
  unfold checkMarks
  all_goals repeat' split
  all_goals repeat' first
    | with_reducible exact h
    | ((with_reducible refine checkGo_keeps ?hs ?_); case hs => exact List.Subset.trans (by decide) hl)
    | ((with_reducible refine holdFlow_keeps ?hs ?_); case hs => exact List.Subset.trans (by decide) hl)

theorem evalPermit_keeps {l : List Part} (hl : permitParts ⊆ l) {s t : State} (h : KeepsAllBut l s t) :
    KeepsAllBut l s (evalPermit t) := by
  unfold evalPermit
  all_goals try dsimp only
  all_goals repeat' split
  all_goals repeat' first
    | with_reducible exact h
    | ((with_reducible refine sendStation_keeps ?hs ?_ _ _); case hs => exact List.Subset.trans (by decide) hl)
    | ((with_reducible refine State.setLine_keeps hl ?_ _ ?hk); case hk => intro p hp; cases p <;> first | rfl | exact absurd (by decide) hp)

theorem enterState_keeps {l : List Part} (hl : stateParts ⊆ l) {s t : State} (h : KeepsAllBut l s t)
    (st : RunState) (reason : Option StopReason) :
    KeepsAllBut l s (enterState st reason t) := by
  unfold enterState
  all_goals repeat' first
    | with_reducible exact h
    | ((with_reducible refine evalPermit_keeps ?hs ?_); case hs => exact List.Subset.trans (by decide) hl)
    | ((with_reducible refine State.setLine_keeps hl ?_ _ ?hk); case hk => intro p hp; cases p <;> first | rfl | exact absurd (by decide) hp)

theorem requestStop_keeps {l : List Part} (hl : stateParts ⊆ l) {s t : State} (h : KeepsAllBut l s t)
    (r : StopReason) :
    KeepsAllBut l s (requestStop r t) := by
  unfold requestStop
  all_goals repeat' split
  all_goals repeat' first
    | with_reducible exact h
    | ((with_reducible refine enterState_keeps ?hs ?_ _ _); case hs => exact List.Subset.trans (by decide) hl)

theorem appendLog_keeps {l : List Part} (hl : [.logRecords, .logSerial] ⊆ l) {s t : State} (h : KeepsAllBut l s t)
    (b : LogBody) :
    KeepsAllBut l s (appendLog b t) := by
  unfold appendLog
  all_goals repeat' first
    | with_reducible exact h
    | ((with_reducible refine State.setLog_keeps hl ?_ _ ?hk); case hk => intro p hp; cases p <;> first | rfl | exact absurd (by decide) hp)

theorem setLost_keeps {l : List Part} (hl : [.logLost] ⊆ l) {s t : State} (h : KeepsAllBut l s t)
    (n : Nat) :
    KeepsAllBut l s (setLost n t) := by
  unfold setLost
  all_goals repeat' first
    | with_reducible exact h
    | ((with_reducible refine State.setLog_keeps hl ?_ _ ?hk); case hk => intro p hp; cases p <;> first | rfl | exact absurd (by decide) hp)

theorem writeLog_keeps {l : List Part} (hl : writeParts ⊆ l) {s t : State} (h : KeepsAllBut l s t)
    (b : LogBody) :
    KeepsAllBut l s (writeLog b t) := by
  unfold writeLog
  all_goals repeat' split
  all_goals repeat' first
    | with_reducible exact h
    | ((with_reducible refine setLost_keeps ?hs ?_ _); case hs => exact List.Subset.trans (by decide) hl)
    | ((with_reducible refine appendLog_keeps ?hs ?_ _); case hs => exact List.Subset.trans (by decide) hl)
    | ((with_reducible refine evalPermit_keeps ?hs ?_); case hs => exact List.Subset.trans (by decide) hl)
    | ((with_reducible refine raiseAlert_keeps ?hs ?_ _); case hs => exact List.Subset.trans (by decide) hl)

theorem createEntry_keeps {l : List Part} (hl : [.reprints] ⊆ l) {s t : State} (h : KeepsAllBut l s t)
    (seq inc : Nat) (reason : Reason) :
    KeepsAllBut l s (createEntry seq inc reason t) := by
  unfold createEntry
  all_goals repeat' split
  all_goals repeat' first
    | with_reducible exact h
    | ((with_reducible refine State.setReprints_keeps hl ?_ _ ?hk); case hk => intro p hp; cases p <;> first | rfl | exact absurd (by decide) hp)

theorem queueEntry_keeps {l : List Part} (hl : [.reprints] ⊆ l) {s t : State} (h : KeepsAllBut l s t)
    (seq : Nat) :
    KeepsAllBut l s (queueEntry seq t) := by
  unfold queueEntry
  all_goals repeat' first
    | with_reducible exact h
    | ((with_reducible refine State.setReprints_keeps hl ?_ _ ?hk); case hk => intro p hp; cases p <;> first | rfl | exact absurd (by decide) hp)

theorem reopenEntry_keeps {l : List Part} (hl : [.reprints] ⊆ l) {s t : State} (h : KeepsAllBut l s t)
    (seq : Nat) (reason : Option Reason) :
    KeepsAllBut l s (reopenEntry seq reason t) := by
  unfold reopenEntry
  all_goals repeat' first
    | with_reducible exact h
    | ((with_reducible refine State.setReprints_keeps hl ?_ _ ?hk); case hk => intro p hp; cases p <;> first | rfl | exact absurd (by decide) hp)

theorem removeEntry_keeps {l : List Part} (hl : (permitParts ++ [.reprints]) ⊆ l) {s t : State} (h : KeepsAllBut l s t)
    (seq : Nat) :
    KeepsAllBut l s (removeEntry seq t) := by
  unfold removeEntry
  all_goals repeat' first
    | with_reducible exact h
    | ((with_reducible refine evalPermit_keeps ?hs ?_); case hs => exact List.Subset.trans (by decide) hl)
    | ((with_reducible refine State.setReprints_keeps hl ?_ _ ?hk); case hk => intro p hp; cases p <;> first | rfl | exact absurd (by decide) hp)

theorem applyEntry_keeps {l : List Part} (hl : [.reprints] ⊆ l) {s t : State} (h : KeepsAllBut l s t)
    (e : EntryEffect) :
    KeepsAllBut l s (applyEntry e t) := by
  cases e <;> unfold applyEntry
  all_goals repeat' first
    | with_reducible exact h
    | ((with_reducible refine reopenEntry_keeps ?hs ?_ _ _); case hs => exact List.Subset.trans (by decide) hl)
    | ((with_reducible refine createEntry_keeps ?hs ?_ _ _ _); case hs => exact List.Subset.trans (by decide) hl)

theorem countDisposition_keeps {l : List Part} (hl : [.counters] ⊆ l) {s t : State} (h : KeepsAllBut l s t)
    (d : Disposition) :
    KeepsAllBut l s (countDisposition d t) := by
  unfold countDisposition
  all_goals repeat' first
    | with_reducible exact h
    | ((with_reducible refine State.setLine_keeps hl ?_ _ ?hk); case hk => intro p hp; cases p <;> first | rfl | exact absurd (by decide) hp)

theorem dispose_keeps {l : List Part} (hl : disposeParts ⊆ l) {s t : State} (h : KeepsAllBut l s t)
    (d : Disposition) (e : EntryEffect) (b : LogBody) :
    KeepsAllBut l s (dispose d e b t) := by
  unfold dispose
  all_goals try dsimp only
  all_goals repeat' split
  all_goals repeat' first
    | with_reducible exact h
    | ((with_reducible refine countDisposition_keeps ?hs ?_ _); case hs => exact List.Subset.trans (by decide) hl)
    | ((with_reducible refine applyEntry_keeps ?hs ?_ _); case hs => exact List.Subset.trans (by decide) hl)
    | ((with_reducible refine writeLog_keeps ?hs ?_ _); case hs => exact List.Subset.trans (by decide) hl)
    | ((with_reducible refine evalPermit_keeps ?hs ?_); case hs => exact List.Subset.trans (by decide) hl)

theorem disposePiece_keeps {l : List Part} (hl : disposeParts ⊆ l) {s t : State} (h : KeepsAllBut l s t)
    (d : Disposition) (cls : Option CaliperClass) (p : Piece) :
    KeepsAllBut l s (disposePiece d cls p t) := by
  unfold disposePiece
  all_goals repeat' split
  all_goals repeat' first
    | with_reducible exact h
    | ((with_reducible refine dispose_keeps ?hs ?_ _ _ _); case hs => exact List.Subset.trans (by decide) hl)

theorem disposeFlight_keeps {l : List Part} (hl : disposeParts ⊆ l) {s t : State} (h : KeepsAllBut l s t)
    (d : Disposition) (bin : Nat) (place : Option (Nat × Nat)) (f : Flight) :
    KeepsAllBut l s (disposeFlight d bin place f t) := by
  unfold disposeFlight
  all_goals repeat' first
    | with_reducible exact h
    | ((with_reducible refine dispose_keeps ?hs ?_ _ _ _); case hs => exact List.Subset.trans (by decide) hl)

theorem disposeCollation_keeps {l : List Part} (hl : disposeParts ⊆ l) {s t : State} (h : KeepsAllBut l s t)
    (d : Disposition) (c : Collation) :
    KeepsAllBut l s (disposeCollation d c t) := by
  unfold disposeCollation
  all_goals repeat' split
  all_goals repeat' first
    | with_reducible exact h
    | ((with_reducible refine dispose_keeps ?hs ?_ _ _ _); case hs => exact List.Subset.trans (by decide) hl)

theorem markUntaken_keeps {l : List Part} (hl : [.own, .alerts] ⊆ l) {s t : State} (h : KeepsAllBut l s t)
    (b : Nat) :
    KeepsAllBut l s (markUntaken b t) := by
  unfold markUntaken
  all_goals repeat' first
    | with_reducible exact h
    | ((with_reducible refine raiseAlert_keeps ?hs ?_ _); case hs => exact List.Subset.trans (by decide) hl)

theorem sendBundleMark_keeps {l : List Part} (hl : [.own, .alerts] ⊆ l) {s t : State} (h : KeepsAllBut l s t)
    (b count : Nat) :
    KeepsAllBut l s (sendBundleMark b count t) := by
  unfold sendBundleMark
  all_goals repeat' split
  all_goals repeat' first
    | with_reducible exact h
    | ((with_reducible refine markUntaken_keeps ?hs ?_ _); case hs => exact List.Subset.trans (by decide) hl)
    | ((with_reducible refine pushOwn_keeps ?hs ?_ _ _); case hs => exact List.Subset.trans (by decide) hl)

theorem closeBundle_keeps {l : List Part} (hl : closeParts ⊆ l) {s t : State} (h : KeepsAllBut l s t)
    (b : Nat) (cause : CloseCause) :
    KeepsAllBut l s (closeBundle b cause t) := by
  unfold closeBundle
  all_goals try dsimp only
  all_goals repeat' split
  all_goals repeat' first
    | with_reducible exact h
    | ((with_reducible refine sendBundleMark_keeps ?hs ?_ _ _); case hs => exact List.Subset.trans (by decide) hl)
    | ((with_reducible refine writeLog_keeps ?hs ?_ _); case hs => exact List.Subset.trans (by decide) hl)
    | ((with_reducible refine putBin_keeps ?hs ?_ _ _); case hs => exact List.Subset.trans (by decide) hl)

theorem closeIfOff_keeps {l : List Part} (hl : closeParts ⊆ l) {s t : State} (h : KeepsAllBut l s t)
    (b : Nat) :
    KeepsAllBut l s (closeIfOff b t) := by
  unfold closeIfOff
  all_goals repeat' split
  all_goals repeat' first
    | with_reducible exact h
    | ((with_reducible refine closeBundle_keeps ?hs ?_ _ _); case hs => exact List.Subset.trans (by decide) hl)

theorem completeDrain_keeps {l : List Part} (hl : (closeParts ++ [.runState, .reason, .drive]) ⊆ l) {s t : State} (h : KeepsAllBut l s t) :
    KeepsAllBut l s (completeDrain t) := by
  unfold completeDrain
  all_goals try dsimp only
  all_goals repeat' first
    | with_reducible exact h
    | ((with_reducible refine closeBundle_keeps ?hs ?_ _ _); case hs => exact List.Subset.trans (by decide) hl)
    | ((with_reducible refine writeLog_keeps ?hs ?_ _); case hs => exact List.Subset.trans (by decide) hl)
    | ((with_reducible refine enterState_keeps ?hs ?_ _ _); case hs => exact List.Subset.trans (by decide) hl)
    | ((with_reducible refine raiseAlert_keeps ?hs ?_ _); case hs => exact List.Subset.trans (by decide) hl)
    | (with_reducible refine KeepsAllBut.fold (fun t a h => ?_) _ ?_)

theorem drainCheck_keeps {l : List Part} (hl : (closeParts ++ [.runState, .reason, .drive]) ⊆ l) {s t : State} (h : KeepsAllBut l s t) :
    KeepsAllBut l s (drainCheck t) := by
  unfold drainCheck
  all_goals repeat' split
  all_goals repeat' first
    | with_reducible exact h
    | ((with_reducible refine completeDrain_keeps ?hs ?_); case hs => exact List.Subset.trans (by decide) hl)

theorem removeHead_keeps {l : List Part} (hl : (permitParts ++ [.held, .records]) ⊆ l) {s t : State} (h : KeepsAllBut l s t) :
    KeepsAllBut l s (removeHead t) := by
  unfold removeHead
  all_goals try dsimp only
  all_goals repeat' split
  all_goals repeat' first
    | with_reducible exact h
    | ((with_reducible refine evalPermit_keeps ?hs ?_); case hs => exact List.Subset.trans (by decide) hl)
    | ((with_reducible refine checkGo_keeps ?hs ?_); case hs => exact List.Subset.trans (by decide) hl)
    | ((with_reducible refine State.setQueue_keeps hl ?_ _ ?hk); case hk => intro p hp; cases p <;> first | rfl | exact absurd (by decide) hp)

theorem unfedRecord_keeps {l : List Part} (hl : (disposeParts ++ [.held, .records]) ⊆ l) {s t : State} (h : KeepsAllBut l s t)
    (r : JobRecord) :
    KeepsAllBut l s (unfedRecord r t) := by
  unfold unfedRecord
  all_goals repeat' split
  all_goals repeat' first
    | with_reducible exact h
    | ((with_reducible refine removeHead_keeps ?hs ?_); case hs => exact List.Subset.trans (by decide) hl)
    | ((with_reducible refine dispose_keeps ?hs ?_ _ _ _); case hs => exact List.Subset.trans (by decide) hl)

theorem unfedAll_keeps {l : List Part} (hl : (disposeParts ++ [.held, .records]) ⊆ l) {s t : State} (h : KeepsAllBut l s t) :
    KeepsAllBut l s (unfedAll t) := by
  unfold unfedAll
  all_goals repeat' first
    | with_reducible exact h
    | ((with_reducible refine unfedRecord_keeps ?hs ?_ _); case hs => exact List.Subset.trans (by decide) hl)
    | ((with_reducible refine evalPermit_keeps ?hs ?_); case hs => exact List.Subset.trans (by decide) hl)
    | (with_reducible refine KeepsAllBut.fold (fun t a h => ?_) _ ?_)

theorem putStock_keeps {l : List Part} (hl : [.stocks] ⊆ l) {s t : State} (h : KeepsAllBut l s t)
    (i : Nat) (x : Stock) :
    KeepsAllBut l s (putStock i x t) := by
  unfold putStock
  all_goals repeat' first
    | with_reducible exact h
    | ((with_reducible refine State.setCaliper_keeps hl ?_ _ ?hk); case hk => intro p hp; cases p <;> first | rfl | exact absurd (by decide) hp)

theorem emptyRings_keeps {l : List Part} (hl : [.stocks] ⊆ l) {s t : State} (h : KeepsAllBut l s t) :
    KeepsAllBut l s (emptyRings t) := by
  unfold emptyRings
  all_goals repeat' first
    | with_reducible exact h
    | ((with_reducible refine State.setCaliper_keeps hl ?_ _ ?hk); case hk => intro p hp; cases p <;> first | rfl | exact absurd (by decide) hp)

theorem raiseMatchCounts_keeps {l : List Part} (hl : [.pageUse, .groups] ⊆ l) {s t : State} (h : KeepsAllBut l s t)
    (m : SchemeMatch) :
    KeepsAllBut l s (raiseMatchCounts m t) := by
  unfold raiseMatchCounts
  all_goals try dsimp only
  all_goals repeat' split
  all_goals repeat' first
    | with_reducible exact h
    | ((with_reducible refine putPageUse_keeps ?hs ?_ _ _); case hs => exact List.Subset.trans (by decide) hl)
    | ((with_reducible refine putGroup_keeps ?hs ?_ _ _); case hs => exact List.Subset.trans (by decide) hl)

theorem lowerMatchCounts_keeps {l : List Part} (hl : [.pageUse, .groups] ⊆ l) {s t : State} (h : KeepsAllBut l s t)
    (m : SchemeMatch) :
    KeepsAllBut l s (lowerMatchCounts m t) := by
  unfold lowerMatchCounts
  all_goals try dsimp only
  all_goals repeat' split
  all_goals repeat' first
    | with_reducible exact h
    | ((with_reducible refine putPageUse_keeps ?hs ?_ _ _); case hs => exact List.Subset.trans (by decide) hl)
    | ((with_reducible refine putGroup_keeps ?hs ?_ _ _); case hs => exact List.Subset.trans (by decide) hl)

theorem updatePiece_keeps {l : List Part} (hl : [.slots] ⊆ l) {s t : State} (h : KeepsAllBut l s t)
    (n : Nat) (f : Piece → Piece) :
    KeepsAllBut l s (updatePiece n f t) := by
  unfold updatePiece
  all_goals repeat' split
  all_goals repeat' first
    | with_reducible exact h
    | ((with_reducible refine putSlot_keeps ?hs ?_ _ _); case hs => exact List.Subset.trans (by decide) hl)

theorem feedOutcomeAt_keeps {l : List Part} (hl : [.slots] ⊆ l) {s t : State} (h : KeepsAllBut l s t)
    (i cal tag : Nat) (r : FeedOutcome) :
    KeepsAllBut l s (feedOutcomeAt i cal tag r t) := by
  unfold feedOutcomeAt
  all_goals repeat' split
  all_goals repeat' first
    | with_reducible exact h
    | ((with_reducible refine updatePiece_keeps ?hs ?_ _ _); case hs => exact List.Subset.trans (by decide) hl)

theorem envelopeFaultAt_keeps {l : List Part} (hl : [.slots] ⊆ l) {s t : State} (h : KeepsAllBut l s t)
    (i tag : Nat) :
    KeepsAllBut l s (envelopeFaultAt i tag t) := by
  unfold envelopeFaultAt
  all_goals repeat' split
  all_goals repeat' first
    | with_reducible exact h
    | ((with_reducible refine updatePiece_keeps ?hs ?_ _ _); case hs => exact List.Subset.trans (by decide) hl)

theorem failedReadAt_keeps {l : List Part} (hl : [.slots] ⊆ l) {s t : State} (h : KeepsAllBut l s t)
    (i tag : Nat) :
    KeepsAllBut l s (failedReadAt i tag t) := by
  unfold failedReadAt
  all_goals repeat' split
  all_goals repeat' first
    | with_reducible exact h
    | ((with_reducible refine updatePiece_keeps ?hs ?_ _ _); case hs => exact List.Subset.trans (by decide) hl)

theorem feedUntaken_keeps {l : List Part} (hl : (frameParts ++ [.slots]) ⊆ l) {s t : State} (h : KeepsAllBut l s t)
    (dst : Node) (tag : Nat) :
    KeepsAllBut l s (feedUntaken dst tag t) := by
  unfold feedUntaken
  all_goals repeat' split
  all_goals repeat' first
    | with_reducible exact h
    | ((with_reducible refine feedOutcomeAt_keeps ?hs ?_ _ _ _ _); case hs => exact List.Subset.trans (by decide) hl)
    | ((with_reducible refine markAbsent_keeps ?hs ?_ _ _); case hs => exact List.Subset.trans (by decide) hl)

theorem envUntaken_keeps {l : List Part} (hl : (frameParts ++ [.slots]) ⊆ l) {s t : State} (h : KeepsAllBut l s t)
    (dst : Node) (tag : Nat) :
    KeepsAllBut l s (envUntaken dst tag t) := by
  unfold envUntaken
  all_goals repeat' split
  all_goals repeat' first
    | with_reducible exact h
    | ((with_reducible refine envelopeFaultAt_keeps ?hs ?_ _ _); case hs => exact List.Subset.trans (by decide) hl)
    | ((with_reducible refine markAbsent_keeps ?hs ?_ _ _); case hs => exact List.Subset.trans (by decide) hl)

theorem armUntaken_keeps {l : List Part} (hl : (frameParts ++ [.slots]) ⊆ l) {s t : State} (h : KeepsAllBut l s t)
    (dst : Node) (tag : Nat) :
    KeepsAllBut l s (armUntaken dst tag t) := by
  unfold armUntaken
  all_goals repeat' split
  all_goals repeat' first
    | with_reducible exact h
    | ((with_reducible refine failedReadAt_keeps ?hs ?_ _ _); case hs => exact List.Subset.trans (by decide) hl)
    | ((with_reducible refine markAbsent_keeps ?hs ?_ _ _); case hs => exact List.Subset.trans (by decide) hl)

theorem sendFeed_keeps {l : List Part} (hl : (frameParts ++ [.slots]) ⊆ l) {s t : State} (h : KeepsAllBut l s t)
    (i n : Nat) (e : StationEntry) (p : Piece) (k : FeedKind) :
    KeepsAllBut l s (sendFeed i n e p k t) := by
  unfold sendFeed
  all_goals try dsimp only
  all_goals repeat' split
  all_goals repeat' first
    | with_reducible exact h
    | ((with_reducible refine feedUntaken_keeps ?hs ?_ _ _); case hs => exact List.Subset.trans (by decide) hl)
    | ((with_reducible refine putSlot_keeps ?hs ?_ _ _); case hs => exact List.Subset.trans (by decide) hl)
    | ((with_reducible refine pushOwn_keeps ?hs ?_ _ _); case hs => exact List.Subset.trans (by decide) hl)

theorem forcedAtArrival_keeps {l : List Part} (hl : (frameParts ++ [.slots]) ⊆ l) {s t : State} (h : KeepsAllBut l s t)
    (i n : Nat) (e : StationEntry) (p : Piece) :
    KeepsAllBut l s (forcedAtArrival i n e p t) := by
  unfold forcedAtArrival
  all_goals repeat' split
  all_goals repeat' first
    | with_reducible exact h
    | ((with_reducible refine sendFeed_keeps ?hs ?_ _ _ _ _ _); case hs => exact List.Subset.trans (by decide) hl)
    | ((with_reducible refine putSlot_keeps ?hs ?_ _ _); case hs => exact List.Subset.trans (by decide) hl)

theorem insertArrival_keeps {l : List Part} (hl : (frameParts ++ [.slots]) ⊆ l) {s t : State} (h : KeepsAllBut l s t)
    (i n : Nat) (e : StationEntry) (p : Piece) :
    KeepsAllBut l s (insertArrival i n e p t) := by
  unfold insertArrival
  all_goals repeat' split
  all_goals repeat' first
    | with_reducible exact h
    | ((with_reducible refine forcedAtArrival_keeps ?hs ?_ _ _ _ _); case hs => exact List.Subset.trans (by decide) hl)
    | ((with_reducible refine sendFeed_keeps ?hs ?_ _ _ _ _ _); case hs => exact List.Subset.trans (by decide) hl)
    | ((with_reducible refine putSlot_keeps ?hs ?_ _ _); case hs => exact List.Subset.trans (by decide) hl)

theorem envelopeArrival_keeps {l : List Part} (hl : (frameParts ++ [.slots]) ⊆ l) {s t : State} (h : KeepsAllBut l s t)
    (i n : Nat) (e : StationEntry) (p : Piece) :
    KeepsAllBut l s (envelopeArrival i n e p t) := by
  unfold envelopeArrival
  all_goals try dsimp only
  all_goals repeat' split
  all_goals repeat' first
    | with_reducible exact h
    | ((with_reducible refine envUntaken_keeps ?hs ?_ _ _); case hs => exact List.Subset.trans (by decide) hl)
    | ((with_reducible refine putSlot_keeps ?hs ?_ _ _); case hs => exact List.Subset.trans (by decide) hl)
    | ((with_reducible refine pushOwn_keeps ?hs ?_ _ _); case hs => exact List.Subset.trans (by decide) hl)

theorem scanArrival_keeps {l : List Part} (hl : (frameParts ++ [.slots]) ⊆ l) {s t : State} (h : KeepsAllBut l s t)
    (i n : Nat) (e : StationEntry) (p : Piece) :
    KeepsAllBut l s (scanArrival i n e p t) := by
  unfold scanArrival
  all_goals try dsimp only
  all_goals repeat' split
  all_goals repeat' first
    | with_reducible exact h
    | ((with_reducible refine armUntaken_keeps ?hs ?_ _ _); case hs => exact List.Subset.trans (by decide) hl)
    | ((with_reducible refine putSlot_keeps ?hs ?_ _ _); case hs => exact List.Subset.trans (by decide) hl)
    | ((with_reducible refine pushOwn_keeps ?hs ?_ _ _); case hs => exact List.Subset.trans (by decide) hl)

theorem arriveAt_keeps {l : List Part} (hl : (frameParts ++ [.slots]) ⊆ l) {s t : State} (h : KeepsAllBut l s t)
    (n i : Nat) :
    KeepsAllBut l s (arriveAt n i t) := by
  unfold arriveAt
  all_goals repeat' split
  all_goals repeat' first
    | with_reducible exact h
    | ((with_reducible refine scanArrival_keeps ?hs ?_ _ _ _ _); case hs => exact List.Subset.trans (by decide) hl)
    | ((with_reducible refine envelopeArrival_keeps ?hs ?_ _ _ _ _); case hs => exact List.Subset.trans (by decide) hl)
    | ((with_reducible refine insertArrival_keeps ?hs ?_ _ _ _ _); case hs => exact List.Subset.trans (by decide) hl)

theorem slotArrivals_keeps {l : List Part} (hl : (frameParts ++ [.slots]) ⊆ l) {s t : State} (h : KeepsAllBut l s t)
    (n : Nat) :
    KeepsAllBut l s (slotArrivals n t) := by
  unfold slotArrivals
  all_goals repeat' split
  all_goals repeat' first
    | with_reducible exact h
    | ((with_reducible refine arriveAt_keeps ?hs ?_ _ _); case hs => exact List.Subset.trans (by decide) hl)
    | (with_reducible refine KeepsAllBut.fold (fun t a h => ?_) _ ?_)

theorem arrivals_keeps {l : List Part} (hl : (frameParts ++ [.slots]) ⊆ l) {s t : State} (h : KeepsAllBut l s t) :
    KeepsAllBut l s (arrivals t) := by
  unfold arrivals
  all_goals repeat' first
    | with_reducible exact h
    | ((with_reducible refine slotArrivals_keeps ?hs ?_ _); case hs => exact List.Subset.trans (by decide) hl)
    | (with_reducible refine KeepsAllBut.fold (fun t a h => ?_) _ ?_)

theorem commit_keeps {l : List Part} (hl : [.slots, .nextSerial, .pageUse, .groups] ⊆ l) {s t : State} (h : KeepsAllBut l s t)
    (c : Collation) :
    KeepsAllBut l s (commit c t) := by
  unfold commit
  all_goals try dsimp only
  all_goals repeat' first
    | with_reducible exact h
    | ((with_reducible refine raiseMatchCounts_keeps ?hs ?_ _); case hs => exact List.Subset.trans (by decide) hl)
    | ((with_reducible refine State.setTrack_keeps hl ?_ _ ?hk); case hk => intro p hp; cases p <;> first | rfl | exact absurd (by decide) hp)

theorem divertUntaken_keeps {l : List Part} (hl : stateParts ⊆ l) {s t : State} (h : KeepsAllBut l s t)
    (dst : Node) (serial : Nat) :
    KeepsAllBut l s (divertUntaken dst serial t) := by
  unfold divertUntaken
  all_goals repeat' first
    | with_reducible exact h
    | ((with_reducible refine requestStop_keeps ?hs ?_ _); case hs => exact List.Subset.trans (by decide) hl)
    | ((with_reducible refine nodeAbsent_keeps ?hs ?_ _); case hs => exact List.Subset.trans (by decide) hl)
    | ((with_reducible refine raiseAlert_keeps ?hs ?_ _); case hs => exact List.Subset.trans (by decide) hl)

theorem noteDivert_keeps {l : List Part} (hl : [.divertSerials] ⊆ l) {s t : State} (h : KeepsAllBut l s t)
    (serial : Nat) :
    KeepsAllBut l s (noteDivert serial t) := by
  unfold noteDivert
  all_goals repeat' first
    | with_reducible exact h
    | ((with_reducible refine State.setTrack_keeps hl ?_ _ ?hk); case hk => intro p hp; cases p <;> first | rfl | exact absurd (by decide) hp)

theorem divertPiece_keeps {l : List Part} (hl : (endParts ++ [.divertSerials]) ⊆ l) {s t : State} (h : KeepsAllBut l s t)
    (d : Disposition) (cls : Option CaliperClass) (p : Piece) :
    KeepsAllBut l s (divertPiece d cls p t) := by
  unfold divertPiece
  all_goals try dsimp only
  all_goals repeat' split
  all_goals repeat' first
    | with_reducible exact h
    | ((with_reducible refine divertUntaken_keeps ?hs ?_ _ _); case hs => exact List.Subset.trans (by decide) hl)
    | ((with_reducible refine drainCheck_keeps ?hs ?_); case hs => exact List.Subset.trans (by decide) hl)
    | ((with_reducible refine disposePiece_keeps ?hs ?_ _ _ _); case hs => exact List.Subset.trans (by decide) hl)
    | ((with_reducible refine pushOwn_keeps ?hs ?_ _ _); case hs => exact List.Subset.trans (by decide) hl)
    | ((with_reducible refine noteDivert_keeps ?hs ?_ _); case hs => exact List.Subset.trans (by decide) hl)

theorem dropFlight_keeps {l : List Part} (hl : [.bins] ⊆ l) {s t : State} (h : KeepsAllBut l s t)
    (b : Nat) (f : Flight) :
    KeepsAllBut l s (dropFlight b f t) := by
  unfold dropFlight
  all_goals repeat' first
    | with_reducible exact h
    | ((with_reducible refine putBin_keeps ?hs ?_ _ _); case hs => exact List.Subset.trans (by decide) hl)

theorem selectUntaken_keeps {l : List Part} (hl : endParts ⊆ l) {s t : State} (h : KeepsAllBut l s t)
    (b tag : Nat) :
    KeepsAllBut l s (selectUntaken b tag t) := by
  unfold selectUntaken
  all_goals try dsimp only
  all_goals repeat' split
  all_goals repeat' first
    | with_reducible exact h
    | ((with_reducible refine dropFlight_keeps ?hs ?_ _ _); case hs => exact List.Subset.trans (by decide) hl)
    | ((with_reducible refine drainCheck_keeps ?hs ?_); case hs => exact List.Subset.trans (by decide) hl)
    | ((with_reducible refine closeIfOff_keeps ?hs ?_ _); case hs => exact List.Subset.trans (by decide) hl)
    | ((with_reducible refine disposeFlight_keeps ?hs ?_ _ _ _ _); case hs => exact List.Subset.trans (by decide) hl)
    | ((with_reducible refine putBin_keeps ?hs ?_ _ _); case hs => exact List.Subset.trans (by decide) hl)
    | ((with_reducible refine raiseAlert_keeps ?hs ?_ _); case hs => exact List.Subset.trans (by decide) hl)

theorem timeoutFlight_keeps {l : List Part} (hl : endParts ⊆ l) {s t : State} (h : KeepsAllBut l s t)
    (b : Nat) (f : Flight) :
    KeepsAllBut l s (timeoutFlight b f t) := by
  unfold timeoutFlight
  all_goals try dsimp only
  all_goals repeat' first
    | with_reducible exact h
    | ((with_reducible refine dropFlight_keeps ?hs ?_ _ _); case hs => exact List.Subset.trans (by decide) hl)
    | ((with_reducible refine drainCheck_keeps ?hs ?_); case hs => exact List.Subset.trans (by decide) hl)
    | ((with_reducible refine closeIfOff_keeps ?hs ?_ _); case hs => exact List.Subset.trans (by decide) hl)
    | ((with_reducible refine disposeFlight_keeps ?hs ?_ _ _ _ _); case hs => exact List.Subset.trans (by decide) hl)
    | ((with_reducible refine requestStop_keeps ?hs ?_ _); case hs => exact List.Subset.trans (by decide) hl)
    | ((with_reducible refine raiseAlert_keeps ?hs ?_ _); case hs => exact List.Subset.trans (by decide) hl)

theorem timeoutBin_keeps {l : List Part} (hl : endParts ⊆ l) {s t : State} (h : KeepsAllBut l s t)
    (b : Nat) :
    KeepsAllBut l s (timeoutBin b t) := by
  unfold timeoutBin
  all_goals repeat' first
    | with_reducible exact h
    | ((with_reducible refine timeoutFlight_keeps ?hs ?_ _ _); case hs => exact List.Subset.trans (by decide) hl)
    | (with_reducible refine KeepsAllBut.fold (fun t a h => ?_) _ ?_)

theorem sorterTimeouts_keeps {l : List Part} (hl : endParts ⊆ l) {s t : State} (h : KeepsAllBut l s t) :
    KeepsAllBut l s (sorterTimeouts t) := by
  unfold sorterTimeouts
  all_goals repeat' first
    | with_reducible exact h
    | ((with_reducible refine timeoutBin_keeps ?hs ?_ _); case hs => exact List.Subset.trans (by decide) hl)
    | (with_reducible refine KeepsAllBut.fold (fun t a h => ?_) _ ?_)

theorem selectInto_keeps {l : List Part} (hl : endParts ⊆ l) {s t : State} (h : KeepsAllBut l s t)
    (b : Nat) (f : Flight) :
    KeepsAllBut l s (selectInto b f t) := by
  unfold selectInto
  all_goals try dsimp only
  all_goals repeat' split
  all_goals repeat' first
    | with_reducible exact h
    | ((with_reducible refine selectUntaken_keeps ?hs ?_ _ _); case hs => exact List.Subset.trans (by decide) hl)
    | ((with_reducible refine putBin_keeps ?hs ?_ _ _); case hs => exact List.Subset.trans (by decide) hl)
    | ((with_reducible refine pushOwn_keeps ?hs ?_ _ _); case hs => exact List.Subset.trans (by decide) hl)

theorem selectBin_keeps {l : List Part} (hl : (endParts ++ [.divertSerials]) ⊆ l) {s t : State} (h : KeepsAllBut l s t)
    (p : Piece) :
    KeepsAllBut l s (selectBin p t) := by
  unfold selectBin
  all_goals try dsimp only
  all_goals repeat' split
  all_goals repeat' first
    | with_reducible exact h
    | ((with_reducible refine selectInto_keeps ?hs ?_ _ _); case hs => exact List.Subset.trans (by decide) hl)
    | ((with_reducible refine divertPiece_keeps ?hs ?_ _ _ _); case hs => exact List.Subset.trans (by decide) hl)
    | ((with_reducible refine raiseAlert_keeps ?hs ?_ _); case hs => exact List.Subset.trans (by decide) hl)

theorem exitPiece_keeps {l : List Part} (hl : (endParts ++ [.divertSerials]) ⊆ l) {s t : State} (h : KeepsAllBut l s t)
    (p : Piece) :
    KeepsAllBut l s (exitPiece p t) := by
  unfold exitPiece
  all_goals repeat' split
  all_goals repeat' first
    | with_reducible exact h
    | ((with_reducible refine selectBin_keeps ?hs ?_ _); case hs => exact List.Subset.trans (by decide) hl)
    | ((with_reducible refine divertPiece_keeps ?hs ?_ _ _ _); case hs => exact List.Subset.trans (by decide) hl)

theorem exitSlot_keeps {l : List Part} (hl : (endParts ++ [.slots, .divertSerials, .pageUse, .groups]) ⊆ l) {s t : State} (h : KeepsAllBut l s t) :
    KeepsAllBut l s (exitSlot t) := by
  unfold exitSlot
  all_goals try dsimp only
  all_goals repeat' split
  all_goals repeat' first
    | with_reducible exact h
    | ((with_reducible refine exitPiece_keeps ?hs ?_ _); case hs => exact List.Subset.trans (by decide) hl)
    | ((with_reducible refine lowerMatchCounts_keeps ?hs ?_ _); case hs => exact List.Subset.trans (by decide) hl)
    | ((with_reducible refine putSlot_keeps ?hs ?_ _ _); case hs => exact List.Subset.trans (by decide) hl)

theorem landedAt_keeps {l : List Part} (hl : endParts ⊆ l) {s t : State} (h : KeepsAllBut l s t)
    (b : Nat) :
    KeepsAllBut l s (landedAt b t) := by
  unfold landedAt
  all_goals try dsimp only
  all_goals repeat' split
  all_goals repeat' first
    | with_reducible exact h
    | ((with_reducible refine drainCheck_keeps ?hs ?_); case hs => exact List.Subset.trans (by decide) hl)
    | ((with_reducible refine closeIfOff_keeps ?hs ?_ _); case hs => exact List.Subset.trans (by decide) hl)
    | ((with_reducible refine closeBundle_keeps ?hs ?_ _ _); case hs => exact List.Subset.trans (by decide) hl)
    | ((with_reducible refine disposeFlight_keeps ?hs ?_ _ _ _ _); case hs => exact List.Subset.trans (by decide) hl)
    | ((with_reducible refine putBin_keeps ?hs ?_ _ _); case hs => exact List.Subset.trans (by decide) hl)
    | ((with_reducible refine raiseAlert_keeps ?hs ?_ _); case hs => exact List.Subset.trans (by decide) hl)

theorem sweptAt_keeps {l : List Part} (hl : closeParts ⊆ l) {s t : State} (h : KeepsAllBut l s t)
    (b : Nat) :
    KeepsAllBut l s (sweptAt b t) := by
  unfold sweptAt
  all_goals try dsimp only
  all_goals repeat' first
    | with_reducible exact h
    | ((with_reducible refine closeBundle_keeps ?hs ?_ _ _); case hs => exact List.Subset.trans (by decide) hl)
    | ((with_reducible refine writeLog_keeps ?hs ?_ _); case hs => exact List.Subset.trans (by decide) hl)
    | ((with_reducible refine putBin_keeps ?hs ?_ _ _); case hs => exact List.Subset.trans (by decide) hl)

theorem fullAt_keeps {l : List Part} (hl : [.bins] ⊆ l) {s t : State} (h : KeepsAllBut l s t)
    (b : Nat) :
    KeepsAllBut l s (fullAt b t) := by
  unfold fullAt
  all_goals repeat' split
  all_goals repeat' first
    | with_reducible exact h
    | ((with_reducible refine putBin_keeps ?hs ?_ _ _); case hs => exact List.Subset.trans (by decide) hl)

theorem binOn_keeps {l : List Part} (hl : [.bins] ⊆ l) {s t : State} (h : KeepsAllBut l s t)
    (b : Nat) :
    KeepsAllBut l s (binOn b t) := by
  unfold binOn
  all_goals repeat' split
  all_goals repeat' first
    | with_reducible exact h
    | ((with_reducible refine putBin_keeps ?hs ?_ _ _); case hs => exact List.Subset.trans (by decide) hl)

theorem binOff_keeps {l : List Part} (hl : closeParts ⊆ l) {s t : State} (h : KeepsAllBut l s t)
    (b : Nat) :
    KeepsAllBut l s (binOff b t) := by
  unfold binOff
  all_goals repeat' first
    | with_reducible exact h
    | ((with_reducible refine closeIfOff_keeps ?hs ?_ _); case hs => exact List.Subset.trans (by decide) hl)
    | ((with_reducible refine putBin_keeps ?hs ?_ _ _); case hs => exact List.Subset.trans (by decide) hl)

theorem abortBin_keeps {l : List Part} (hl : (disposeParts ++ [.bins]) ⊆ l) {s t : State} (h : KeepsAllBut l s t)
    (b : Nat) :
    KeepsAllBut l s (abortBin b t) := by
  unfold abortBin
  all_goals repeat' first
    | with_reducible exact h
    | ((with_reducible refine dropFlight_keeps ?hs ?_ _ _); case hs => exact List.Subset.trans (by decide) hl)
    | ((with_reducible refine closeBundle_keeps ?hs ?_ _ _); case hs => exact List.Subset.trans (by decide) hl)
    | ((with_reducible refine disposeFlight_keeps ?hs ?_ _ _ _ _); case hs => exact List.Subset.trans (by decide) hl)
    | (with_reducible refine KeepsAllBut.fold (fun t a h => ?_) _ ?_)

theorem abortBins_keeps {l : List Part} (hl : (disposeParts ++ [.bins]) ⊆ l) {s t : State} (h : KeepsAllBut l s t) :
    KeepsAllBut l s (abortBins t) := by
  unfold abortBins
  all_goals repeat' first
    | with_reducible exact h
    | ((with_reducible refine abortBin_keeps ?hs ?_ _); case hs => exact List.Subset.trans (by decide) hl)
    | (with_reducible refine KeepsAllBut.fold (fun t a h => ?_) _ ?_)

theorem setCollecting_keeps {l : List Part} (hl : [.collecting] ⊆ l) {s t : State} (h : KeepsAllBut l s t)
    (x : Collecting) :
    KeepsAllBut l s (setCollecting x t) := by
  unfold setCollecting
  all_goals repeat' first
    | with_reducible exact h
    | ((with_reducible refine State.setCollation_keeps hl ?_ _ ?hk); case hk => intro p hp; cases p <;> first | rfl | exact absurd (by decide) hp)

theorem setStaging_keeps {l : List Part} (hl : [.staging] ⊆ l) {s t : State} (h : KeepsAllBut l s t)
    (x : Option Collation) :
    KeepsAllBut l s (setStaging x t) := by
  unfold setStaging
  all_goals repeat' first
    | with_reducible exact h
    | ((with_reducible refine State.setCollation_keeps hl ?_ _ ?hk); case hk => intro p hp; cases p <;> first | rfl | exact absurd (by decide) hp)

theorem missPageOnTrack_keeps {l : List Part} (hl : [.slots] ⊆ l) {s t : State} (h : KeepsAllBut l s t)
    (seq inc : Nat) :
    KeepsAllBut l s (missPageOnTrack seq inc t) := by
  unfold missPageOnTrack
  all_goals repeat' split
  all_goals repeat' first
    | with_reducible exact h
    | ((with_reducible refine updatePiece_keeps ?hs ?_ _ _); case hs => exact List.Subset.trans (by decide) hl)

theorem missPageBehind_keeps {l : List Part} (hl : [.staging, .slots] ⊆ l) {s t : State} (h : KeepsAllBut l s t)
    (seq inc : Nat) :
    KeepsAllBut l s (missPageBehind seq inc t) := by
  unfold missPageBehind
  all_goals repeat' split
  all_goals repeat' first
    | with_reducible exact h
    | ((with_reducible refine missPageOnTrack_keeps ?hs ?_ _ _); case hs => exact List.Subset.trans (by decide) hl)
    | ((with_reducible refine setStaging_keeps ?hs ?_ _); case hs => exact List.Subset.trans (by decide) hl)

theorem missPage_keeps {l : List Part} (hl : [.collecting, .staging, .slots] ⊆ l) {s t : State} (h : KeepsAllBut l s t)
    (seq inc : Nat) :
    KeepsAllBut l s (missPage seq inc t) := by
  unfold missPage
  all_goals repeat' split
  all_goals repeat' first
    | with_reducible exact h
    | ((with_reducible refine missPageBehind_keeps ?hs ?_ _ _); case hs => exact List.Subset.trans (by decide) hl)
    | ((with_reducible refine setCollecting_keeps ?hs ?_ _); case hs => exact List.Subset.trans (by decide) hl)

theorem sheetActionLost_keeps {l : List Part} (hl : (frameParts ++ [.collecting, .staging, .slots]) ⊆ l) {s t : State} (h : KeepsAllBut l s t)
    (dst : Node) (accept : Bool) (seq inc : Nat) :
    KeepsAllBut l s (sheetActionLost dst accept seq inc t) := by
  unfold sheetActionLost
  all_goals try dsimp only
  all_goals repeat' split
  all_goals repeat' first
    | with_reducible exact h
    | ((with_reducible refine missPage_keeps ?hs ?_ _ _); case hs => exact List.Subset.trans (by decide) hl)
    | ((with_reducible refine nodeAbsent_keeps ?hs ?_ _); case hs => exact List.Subset.trans (by decide) hl)

theorem answerSheet_keeps {l : List Part} (hl : (frameParts ++ [.collecting, .staging, .slots]) ⊆ l) {s t : State} (h : KeepsAllBut l s t)
    (serial : Nat) (v : SheetVerdict) (seq inc : Nat) :
    KeepsAllBut l s (answerSheet serial v seq inc t) := by
  unfold answerSheet
  all_goals repeat' split
  all_goals repeat' first
    | with_reducible exact h
    | ((with_reducible refine sheetActionLost_keeps ?hs ?_ _ _ _ _); case hs => exact List.Subset.trans (by decide) hl)
    | ((with_reducible refine pushOwn_keeps ?hs ?_ _ _); case hs => exact List.Subset.trans (by decide) hl)

theorem divertSheet_keeps {l : List Part} (hl : (frameParts ++ [.collecting, .staging, .slots]) ⊆ l) {s t : State} (h : KeepsAllBut l s t)
    (x : Scan) (r : DivertReason) :
    KeepsAllBut l s (divertSheet x r t) := by
  unfold divertSheet
  all_goals repeat' first
    | with_reducible exact h
    | ((with_reducible refine answerSheet_keeps ?hs ?_ _ _ _ _); case hs => exact List.Subset.trans (by decide) hl)

theorem moveToStaging_keeps {l : List Part} (hl : [.collecting, .staging] ⊆ l) {s t : State} (h : KeepsAllBut l s t) :
    KeepsAllBut l s (moveToStaging t) := by
  unfold moveToStaging
  all_goals repeat' split
  all_goals repeat' first
    | with_reducible exact h
    | ((with_reducible refine setStaging_keeps ?hs ?_ _); case hs => exact List.Subset.trans (by decide) hl)
    | ((with_reducible refine setCollecting_keeps ?hs ?_ _); case hs => exact List.Subset.trans (by decide) hl)

theorem endCollation_keeps {l : List Part} (hl : (endParts ++ [.collecting, .staging]) ⊆ l) {s t : State} (h : KeepsAllBut l s t)
    (c : Collation) :
    KeepsAllBut l s (endCollation c t) := by
  unfold endCollation
  all_goals repeat' split
  all_goals repeat' first
    | with_reducible exact h
    | ((with_reducible refine moveToStaging_keeps ?hs ?_); case hs => exact List.Subset.trans (by decide) hl)
    | ((with_reducible refine setCollecting_keeps ?hs ?_ _); case hs => exact List.Subset.trans (by decide) hl)
    | ((with_reducible refine drainCheck_keeps ?hs ?_); case hs => exact List.Subset.trans (by decide) hl)
    | ((with_reducible refine disposeCollation_keeps ?hs ?_ _ _); case hs => exact List.Subset.trans (by decide) hl)

theorem closeCollation_keeps {l : List Part} (hl : (endParts ++ [.collecting, .staging]) ⊆ l) {s t : State} (h : KeepsAllBut l s t)
    (c : Collation) :
    KeepsAllBut l s (closeCollation c t) := by
  unfold closeCollation
  all_goals repeat' first
    | with_reducible exact h
    | ((with_reducible refine endCollation_keeps ?hs ?_ _); case hs => exact List.Subset.trans (by decide) hl)

theorem closeAtLimit_keeps {l : List Part} (hl : (endParts ++ [.collecting, .staging]) ⊆ l) {s t : State} (h : KeepsAllBut l s t)
    (c : Collation) :
    KeepsAllBut l s (closeAtLimit c t) := by
  unfold closeAtLimit
  all_goals repeat' split
  all_goals repeat' first
    | with_reducible exact h
    | ((with_reducible refine closeCollation_keeps ?hs ?_ _); case hs => exact List.Subset.trans (by decide) hl)
    | ((with_reducible refine endCollation_keeps ?hs ?_ _); case hs => exact List.Subset.trans (by decide) hl)

theorem checkCompletion_keeps {l : List Part} (hl : (endParts ++ [.collecting, .staging]) ⊆ l) {s t : State} (h : KeepsAllBut l s t)
    (page : Nat) (cls : SheetClass) :
    KeepsAllBut l s (checkCompletion page cls t) := by
  unfold checkCompletion
  all_goals repeat' split
  all_goals repeat' first
    | with_reducible exact h
    | ((with_reducible refine closeAtLimit_keeps ?hs ?_ _); case hs => exact List.Subset.trans (by decide) hl)
    | ((with_reducible refine endCollation_keeps ?hs ?_ _); case hs => exact List.Subset.trans (by decide) hl)

theorem answerAdded_keeps {l : List Part} (hl : (frameParts ++ [.collecting, .staging, .slots]) ⊆ l) {s t : State} (h : KeepsAllBut l s t)
    (x : Scan) (c : Collation) :
    KeepsAllBut l s (answerAdded x c t) := by
  unfold answerAdded
  all_goals repeat' split
  all_goals repeat' first
    | with_reducible exact h
    | ((with_reducible refine divertSheet_keeps ?hs ?_ _ _); case hs => exact List.Subset.trans (by decide) hl)
    | ((with_reducible refine answerSheet_keeps ?hs ?_ _ _ _ _); case hs => exact List.Subset.trans (by decide) hl)

theorem addSheet_keeps {l : List Part} (hl : (endParts ++ [.collecting, .staging, .strays, .stocks, .slots]) ⊆ l) {s t : State} (h : KeepsAllBut l s t)
    (x : Scan) (page pages : Nat) (c : Collation) :
    KeepsAllBut l s (addSheet x page pages c t) := by
  unfold addSheet
  all_goals try dsimp only
  all_goals repeat' first
    | with_reducible exact h
    | ((with_reducible refine answerAdded_keeps ?hs ?_ _ _); case hs => exact List.Subset.trans (by decide) hl)
    | ((with_reducible refine checkCompletion_keeps ?hs ?_ _ _); case hs => exact List.Subset.trans (by decide) hl)
    | ((with_reducible refine putStock_keeps ?hs ?_ _ _); case hs => exact List.Subset.trans (by decide) hl)
    | ((with_reducible refine State.setCollation_keeps hl ?_ _ ?hk); case hk => intro p hp; cases p <;> first | rfl | exact absurd (by decide) hp)

theorem straySheet_keeps {l : List Part} (hl : (stateParts ++ [.collecting, .staging, .strays, .slots]) ⊆ l) {s t : State} (h : KeepsAllBut l s t)
    (x : Scan) :
    KeepsAllBut l s (straySheet x t) := by
  unfold straySheet
  all_goals try dsimp only
  all_goals repeat' split
  all_goals repeat' first
    | with_reducible exact h
    | ((with_reducible refine divertSheet_keeps ?hs ?_ _ _); case hs => exact List.Subset.trans (by decide) hl)
    | ((with_reducible refine requestStop_keeps ?hs ?_ _); case hs => exact List.Subset.trans (by decide) hl)
    | ((with_reducible refine raiseAlert_keeps ?hs ?_ _); case hs => exact List.Subset.trans (by decide) hl)
    | ((with_reducible refine State.setCollation_keeps hl ?_ _ ?hk); case hk => intro p hp; cases p <;> first | rfl | exact absurd (by decide) hp)

theorem overrunSheet_keeps {l : List Part} (hl : (stateParts ++ [.collecting, .staging, .slots]) ⊆ l) {s t : State} (h : KeepsAllBut l s t)
    (x : Scan) :
    KeepsAllBut l s (overrunSheet x t) := by
  unfold overrunSheet
  all_goals repeat' first
    | with_reducible exact h
    | ((with_reducible refine divertSheet_keeps ?hs ?_ _ _); case hs => exact List.Subset.trans (by decide) hl)
    | ((with_reducible refine requestStop_keeps ?hs ?_ _); case hs => exact List.Subset.trans (by decide) hl)
    | ((with_reducible refine raiseAlert_keeps ?hs ?_ _); case hs => exact List.Subset.trans (by decide) hl)

theorem reserveSheet_keeps {l : List Part} (hl : (frameParts ++ [.collecting, .staging, .slots]) ⊆ l) {s t : State} (h : KeepsAllBut l s t)
    (x : Scan) :
    KeepsAllBut l s (reserveSheet x t) := by
  unfold reserveSheet
  all_goals repeat' first
    | with_reducible exact h
    | ((with_reducible refine divertSheet_keeps ?hs ?_ _ _); case hs => exact List.Subset.trans (by decide) hl)
    | ((with_reducible refine raiseAlert_keeps ?hs ?_ _); case hs => exact List.Subset.trans (by decide) hl)

theorem openCollation_keeps {l : List Part} (hl : (endParts ++ [.held, .records, .collecting, .staging, .strays, .stocks, .slots]) ⊆ l) {s t : State} (h : KeepsAllBut l s t)
    (x : Scan) (page pages : Nat) (r : JobRecord) :
    KeepsAllBut l s (openCollation x page pages r t) := by
  unfold openCollation
  all_goals try dsimp only
  all_goals repeat' split
  all_goals repeat' first
    | with_reducible exact h
    | ((with_reducible refine addSheet_keeps ?hs ?_ _ _ _ _); case hs => exact List.Subset.trans (by decide) hl)
    | ((with_reducible refine setCollecting_keeps ?hs ?_ _); case hs => exact List.Subset.trans (by decide) hl)
    | ((with_reducible refine removeHead_keeps ?hs ?_); case hs => exact List.Subset.trans (by decide) hl)
    | ((with_reducible refine removeEntry_keeps ?hs ?_ _); case hs => exact List.Subset.trans (by decide) hl)

theorem judgeHead_keeps {l : List Part} (hl : (endParts ++ [.held, .records, .collecting, .staging, .strays, .stocks, .slots]) ⊆ l) {s t : State} (h : KeepsAllBut l s t)
    (x : Scan) :
    KeepsAllBut l s (judgeHead x t) := by
  unfold judgeHead
  all_goals repeat' split
  all_goals repeat' first
    | with_reducible exact h
    | ((with_reducible refine openCollation_keeps ?hs ?_ _ _ _ _); case hs => exact List.Subset.trans (by decide) hl)
    | ((with_reducible refine reserveSheet_keeps ?hs ?_ _); case hs => exact List.Subset.trans (by decide) hl)
    | ((with_reducible refine overrunSheet_keeps ?hs ?_ _); case hs => exact List.Subset.trans (by decide) hl)
    | ((with_reducible refine straySheet_keeps ?hs ?_ _); case hs => exact List.Subset.trans (by decide) hl)

theorem judgeCollecting_keeps {l : List Part} (hl : (endParts ++ [.held, .records, .collecting, .staging, .strays, .stocks, .slots]) ⊆ l) {s t : State} (h : KeepsAllBut l s t)
    (x : Scan) (c : Collation) :
    KeepsAllBut l s (judgeCollecting x c t) := by
  unfold judgeCollecting
  all_goals repeat' split
  all_goals repeat' first
    | with_reducible exact h
    | ((with_reducible refine judgeHead_keeps ?hs ?_ _); case hs => exact List.Subset.trans (by decide) hl)
    | ((with_reducible refine addSheet_keeps ?hs ?_ _ _ _ _); case hs => exact List.Subset.trans (by decide) hl)
    | ((with_reducible refine closeCollation_keeps ?hs ?_ _); case hs => exact List.Subset.trans (by decide) hl)
    | ((with_reducible refine divertSheet_keeps ?hs ?_ _ _); case hs => exact List.Subset.trans (by decide) hl)
    | ((with_reducible refine setCollecting_keeps ?hs ?_ _); case hs => exact List.Subset.trans (by decide) hl)

theorem takeScan_keeps {l : List Part} (hl : (endParts ++ [.held, .records, .collecting, .staging, .strays, .stocks, .slots]) ⊆ l) {s t : State} (h : KeepsAllBut l s t)
    (x : Scan) :
    KeepsAllBut l s (takeScan x t) := by
  unfold takeScan
  all_goals repeat' split
  all_goals repeat' first
    | with_reducible exact h
    | ((with_reducible refine judgeCollecting_keeps ?hs ?_ _ _); case hs => exact List.Subset.trans (by decide) hl)
    | ((with_reducible refine judgeHead_keeps ?hs ?_ _); case hs => exact List.Subset.trans (by decide) hl)
    | ((with_reducible refine divertSheet_keeps ?hs ?_ _ _); case hs => exact List.Subset.trans (by decide) hl)

theorem flushPocket_keeps {l : List Part} (hl : (endParts ++ [.collecting, .staging]) ⊆ l) {s t : State} (h : KeepsAllBut l s t) :
    KeepsAllBut l s (flushPocket t) := by
  unfold flushPocket
  all_goals repeat' split
  all_goals repeat' first
    | with_reducible exact h
    | ((with_reducible refine closeCollation_keeps ?hs ?_ _); case hs => exact List.Subset.trans (by decide) hl)

theorem disposeStaging_keeps {l : List Part} (hl : (disposeParts ++ [.staging]) ⊆ l) {s t : State} (h : KeepsAllBut l s t)
    (d : Disposition) :
    KeepsAllBut l s (disposeStaging d t) := by
  unfold disposeStaging
  all_goals repeat' split
  all_goals repeat' first
    | with_reducible exact h
    | ((with_reducible refine setStaging_keeps ?hs ?_ _); case hs => exact List.Subset.trans (by decide) hl)
    | ((with_reducible refine disposeCollation_keeps ?hs ?_ _ _); case hs => exact List.Subset.trans (by decide) hl)

theorem disposeCollecting_keeps {l : List Part} (hl : (disposeParts ++ [.collecting]) ⊆ l) {s t : State} (h : KeepsAllBut l s t)
    (d : Disposition) :
    KeepsAllBut l s (disposeCollecting d t) := by
  unfold disposeCollecting
  all_goals repeat' split
  all_goals repeat' first
    | with_reducible exact h
    | ((with_reducible refine setCollecting_keeps ?hs ?_ _); case hs => exact List.Subset.trans (by decide) hl)
    | ((with_reducible refine disposeCollation_keeps ?hs ?_ _ _); case hs => exact List.Subset.trans (by decide) hl)

theorem markPitch_keeps {l : List Part} (hl : [.own, .position, .boundary, .pitch] ⊆ l) {s t : State} (h : KeepsAllBut l s t) :
    KeepsAllBut l s (markPitch t) := by
  unfold markPitch
  all_goals try dsimp only
  all_goals repeat' split
  all_goals repeat' first
    | with_reducible exact h
    | ((with_reducible refine sendPlain_keeps ?hs ?_ _ _); case hs => exact List.Subset.trans (by decide) hl)
    | ((with_reducible refine State.setTrack_keeps hl ?_ _ ?hk); case hk => intro p hp; cases p <;> first | rfl | exact absurd (by decide) hp)

theorem moveSlots_keeps {l : List Part} (hl : [.slots] ⊆ l) {s t : State} (h : KeepsAllBut l s t) :
    KeepsAllBut l s (moveSlots t) := by
  unfold moveSlots
  all_goals repeat' first
    | with_reducible exact h
    | ((with_reducible refine State.setTrack_keeps hl ?_ _ ?hk); case hk => intro p hp; cases p <;> first | rfl | exact absurd (by decide) hp)

theorem passAllWindows_keeps {l : List Part} (hl : [.slots] ⊆ l) {s t : State} (h : KeepsAllBut l s t) :
    KeepsAllBut l s (passAllWindows t) := by
  unfold passAllWindows
  all_goals repeat' first
    | with_reducible exact h
    | ((with_reducible refine State.setTrack_keeps hl ?_ _ ?hk); case hk => intro p hp; cases p <;> first | rfl | exact absurd (by decide) hp)

theorem sendFold_keeps {l : List Part} (hl : frameParts ⊆ l) {s t : State} (h : KeepsAllBut l s t)
    (panels : Nat) :
    KeepsAllBut l s (sendFold panels t) := by
  unfold sendFold
  all_goals repeat' split
  all_goals repeat' first
    | with_reducible exact h
    | ((with_reducible refine sendStation_keeps ?hs ?_ _ _); case hs => exact List.Subset.trans (by decide) hl)

theorem releaseStaging_keeps {l : List Part} (hl : (frameParts ++ [.collecting, .staging, .slots, .nextSerial, .pageUse, .groups]) ⊆ l) {s t : State} (h : KeepsAllBut l s t) :
    KeepsAllBut l s (releaseStaging t) := by
  unfold releaseStaging
  all_goals repeat' split
  all_goals repeat' first
    | with_reducible exact h
    | ((with_reducible refine sendFold_keeps ?hs ?_ _); case hs => exact List.Subset.trans (by decide) hl)
    | ((with_reducible refine moveToStaging_keeps ?hs ?_); case hs => exact List.Subset.trans (by decide) hl)
    | ((with_reducible refine setStaging_keeps ?hs ?_ _); case hs => exact List.Subset.trans (by decide) hl)
    | ((with_reducible refine commit_keeps ?hs ?_ _); case hs => exact List.Subset.trans (by decide) hl)

theorem advance_keeps {l : List Part} (hl : (endParts ++ [.collecting, .staging, .slots, .position, .boundary, .pitch, .nextSerial, .divertSerials, .pageUse, .groups]) ⊆ l) {s t : State} (h : KeepsAllBut l s t) :
    KeepsAllBut l s (advance t) := by
  unfold advance
  all_goals repeat' first
    | with_reducible exact h
    | ((with_reducible refine releaseStaging_keeps ?hs ?_); case hs => exact List.Subset.trans (by decide) hl)
    | ((with_reducible refine moveSlots_keeps ?hs ?_); case hs => exact List.Subset.trans (by decide) hl)
    | ((with_reducible refine markPitch_keeps ?hs ?_); case hs => exact List.Subset.trans (by decide) hl)
    | ((with_reducible refine exitSlot_keeps ?hs ?_); case hs => exact List.Subset.trans (by decide) hl)
    | ((with_reducible refine sorterTimeouts_keeps ?hs ?_); case hs => exact List.Subset.trans (by decide) hl)
    | ((with_reducible refine arrivals_keeps ?hs ?_); case hs => exact List.Subset.trans (by decide) hl)

theorem forwardPulse_keeps {l : List Part} (hl : (endParts ++ [.collecting, .staging, .slots, .position, .boundary, .pitch, .nextSerial, .divertSerials, .pageUse, .groups]) ⊆ l) {s t : State} (h : KeepsAllBut l s t) :
    KeepsAllBut l s (forwardPulse t) := by
  unfold forwardPulse
  all_goals try dsimp only
  all_goals repeat' split
  all_goals repeat' first
    | with_reducible exact h
    | ((with_reducible refine advance_keeps ?hs ?_); case hs => exact List.Subset.trans (by decide) hl)
    | ((with_reducible refine State.setTrack_keeps hl ?_ _ ?hk); case hk => intro p hp; cases p <;> first | rfl | exact absurd (by decide) hp)

theorem reversePulse_keeps {l : List Part} (hl : [.position] ⊆ l) {s t : State} (h : KeepsAllBut l s t) :
    KeepsAllBut l s (reversePulse t) := by
  unfold reversePulse
  all_goals repeat' split
  all_goals repeat' first
    | with_reducible exact h
    | ((with_reducible refine State.setTrack_keeps hl ?_ _ ?hk); case hk => intro p hp; cases p <;> first | rfl | exact absurd (by decide) hp)

theorem encoderError_keeps {l : List Part} (hl : [.encoderErrors] ⊆ l) {s t : State} (h : KeepsAllBut l s t) :
    KeepsAllBut l s (encoderError t) := by
  unfold encoderError
  all_goals repeat' first
    | with_reducible exact h
    | ((with_reducible refine State.setTrack_keeps hl ?_ _ ?hk); case hk => intro p hp; cases p <;> first | rfl | exact absurd (by decide) hp)

theorem encoderStep_keeps {l : List Part} (hl : (endParts ++ [.collecting, .staging, .slots, .position, .boundary, .pitch, .encoderErrors, .nextSerial, .divertSerials, .pageUse, .groups]) ⊆ l) {s t : State} (h : KeepsAllBut l s t)
    (e : EncoderStep) :
    KeepsAllBut l s (encoderStep e t) := by
  cases e <;> unfold encoderStep
  all_goals repeat' split
  all_goals repeat' first
    | with_reducible exact h
    | ((with_reducible refine encoderError_keeps ?hs ?_); case hs => exact List.Subset.trans (by decide) hl)
    | ((with_reducible refine reversePulse_keeps ?hs ?_); case hs => exact List.Subset.trans (by decide) hl)
    | ((with_reducible refine forwardPulse_keeps ?hs ?_); case hs => exact List.Subset.trans (by decide) hl)

theorem removePiece_keeps {l : List Part} (hl : (disposeParts ++ [.slots, .pageUse, .groups]) ⊆ l) {s t : State} (h : KeepsAllBut l s t)
    (d : Disposition) (n : Nat) :
    KeepsAllBut l s (removePiece d n t) := by
  unfold removePiece
  all_goals repeat' split
  all_goals repeat' first
    | with_reducible exact h
    | ((with_reducible refine lowerMatchCounts_keeps ?hs ?_ _); case hs => exact List.Subset.trans (by decide) hl)
    | ((with_reducible refine disposePiece_keeps ?hs ?_ _ _ _); case hs => exact List.Subset.trans (by decide) hl)
    | ((with_reducible refine putSlot_keeps ?hs ?_ _ _); case hs => exact List.Subset.trans (by decide) hl)

theorem abortTrack_keeps {l : List Part} (hl : (disposeParts ++ [.slots, .pageUse, .groups]) ⊆ l) {s t : State} (h : KeepsAllBut l s t) :
    KeepsAllBut l s (abortTrack t) := by
  unfold abortTrack
  all_goals repeat' first
    | with_reducible exact h
    | ((with_reducible refine removePiece_keeps ?hs ?_ _ _); case hs => exact List.Subset.trans (by decide) hl)
    | (with_reducible refine KeepsAllBut.fold (fun t a h => ?_) _ ?_)

theorem clearRange_keeps {l : List Part} (hl : (disposeParts ++ [.slots, .pageUse, .groups]) ⊆ l) {s t : State} (h : KeepsAllBut l s t)
    (first last : Nat) :
    KeepsAllBut l s (clearRange first last t) := by
  unfold clearRange
  all_goals repeat' first
    | with_reducible exact h
    | ((with_reducible refine removePiece_keeps ?hs ?_ _ _); case hs => exact List.Subset.trans (by decide) hl)
    | (with_reducible refine KeepsAllBut.fold (fun t a h => ?_) _ ?_)

theorem countAccepted_keeps {l : List Part} (hl : [.counters] ⊆ l) {s t : State} (h : KeepsAllBut l s t) :
    KeepsAllBut l s (countAccepted t) := by
  unfold countAccepted
  all_goals repeat' first
    | with_reducible exact h
    | ((with_reducible refine State.setLine_keeps hl ?_ _ ?hk); case hk => intro p hp; cases p <;> first | rfl | exact absurd (by decide) hp)

theorem acceptRecord_keeps {l : List Part} (hl : (permitParts ++ [.held, .records, .last, .reprints, .counters]) ⊆ l) {s t : State} (h : KeepsAllBut l s t)
    (r : JobRecord) :
    KeepsAllBut l s (acceptRecord r t) := by
  unfold acceptRecord
  all_goals try dsimp only
  all_goals repeat' split
  all_goals repeat' first
    | with_reducible exact h
    | ((with_reducible refine countAccepted_keeps ?hs ?_); case hs => exact List.Subset.trans (by decide) hl)
    | ((with_reducible refine queueEntry_keeps ?hs ?_ _); case hs => exact List.Subset.trans (by decide) hl)
    | ((with_reducible refine evalPermit_keeps ?hs ?_); case hs => exact List.Subset.trans (by decide) hl)
    | ((with_reducible refine checkHold_keeps ?hs ?_); case hs => exact List.Subset.trans (by decide) hl)
    | ((with_reducible refine State.setQueue_keeps hl ?_ _ ?hk); case hk => intro p hp; cases p <;> first | rfl | exact absurd (by decide) hp)

theorem recordRequest_keeps {l : List Part} (hl : (permitParts ++ [.held, .records, .last, .reprints, .counters]) ⊆ l) {s t : State} (h : KeepsAllBut l s t)
    (tag : Byte) (body : List Byte) :
    KeepsAllBut l s (recordRequest tag body t) := by
  unfold recordRequest
  all_goals repeat' split
  all_goals repeat' first
    | with_reducible exact h
    | ((with_reducible refine acceptRecord_keeps ?hs ?_ _); case hs => exact List.Subset.trans (by decide) hl)
    | ((with_reducible refine raiseAlert_keeps ?hs ?_ _); case hs => exact List.Subset.trans (by decide) hl)
    | ((with_reducible refine sendAnswer_keeps ?hs ?_ _ _ _); case hs => exact List.Subset.trans (by decide) hl)

theorem skipHead_keeps {l : List Part} (hl : (disposeParts ++ [.held, .records]) ⊆ l) {s t : State} (h : KeepsAllBut l s t)
    (r : JobRecord) :
    KeepsAllBut l s (skipHead r t) := by
  unfold skipHead
  all_goals repeat' split
  all_goals repeat' first
    | with_reducible exact h
    | ((with_reducible refine removeHead_keeps ?hs ?_); case hs => exact List.Subset.trans (by decide) hl)
    | ((with_reducible refine dispose_keeps ?hs ?_ _ _ _); case hs => exact List.Subset.trans (by decide) hl)

theorem logReadRequest_keeps {l : List Part} (hl : (permitParts ++ [.logRecords]) ⊆ l) {s t : State} (h : KeepsAllBut l s t)
    (tag : Byte) (operands : List Byte) :
    KeepsAllBut l s (logReadRequest tag operands t) := by
  unfold logReadRequest
  all_goals try dsimp only
  all_goals repeat' split
  all_goals repeat' first
    | with_reducible exact h
    | ((with_reducible refine evalPermit_keeps ?hs ?_); case hs => exact List.Subset.trans (by decide) hl)
    | ((with_reducible refine sendAnswer_keeps ?hs ?_ _ _ _); case hs => exact List.Subset.trans (by decide) hl)
    | ((with_reducible refine State.setLog_keeps hl ?_ _ ?hk); case hk => intro p hp; cases p <;> first | rfl | exact absurd (by decide) hp)

theorem reprintReadRequest_keeps {l : List Part} (hl : [.own, .reprints] ⊆ l) {s t : State} (h : KeepsAllBut l s t)
    (tag : Byte) (operands : List Byte) :
    KeepsAllBut l s (reprintReadRequest tag operands t) := by
  unfold reprintReadRequest
  all_goals try dsimp only
  all_goals repeat' split
  all_goals repeat' first
    | with_reducible exact h
    | ((with_reducible refine sendAnswer_keeps ?hs ?_ _ _ _); case hs => exact List.Subset.trans (by decide) hl)
    | ((with_reducible refine State.setReprints_keeps hl ?_ _ ?hk); case hk => intro p hp; cases p <;> first | rfl | exact absurd (by decide) hp)

theorem clearLate_keeps {l : List Part} (hl : [.stations] ⊆ l) {s t : State} (h : KeepsAllBut l s t) :
    KeepsAllBut l s (clearLate t) := by
  unfold clearLate
  all_goals repeat' first
    | with_reducible exact h
    | ((with_reducible refine State.setTrack_keeps hl ?_ _ ?hk); case hk => intro p hp; cases p <;> first | rfl | exact absurd (by decide) hp)

theorem clearTrack_keeps {l : List Part} (hl : [.slots, .position, .boundary, .pitch, .encoderErrors, .stations, .nextSerial, .jamSlot] ⊆ l) {s t : State} (h : KeepsAllBut l s t) :
    KeepsAllBut l s (clearTrack t) := by
  unfold clearTrack
  all_goals repeat' first
    | with_reducible exact h
    | ((with_reducible refine clearLate_keeps ?hs ?_); case hs => exact List.Subset.trans (by decide) hl)
    | ((with_reducible refine State.setTrack_keeps hl ?_ _ ?hk); case hk => intro p hp; cases p <;> first | rfl | exact absurd (by decide) hp)

theorem clearPockets_keeps {l : List Part} (hl : [.collecting, .staging, .strays] ⊆ l) {s t : State} (h : KeepsAllBut l s t) :
    KeepsAllBut l s (clearPockets t) := by
  unfold clearPockets
  all_goals repeat' first
    | with_reducible exact h
    | ((with_reducible refine State.setCollation_keeps hl ?_ _ ?hk); case hk => intro p hp; cases p <;> first | rfl | exact absurd (by decide) hp)

theorem releaseHeader_keeps {l : List Part} (hl : [.ending, .runId, .locked, .counters] ⊆ l) {s t : State} (h : KeepsAllBut l s t) :
    KeepsAllBut l s (releaseHeader t) := by
  unfold releaseHeader
  all_goals repeat' first
    | with_reducible exact h
    | ((with_reducible refine State.setLine_keeps hl ?_ _ ?hk); case hk => intro p hp; cases p <;> first | rfl | exact absurd (by decide) hp)

theorem resetQueue_keeps {l : List Part} (hl : [.own, .held, .records, .last] ⊆ l) {s t : State} (h : KeepsAllBut l s t) :
    KeepsAllBut l s (resetQueue t) := by
  unfold resetQueue
  all_goals try dsimp only
  all_goals repeat' split
  all_goals repeat' first
    | with_reducible exact h
    | ((with_reducible refine releaseFlow_keeps ?hs ?_); case hs => exact List.Subset.trans (by decide) hl)
    | ((with_reducible refine State.setQueue_keeps hl ?_ _ ?hk); case hk => intro p hp; cases p <;> first | rfl | exact absurd (by decide) hp)

theorem resetSort_keeps {l : List Part} (hl : [.pageUse, .groups, .bins] ⊆ l) {s t : State} (h : KeepsAllBut l s t) :
    KeepsAllBut l s (resetSort t) := by
  unfold resetSort
  all_goals repeat' first
    | with_reducible exact h
    | ((with_reducible refine State.setSort_keeps hl ?_ _ ?hk); case hk => intro p hp; cases p <;> first | rfl | exact absurd (by decide) hp)

theorem setEnding_keeps {l : List Part} (hl : (permitParts ++ [.ending]) ⊆ l) {s t : State} (h : KeepsAllBut l s t) :
    KeepsAllBut l s (setEnding t) := by
  unfold setEnding
  all_goals repeat' first
    | with_reducible exact h
    | ((with_reducible refine evalPermit_keeps ?hs ?_); case hs => exact List.Subset.trans (by decide) hl)
    | ((with_reducible refine State.setLine_keeps hl ?_ _ ?hk); case hk => intro p hp; cases p <;> first | rfl | exact absurd (by decide) hp)

theorem sendNext_keeps {l : List Part} (hl : [.own, .forward, .out] ⊆ l) {s t : State} (h : KeepsAllBut l s t) :
    KeepsAllBut l s (sendNext t) := by
  unfold sendNext
  all_goals repeat' split
  all_goals repeat' first
    | with_reducible exact h
    | ((with_reducible refine State.setRing_keeps hl ?_ _ ?hk); case hk => intro p hp; cases p <;> first | rfl | exact absurd (by decide) hp)

theorem loseLink_keeps {l : List Part} (hl : (stateParts ++ [.forward, .linkUp]) ⊆ l) {s t : State} (h : KeepsAllBut l s t) :
    KeepsAllBut l s (loseLink t) := by
  unfold loseLink
  all_goals repeat' first
    | with_reducible exact h
    | ((with_reducible refine requestStop_keeps ?hs ?_ _); case hs => exact List.Subset.trans (by decide) hl)
    | ((with_reducible refine raiseAlert_keeps ?hs ?_ _); case hs => exact List.Subset.trans (by decide) hl)
    | ((with_reducible refine State.setRing_keeps hl ?_ _ ?hk); case hk => intro p hp; cases p <;> first | rfl | exact absurd (by decide) hp)

theorem regainLink_keeps {l : List Part} (hl : [.own, .linkUp, .alerts] ⊆ l) {s t : State} (h : KeepsAllBut l s t) :
    KeepsAllBut l s (regainLink t) := by
  unfold regainLink
  all_goals repeat' first
    | with_reducible exact h
    | ((with_reducible refine raiseAlert_keeps ?hs ?_ _); case hs => exact List.Subset.trans (by decide) hl)
    | ((with_reducible refine State.setRing_keeps hl ?_ _ ?hk); case hk => intro p hp; cases p <;> first | rfl | exact absurd (by decide) hp)

theorem statusReport_keeps {l : List Part} (hl : frameParts ⊆ l) {s t : State} (h : KeepsAllBut l s t)
    (i : Nat) (e : StationEntry) (value : Byte) :
    KeepsAllBut l s (statusReport i e value t) := by
  unfold statusReport
  all_goals try dsimp only
  all_goals repeat' split
  all_goals repeat' first
    | with_reducible exact h
    | ((with_reducible refine putStation_keeps ?hs ?_ _ _); case hs => exact List.Subset.trans (by decide) hl)
    | ((with_reducible refine raiseAlert_keeps ?hs ?_ _); case hs => exact List.Subset.trans (by decide) hl)

theorem occupancyFault_keeps {l : List Part} (hl : (stateParts ++ [.slots, .jamSlot]) ⊆ l) {s t : State} (h : KeepsAllBut l s t)
    (slot : Nat) :
    KeepsAllBut l s (occupancyFault slot t) := by
  unfold occupancyFault
  all_goals try dsimp only
  all_goals repeat' first
    | with_reducible exact h
    | ((with_reducible refine updatePiece_keeps ?hs ?_ _ _); case hs => exact List.Subset.trans (by decide) hl)
    | ((with_reducible refine requestStop_keeps ?hs ?_ _); case hs => exact List.Subset.trans (by decide) hl)
    | ((with_reducible refine raiseAlert_keeps ?hs ?_ _); case hs => exact List.Subset.trans (by decide) hl)
    | ((with_reducible refine State.setTrack_keeps hl ?_ _ ?hk); case hk => intro p hp; cases p <;> first | rfl | exact absurd (by decide) hp)

theorem slotReport_keeps {l : List Part} (hl : (stateParts ++ [.slots, .jamSlot]) ⊆ l) {s t : State} (h : KeepsAllBut l s t)
    (i : Nat) (e : StationEntry) (pitch occupancy : Byte) :
    KeepsAllBut l s (slotReport i e pitch occupancy t) := by
  unfold slotReport
  all_goals repeat' split
  all_goals repeat' first
    | with_reducible exact h
    | ((with_reducible refine occupancyFault_keeps ?hs ?_ _); case hs => exact List.Subset.trans (by decide) hl)
    | ((with_reducible refine lateReport_keeps ?hs ?_ _ _); case hs => exact List.Subset.trans (by decide) hl)

theorem feedReport_keeps {l : List Part} (hl : (frameParts ++ [.slots]) ⊆ l) {s t : State} (h : KeepsAllBut l s t)
    (i : Nat) (e : StationEntry) (tag result : Byte) :
    KeepsAllBut l s (feedReport i e tag result t) := by
  unfold feedReport
  all_goals repeat' split
  all_goals repeat' first
    | with_reducible exact h
    | ((with_reducible refine feedOutcomeAt_keeps ?hs ?_ _ _ _ _); case hs => exact List.Subset.trans (by decide) hl)
    | ((with_reducible refine lateReport_keeps ?hs ?_ _ _); case hs => exact List.Subset.trans (by decide) hl)

theorem envReport_keeps {l : List Part} (hl : (frameParts ++ [.slots]) ⊆ l) {s t : State} (h : KeepsAllBut l s t)
    (i : Nat) (e : StationEntry) (tag result : Byte) :
    KeepsAllBut l s (envReport i e tag result t) := by
  unfold envReport
  all_goals repeat' split
  all_goals repeat' first
    | with_reducible exact h
    | ((with_reducible refine updatePiece_keeps ?hs ?_ _ _); case hs => exact List.Subset.trans (by decide) hl)
    | ((with_reducible refine lateReport_keeps ?hs ?_ _ _); case hs => exact List.Subset.trans (by decide) hl)

theorem mismatchAt_keeps {l : List Part} (hl : (stateParts ++ [.slots]) ⊆ l) {s t : State} (h : KeepsAllBut l s t)
    (n i seq inc : Nat) (p : Piece) :
    KeepsAllBut l s (mismatchAt n i seq inc p t) := by
  unfold mismatchAt
  all_goals try dsimp only
  all_goals repeat' first
    | with_reducible exact h
    | ((with_reducible refine requestStop_keeps ?hs ?_ _); case hs => exact List.Subset.trans (by decide) hl)
    | ((with_reducible refine putSlot_keeps ?hs ?_ _ _); case hs => exact List.Subset.trans (by decide) hl)
    | ((with_reducible refine raiseAlert_keeps ?hs ?_ _); case hs => exact List.Subset.trans (by decide) hl)

theorem readAt_keeps {l : List Part} (hl : (stateParts ++ [.slots]) ⊆ l) {s t : State} (h : KeepsAllBut l s t)
    (n i : Nat) (value : Option (Nat × Nat)) :
    KeepsAllBut l s (readAt n i value t) := by
  unfold readAt
  all_goals repeat' split
  all_goals repeat' first
    | with_reducible exact h
    | ((with_reducible refine mismatchAt_keeps ?hs ?_ _ _ _ _ _); case hs => exact List.Subset.trans (by decide) hl)
    | ((with_reducible refine putSlot_keeps ?hs ?_ _ _); case hs => exact List.Subset.trans (by decide) hl)

theorem addrReport_keeps {l : List Part} (hl : (stateParts ++ [.slots]) ⊆ l) {s t : State} (h : KeepsAllBut l s t)
    (i : Nat) (e : StationEntry) (tag result : Byte) (seq : BitVec 24) (inc : Byte) :
    KeepsAllBut l s (addrReport i e tag result seq inc t) := by
  unfold addrReport
  all_goals repeat' split
  all_goals repeat' first
    | with_reducible exact h
    | ((with_reducible refine readAt_keeps ?hs ?_ _ _ _); case hs => exact List.Subset.trans (by decide) hl)
    | ((with_reducible refine lateReport_keeps ?hs ?_ _ _); case hs => exact List.Subset.trans (by decide) hl)

theorem startRun_keeps {l : List Part} (hl : (stateParts ++ [.logRecords, .logSerial, .logLost]) ⊆ l) {s t : State} (h : KeepsAllBut l s t) :
    KeepsAllBut l s (startRun t) := by
  unfold startRun
  all_goals repeat' first
    | with_reducible exact h
    | ((with_reducible refine writeLog_keeps ?hs ?_ _); case hs => exact List.Subset.trans (by decide) hl)
    | ((with_reducible refine enterState_keeps ?hs ?_ _ _); case hs => exact List.Subset.trans (by decide) hl)

theorem resumeRun_keeps {l : List Part} (hl : (closeParts ++ [.runState, .reason, .drive]) ⊆ l) {s t : State} (h : KeepsAllBut l s t) :
    KeepsAllBut l s (resumeRun t) := by
  unfold resumeRun
  all_goals repeat' split
  all_goals repeat' first
    | with_reducible exact h
    | ((with_reducible refine drainCheck_keeps ?hs ?_); case hs => exact List.Subset.trans (by decide) hl)
    | ((with_reducible refine enterState_keeps ?hs ?_ _ _); case hs => exact List.Subset.trans (by decide) hl)

theorem flushCheck_keeps {l : List Part} (hl : (closeParts ++ [.runState, .reason, .drive]) ⊆ l) {s t : State} (h : KeepsAllBut l s t) :
    KeepsAllBut l s (flushCheck t) := by
  unfold flushCheck
  all_goals repeat' split
  all_goals repeat' first
    | with_reducible exact h
    | ((with_reducible refine completeDrain_keeps ?hs ?_); case hs => exact List.Subset.trans (by decide) hl)

theorem flushRun_keeps {l : List Part} (hl : (endParts ++ [.held, .records, .collecting, .staging, .ending]) ⊆ l) {s t : State} (h : KeepsAllBut l s t) :
    KeepsAllBut l s (flushRun t) := by
  unfold flushRun
  all_goals try dsimp only
  all_goals repeat' split
  all_goals repeat' first
    | with_reducible exact h
    | ((with_reducible refine flushCheck_keeps ?hs ?_); case hs => exact List.Subset.trans (by decide) hl)
    | ((with_reducible refine setEnding_keeps ?hs ?_); case hs => exact List.Subset.trans (by decide) hl)
    | ((with_reducible refine flushPocket_keeps ?hs ?_); case hs => exact List.Subset.trans (by decide) hl)
    | ((with_reducible refine unfedAll_keeps ?hs ?_); case hs => exact List.Subset.trans (by decide) hl)
    | ((with_reducible refine writeLog_keeps ?hs ?_ _); case hs => exact List.Subset.trans (by decide) hl)
    | ((with_reducible refine enterState_keeps ?hs ?_ _ _); case hs => exact List.Subset.trans (by decide) hl)

theorem abortRun_keeps {l : List Part} (hl : (endParts ++ [.held, .records, .collecting, .staging, .slots, .pageUse, .groups, .ending]) ⊆ l) {s t : State} (h : KeepsAllBut l s t) :
    KeepsAllBut l s (abortRun t) := by
  unfold abortRun
  all_goals try dsimp only
  all_goals repeat' first
    | with_reducible exact h
    | ((with_reducible refine setEnding_keeps ?hs ?_); case hs => exact List.Subset.trans (by decide) hl)
    | ((with_reducible refine abortTrack_keeps ?hs ?_); case hs => exact List.Subset.trans (by decide) hl)
    | ((with_reducible refine disposeCollecting_keeps ?hs ?_ _); case hs => exact List.Subset.trans (by decide) hl)
    | ((with_reducible refine disposeStaging_keeps ?hs ?_ _); case hs => exact List.Subset.trans (by decide) hl)
    | ((with_reducible refine abortBins_keeps ?hs ?_); case hs => exact List.Subset.trans (by decide) hl)
    | ((with_reducible refine unfedAll_keeps ?hs ?_); case hs => exact List.Subset.trans (by decide) hl)
    | ((with_reducible refine writeLog_keeps ?hs ?_ _); case hs => exact List.Subset.trans (by decide) hl)
    | ((with_reducible refine enterState_keeps ?hs ?_ _ _); case hs => exact List.Subset.trans (by decide) hl)
    | ((with_reducible refine State.setLine_keeps hl ?_ _ ?hk); case hk => intro p hp; cases p <;> first | rfl | exact absurd (by decide) hp)

theorem closeRun_keeps {l : List Part} (hl : (stateParts ++ [.last, .reprints, .ending, .runId, .locked, .counters]) ⊆ l) {s t : State} (h : KeepsAllBut l s t) :
    KeepsAllBut l s (closeRun t) := by
  unfold closeRun
  all_goals try dsimp only
  all_goals repeat' first
    | with_reducible exact h
    | ((with_reducible refine releaseHeader_keeps ?hs ?_); case hs => exact List.Subset.trans (by decide) hl)
    | ((with_reducible refine enterState_keeps ?hs ?_ _ _); case hs => exact List.Subset.trans (by decide) hl)
    | ((with_reducible refine State.setQueue_keeps hl ?_ _ ?hk); case hk => intro p hp; cases p <;> first | rfl | exact absurd (by decide) hp)
    | ((with_reducible refine State.setReprints_keeps hl ?_ _ ?hk); case hk => intro p hp; cases p <;> first | rfl | exact absurd (by decide) hp)

theorem openRun_keeps {l : List Part} (hl : (stateParts ++ [.last, .collecting, .staging, .strays, .stocks, .slots, .position, .boundary, .pitch, .encoderErrors, .nextSerial, .jamSlot, .logRecords, .logSerial, .logLost, .runId, .locked, .counters]) ⊆ l) {s t : State} (h : KeepsAllBut l s t)
    (id : Word) :
    KeepsAllBut l s (openRun id t) := by
  unfold openRun
  all_goals try dsimp only
  all_goals repeat' first
    | with_reducible exact h
    | ((with_reducible refine clearPockets_keeps ?hs ?_); case hs => exact List.Subset.trans (by decide) hl)
    | ((with_reducible refine clearTrack_keeps ?hs ?_); case hs => exact List.Subset.trans (by decide) hl)
    | ((with_reducible refine emptyRings_keeps ?hs ?_); case hs => exact List.Subset.trans (by decide) hl)
    | ((with_reducible refine writeLog_keeps ?hs ?_ _); case hs => exact List.Subset.trans (by decide) hl)
    | ((with_reducible refine enterState_keeps ?hs ?_ _ _); case hs => exact List.Subset.trans (by decide) hl)
    | ((with_reducible refine State.setQueue_keeps hl ?_ _ ?hk); case hk => intro p hp; cases p <;> first | rfl | exact absurd (by decide) hp)
    | ((with_reducible refine State.setLine_keeps hl ?_ _ ?hk); case hk => intro p hp; cases p <;> first | rfl | exact absurd (by decide) hp)

theorem resetLine_keeps {l : List Part} (hl : (endParts ++ [.held, .records, .last, .collecting, .staging, .strays, .stocks, .slots, .position, .boundary, .pitch, .encoderErrors, .nextSerial, .jamSlot, .pageUse, .groups, .ending, .runId, .locked]) ⊆ l) {s t : State} (h : KeepsAllBut l s t) :
    KeepsAllBut l s (resetLine t) := by
  unfold resetLine
  all_goals try dsimp only
  all_goals repeat' first
    | with_reducible exact h
    | ((with_reducible refine resetSort_keeps ?hs ?_); case hs => exact List.Subset.trans (by decide) hl)
    | ((with_reducible refine resetQueue_keeps ?hs ?_); case hs => exact List.Subset.trans (by decide) hl)
    | ((with_reducible refine releaseHeader_keeps ?hs ?_); case hs => exact List.Subset.trans (by decide) hl)
    | ((with_reducible refine clearPockets_keeps ?hs ?_); case hs => exact List.Subset.trans (by decide) hl)
    | ((with_reducible refine clearTrack_keeps ?hs ?_); case hs => exact List.Subset.trans (by decide) hl)
    | ((with_reducible refine emptyRings_keeps ?hs ?_); case hs => exact List.Subset.trans (by decide) hl)
    | ((with_reducible refine writeLog_keeps ?hs ?_ _); case hs => exact List.Subset.trans (by decide) hl)
    | ((with_reducible refine enterState_keeps ?hs ?_ _ _); case hs => exact List.Subset.trans (by decide) hl)
    | ((with_reducible refine State.setReprints_keeps hl ?_ _ ?hk); case hk => intro p hp; cases p <;> first | rfl | exact absurd (by decide) hp)

theorem clearNamedPockets_keeps {l : List Part} (hl : (disposeParts ++ [.collecting, .staging]) ⊆ l) {s t : State} (h : KeepsAllBut l s t)
    (c : ClearOperands) :
    KeepsAllBut l s (clearNamedPockets c t) := by
  unfold clearNamedPockets
  all_goals try dsimp only
  all_goals repeat' split
  all_goals repeat' first
    | with_reducible exact h
    | ((with_reducible refine disposeCollecting_keeps ?hs ?_ _); case hs => exact List.Subset.trans (by decide) hl)
    | ((with_reducible refine disposeStaging_keeps ?hs ?_ _); case hs => exact List.Subset.trans (by decide) hl)
    | ((with_reducible refine moveToStaging_keeps ?hs ?_); case hs => exact List.Subset.trans (by decide) hl)

theorem clearNamedSlots_keeps {l : List Part} (hl : (disposeParts ++ [.slots, .pageUse, .groups]) ⊆ l) {s t : State} (h : KeepsAllBut l s t)
    (c : ClearOperands) :
    KeepsAllBut l s (clearNamedSlots c t) := by
  unfold clearNamedSlots
  all_goals repeat' split
  all_goals repeat' first
    | with_reducible exact h
    | ((with_reducible refine clearRange_keeps ?hs ?_ _ _); case hs => exact List.Subset.trans (by decide) hl)

theorem setAllModes_keeps {l : List Part} (hl : [.stations] ⊆ l) {s t : State} (h : KeepsAllBut l s t)
    (m : StationMode) :
    KeepsAllBut l s (setAllModes m t) := by
  unfold setAllModes
  all_goals repeat' first
    | with_reducible exact h
    | ((with_reducible refine State.setTrack_keeps hl ?_ _ ?hk); case hk => intro p hp; cases p <;> first | rfl | exact absurd (by decide) hp)

theorem loadStock_keeps {l : List Part} (hl : [.stocks] ⊆ l) {s t : State} (h : KeepsAllBut l s t)
    (i : Nat) (f : StockFields) :
    KeepsAllBut l s (loadStock i f t) := by
  unfold loadStock
  all_goals repeat' first
    | with_reducible exact h
    | ((with_reducible refine putStock_keeps ?hs ?_ _ _); case hs => exact List.Subset.trans (by decide) hl)

theorem loadStocks_keeps {l : List Part} (hl : [.stocks] ⊆ l) {s t : State} (h : KeepsAllBut l s t)
    (xs : List StockFields) :
    KeepsAllBut l s (loadStocks xs t) := by
  unfold loadStocks
  all_goals repeat' first
    | with_reducible exact h
    | ((with_reducible refine loadStock_keeps ?hs ?_ _ _); case hs => exact List.Subset.trans (by decide) hl)
    | (with_reducible refine KeepsAllBut.fold (fun t a h => ?_) _ ?_)

theorem loadEnvelope_keeps {l : List Part} (hl : [.allowance, .limit, .letterLimit, .flatLimit] ⊆ l) {s t : State} (h : KeepsAllBut l s t)
    (p : ProfileFields) :
    KeepsAllBut l s (loadEnvelope p t) := by
  unfold loadEnvelope
  all_goals repeat' first
    | with_reducible exact h
    | ((with_reducible refine State.setCaliper_keeps hl ?_ _ ?hk); case hk => intro p hp; cases p <;> first | rfl | exact absurd (by decide) hp)

theorem loadTrack_keeps {l : List Part} (hl : [.slots, .boundary, .length, .pulses] ⊆ l) {s t : State} (h : KeepsAllBut l s t)
    (p : ProfileFields) :
    KeepsAllBut l s (loadTrack p t) := by
  unfold loadTrack
  all_goals repeat' split
  all_goals repeat' first
    | with_reducible exact h
    | ((with_reducible refine State.setTrack_keeps hl ?_ _ ?hk); case hk => intro p hp; cases p <;> first | rfl | exact absurd (by decide) hp)

theorem loadLimits_keeps {l : List Part} (hl : [.high, .low, .sheetLimit, .strayLimit, .window, .reserve] ⊆ l) {s t : State} (h : KeepsAllBut l s t)
    (p : ProfileFields) :
    KeepsAllBut l s (loadLimits p t) := by
  unfold loadLimits
  all_goals try dsimp only
  all_goals repeat' first
    | with_reducible exact h
    | ((with_reducible refine State.setQueue_keeps hl ?_ _ ?hk); case hk => intro p hp; cases p <;> first | rfl | exact absurd (by decide) hp)
    | ((with_reducible refine State.setCollation_keeps hl ?_ _ ?hk); case hk => intro p hp; cases p <;> first | rfl | exact absurd (by decide) hp)
    | ((with_reducible refine State.setSort_keeps hl ?_ _ ?hk); case hk => intro p hp; cases p <;> first | rfl | exact absurd (by decide) hp)
    | ((with_reducible refine State.setLog_keeps hl ?_ _ ?hk); case hk => intro p hp; cases p <;> first | rfl | exact absurd (by decide) hp)

theorem writeProfile_keeps {l : List Part} (hl : (permitParts ++ [.held, .high, .low, .sheetLimit, .strayLimit, .stocks, .allowance, .limit, .letterLimit, .flatLimit, .slots, .boundary, .length, .pulses, .window, .reserve]) ⊆ l) {s t : State} (h : KeepsAllBut l s t)
    (p : ProfileFields) :
    KeepsAllBut l s (writeProfile p t) := by
  unfold writeProfile
  all_goals try dsimp only
  all_goals repeat' split
  all_goals repeat' first
    | with_reducible exact h
    | ((with_reducible refine loadLimits_keeps ?hs ?_ _); case hs => exact List.Subset.trans (by decide) hl)
    | ((with_reducible refine loadTrack_keeps ?hs ?_ _); case hs => exact List.Subset.trans (by decide) hl)
    | ((with_reducible refine loadEnvelope_keeps ?hs ?_ _); case hs => exact List.Subset.trans (by decide) hl)
    | ((with_reducible refine loadStocks_keeps ?hs ?_ _); case hs => exact List.Subset.trans (by decide) hl)
    | ((with_reducible refine evalPermit_keeps ?hs ?_); case hs => exact List.Subset.trans (by decide) hl)
    | ((with_reducible refine checkMarks_keeps ?hs ?_); case hs => exact List.Subset.trans (by decide) hl)

theorem writeScheme_keeps {l : List Part} (hl : [.scheme] ⊆ l) {s t : State} (h : KeepsAllBut l s t)
    (page start : Nat) (xs : List SchemeEntry) :
    KeepsAllBut l s (writeScheme page start xs t) := by
  unfold writeScheme
  all_goals repeat' first
    | with_reducible exact h
    | ((with_reducible refine State.setSort_keeps hl ?_ _ ?hk); case hk => intro p hp; cases p <;> first | rfl | exact absurd (by decide) hp)

theorem divertReturn_keeps {l : List Part} (hl : (stateParts ++ [.freeIndex]) ⊆ l) {s t : State} (h : KeepsAllBut l s t)
    (dst : Node) (tag : Nat) :
    KeepsAllBut l s (divertReturn dst tag t) := by
  unfold divertReturn
  all_goals repeat' split
  all_goals repeat' first
    | with_reducible exact h
    | ((with_reducible refine divertUntaken_keeps ?hs ?_ _ _); case hs => exact List.Subset.trans (by decide) hl)
    | ((with_reducible refine State.setFree_keeps hl ?_ _ ?hk); case hk => intro p hp; cases p <;> first | rfl | exact absurd (by decide) hp)

theorem selectReturn_keeps {l : List Part} (hl : endParts ⊆ l) {s t : State} (h : KeepsAllBut l s t)
    (dst : Node) (tag : Nat) :
    KeepsAllBut l s (selectReturn dst tag t) := by
  unfold selectReturn
  all_goals repeat' split
  all_goals repeat' first
    | with_reducible exact h
    | ((with_reducible refine selectUntaken_keeps ?hs ?_ _ _); case hs => exact List.Subset.trans (by decide) hl)

theorem markReturn_keeps {l : List Part} (hl : [.own, .alerts] ⊆ l) {s t : State} (h : KeepsAllBut l s t)
    (dst : Node) :
    KeepsAllBut l s (markReturn dst t) := by
  unfold markReturn
  all_goals repeat' split
  all_goals repeat' first
    | with_reducible exact h
    | ((with_reducible refine markUntaken_keeps ?hs ?_ _); case hs => exact List.Subset.trans (by decide) hl)

theorem untakenReturn_keeps {l : List Part} (hl : (endParts ++ [.collecting, .staging, .slots, .freeIndex]) ⊆ l) {s t : State} (h : KeepsAllBut l s t)
    (dst : Node) (kind : Byte) (payload : List Byte) :
    KeepsAllBut l s (untakenReturn dst kind payload t) := by
  unfold untakenReturn
  all_goals repeat' split
  all_goals repeat' first
    | with_reducible exact h
    | ((with_reducible refine markReturn_keeps ?hs ?_ _); case hs => exact List.Subset.trans (by decide) hl)
    | ((with_reducible refine selectReturn_keeps ?hs ?_ _ _); case hs => exact List.Subset.trans (by decide) hl)
    | ((with_reducible refine divertReturn_keeps ?hs ?_ _ _); case hs => exact List.Subset.trans (by decide) hl)
    | ((with_reducible refine sheetActionLost_keeps ?hs ?_ _ _ _ _); case hs => exact List.Subset.trans (by decide) hl)
    | ((with_reducible refine armUntaken_keeps ?hs ?_ _ _); case hs => exact List.Subset.trans (by decide) hl)
    | ((with_reducible refine envUntaken_keeps ?hs ?_ _ _); case hs => exact List.Subset.trans (by decide) hl)
    | ((with_reducible refine feedUntaken_keeps ?hs ?_ _ _); case hs => exact List.Subset.trans (by decide) hl)
    | ((with_reducible refine nodeAbsent_keeps ?hs ?_ _); case hs => exact List.Subset.trans (by decide) hl)

theorem takeReturn_keeps {l : List Part} (hl : (endParts ++ [.collecting, .staging, .slots, .freeIndex]) ⊆ l) {s t : State} (h : KeepsAllBut l s t)
    (dst : Node) (taken : Bool) (kind : Byte) (payload : List Byte) :
    KeepsAllBut l s (takeReturn dst taken kind payload t) := by
  unfold takeReturn
  all_goals repeat' split
  all_goals repeat' first
    | with_reducible exact h
    | ((with_reducible refine untakenReturn_keeps ?hs ?_ _ _ _); case hs => exact List.Subset.trans (by decide) hl)

end Sys2Proof.Machine
end

