-- ==== Sys2Proof/Laws/Ops.lean ====
section
/-! SUPPORT. What the shared operations do, said once: reading a table after writing it, the flags that follow from other
state, a write request at the log, a disposition, the kinds of the frames that an operation queues, and numbers in payloads.
The lemmas of Laws/Frames.lean say what each operation leaves alone. -/

namespace Sys2Proof.Machine

/-! ### Frames of single parts

`KeepsAllBut l s t` gives each part outside `l`: these read the parts that later lemmas need. -/

theorem KeepsAllBut.state_eq {l : List Part} {s t : State} (h : KeepsAllBut l s t) (hl : Part.runState ∉ l) :
    t.line.state = s.line.state := h .runState hl
theorem KeepsAllBut.ending_eq {l : List Part} {s t : State} (h : KeepsAllBut l s t) (hl : Part.ending ∉ l) :
    t.line.ending = s.line.ending := h .ending hl
theorem KeepsAllBut.counters_eq {l : List Part} {s t : State} (h : KeepsAllBut l s t) (hl : Part.counters ∉ l) :
    t.line.counters = s.line.counters := h .counters hl
theorem KeepsAllBut.records_eq {l : List Part} {s t : State} (h : KeepsAllBut l s t) (hl : Part.records ∉ l) :
    t.queue.records = s.queue.records := h .records hl
theorem KeepsAllBut.reprints_eq {l : List Part} {s t : State} (h : KeepsAllBut l s t) (hl : Part.reprints ∉ l) :
    t.reprints = s.reprints := h .reprints hl
theorem KeepsAllBut.length_eq {l : List Part} {s t : State} (h : KeepsAllBut l s t) (hl : Part.length ∉ l) :
    t.track.length = s.track.length := h .length hl
theorem KeepsAllBut.bins_eq {l : List Part} {s t : State} (h : KeepsAllBut l s t) (hl : Part.bins ∉ l) :
    t.sort.bins = s.sort.bins := h .bins hl

/-- The log is kept as a whole when its four parts are. -/
theorem KeepsAllBut.log_eq {l : List Part} {s t : State} (h : KeepsAllBut l s t) (h1 : Part.logRecords ∉ l)
    (h2 : Part.logSerial ∉ l) (h3 : Part.logLost ∉ l) (h4 : Part.reserve ∉ l) : t.log = s.log := by
  have a : t.log.records = s.log.records := h .logRecords h1
  have b : t.log.serial = s.log.serial := h .logSerial h2
  have c : t.log.lost = s.log.lost := h .logLost h3
  have d : t.log.reserve = s.log.reserve := h .reserve h4
  cases ht : t.log; cases hs : s.log
  simp_all

/-! ### Reading a table after writing it -/

theorem stationAt_putStation (i j : Nat) (e : Option StationEntry) (s : State) (h : i < 24) :
    stationAt j (putStation i e s) = if j = i then e else stationAt j s := by
  simp only [stationAt, putStation, State.setTrack, Vector.getElem?_setIfInBounds]
  split
  · subst_vars; simp
  · rename_i hne; rw [if_neg (fun hj => hne hj.symm)]

theorem binAt_putBin (b c : Nat) (x : Bin) (s : State) (h : b < 32) :
    binAt c (putBin b x s) = if c = b then x else binAt c s := by
  simp only [binAt, putBin, State.setSort, Vector.getElem?_setIfInBounds]
  split
  · subst_vars; simp
  · rename_i hne; rw [if_neg (fun hj => hne hj.symm)]

theorem groupAt_putGroup (g k : Nat) (x : Group) (s : State) (h : g < 16) :
    groupAt k (putGroup g x s) = if k = g then x else groupAt k s := by
  simp only [groupAt, putGroup, State.setSort, Vector.getElem?_setIfInBounds]
  split
  · subst_vars; simp
  · rename_i hne; rw [if_neg (fun hj => hne hj.symm)]

theorem pageUseAt_putPageUse (p q n : Nat) (s : State) (h : p < 32) :
    pageUseAt q (putPageUse p n s) = if q = p then n else pageUseAt q s := by
  simp only [pageUseAt, putPageUse, State.setSort, Vector.getElem?_setIfInBounds]
  split
  · subst_vars; simp
  · rename_i hne; rw [if_neg (fun hj => hne hj.symm)]

theorem stockAt_putStock (i j : Nat) (x : Stock) (s : State) (h : i < 4) :
    stockAt j (putStock i x s) = if j = i then x else stockAt j s := by
  simp only [stockAt, putStock, State.setCaliper, Vector.getElem?_setIfInBounds]
  split
  · subst_vars; simp
  · rename_i hne; rw [if_neg (fun hj => hne hj.symm)]

theorem pieceAt_putSlot (n m : Nat) (p : Option Piece) (s : State) (h : n < s.track.slots.length) :
    pieceAt m (putSlot n p s) = if m = n then p else pieceAt m s := by
  simp only [pieceAt, putSlot, State.setTrack, List.getElem?_set]
  split
  · subst_vars; simp
  · rename_i hne; rw [if_neg (fun hj => hne hj.symm)]

/-- A slot beyond the track holds nothing and takes nothing. -/
theorem putSlot_beyond (n : Nat) (p : Option Piece) (s : State) (h : s.track.slots.length ≤ n) : putSlot n p s = s := by
  simp [putSlot, State.setTrack, List.set_eq_of_length_le h]

theorem alertOf_setAlert (c d : AlertClass) (a : Alert) (s : State) :
    alertOf d (setAlert c a s) = if d = c then a else alertOf d s := by
  unfold alertOf setAlert
  simp only [State.setChannel_channel, Vector.get_eq_getElem, Vector.getElem_set]
  cases c <;> cases d <;> rfl

/-- An entry found at a node stands in the table at its index, below 24. -/
theorem stationOfNode_some {n i : Nat} {e : StationEntry} {s : State} (h : stationOfNode n s = some (i, e)) :
    i < 24 ∧ stationAt i s = some e ∧ e.node = n := by
  have h' := List.mem_of_mem_head? (by rw [stationOfNode] at h; exact Option.mem_def.mpr h)
  simp only [stationsWhere, List.mem_filterMap, List.mem_range] at h'
  obtain ⟨j, hj, hm⟩ := h'
  split at hm
  · rename_i f hf
    split at hm
    · rename_i ht
      cases hm
      exact ⟨hj, hf, by simpa using ht⟩
    · cases hm
  · cases hm

/-- An entry found by its kind stands in the table at its index, below 24. -/
theorem stationOfKind_some {k : StationKind} {i : Nat} {e : StationEntry} {s : State}
    (h : stationOfKind k s = some (i, e)) : i < 24 ∧ stationAt i s = some e ∧ e.kind = k := by
  have h' := List.mem_of_mem_head? (by rw [stationOfKind] at h; exact Option.mem_def.mpr h)
  simp only [stationsWhere, List.mem_filterMap, List.mem_range] at h'
  obtain ⟨j, hj, hm⟩ := h'
  split at hm
  · rename_i f hf
    split at hm
    · rename_i ht
      cases hm
      exact ⟨hj, hf, by simpa using ht⟩
    · cases hm
  · cases hm

/-- A bin found by its node is loaded with it, below 32. -/
theorem binOfNode_some {n b : Nat} {s : State} (h : binOfNode n s = some b) : b < 32 ∧ (binAt b s).node = some n := by
  refine ⟨List.mem_range.mp (List.mem_of_find?_eq_some h), ?_⟩
  simpa using List.find?_some h

/-- A bin's group holds the bin in its chain, below 16. -/
theorem groupOfBin_some {b g : Nat} {s : State} (h : groupOfBin b s = some g) : g < 16 ∧ b ∈ (groupAt g s).chain := by
  refine ⟨List.mem_range.mp (List.mem_of_find?_eq_some h), ?_⟩
  simpa using List.find?_some h

/-! ### The piece a report stands for (R63, R85) -/

theorem Piece.awaits_iff (kinds : List WindowKind) (i : Nat) (p : Piece) :
    p.awaits kinds i = true ↔ ∃ w, p.windowFor i = some w ∧ w.kind ∈ kinds := by
  simp [Piece.awaits, Option.any_eq_true]

/-- What is found: a piece with the tag and an open window of one of the kinds. -/
theorem slotOfWindow_found {kinds : List WindowKind} {i tag n : Nat} {s : State} (h : slotOfWindow kinds i tag s = some n) :
    n < s.track.slots.length ∧ ∃ p w, pieceAt n s = some p ∧ p.tag = tag ∧ p.windowFor i = some w ∧ w.kind ∈ kinds := by
  have hp := List.find?_some h
  refine ⟨List.mem_range.mp (List.mem_of_find?_eq_some h), ?_⟩
  cases hq : pieceAt n s with
  | none => simp [hq] at hp
  | some p =>
    simp only [hq, Bool.and_eq_true, beq_iff_eq, Piece.awaits_iff] at hp
    obtain ⟨ht, w, hw⟩ := hp
    exact ⟨p, w, rfl, ht, hw⟩

/-- Nothing is found exactly when no piece with the tag awaits such a result. -/
theorem slotOfWindow_none {kinds : List WindowKind} {i tag : Nat} {s : State} :
    slotOfWindow kinds i tag s = none ↔ NothingAwaits kinds i tag s := by
  simp only [slotOfWindow, List.find?_eq_none, List.mem_range]
  refine forall₂_congr fun n _ => ?_
  cases pieceAt n s with
  | none => simp
  | some p => simp [Piece.awaits_iff]

/-! ### The queues of RING OUT (R163) -/

/-- A frame without an untaken rule joins the queue, or is dropped with no effect. -/
theorem sendPlain_own (dst : Node) (body : OwnBody) (s : State) :
    (sendPlain dst body s).ring.own = if s.ring.own.length < 32 then s.ring.own ++ [⟨dst, body⟩] else s.ring.own := by
  unfold sendPlain ownFull pushOwn
  by_cases h : s.ring.own.length < 32
  · rw [if_neg (by simpa [Config.ownCapacity] using h), if_pos h]; rfl
  · rw [if_pos (by simpa [Config.ownCapacity] using h), if_neg h]

/-- A frame to the supervisor joins the queue when the straps name a node and there is room. -/
theorem sendSupervisor_own (body : OwnBody) (s : State) :
    (sendSupervisor body s).ring.own =
      if s.supervisor ≠ 0 ∧ s.supervisor ≠ 63 ∧ s.ring.own.length < 32 then s.ring.own ++ [⟨s.supervisor, body⟩]
      else s.ring.own := by
  unfold sendSupervisor supervisorReachable
  by_cases h0 : s.supervisor = 0#6
  · simp [h0]
  · by_cases h1 : s.supervisor = 63#6
    · simp [h1, Config.broadcast]
    · rw [if_pos (by simp [h0, h1, Config.broadcast]), sendPlain_own]
      by_cases h : s.ring.own.length < 32 <;> simp [h0, h1, h]

/-! ### Alerts (R168) -/

/-- Queueing a frame touches no alert. -/
theorem sendSupervisor_alert (body : OwnBody) (c : AlertClass) (s : State) :
    alertOf c (sendSupervisor body s) = alertOf c s := by
  unfold sendSupervisor sendPlain
  repeat' split
  all_goals rfl

/-- A raised alert's class: the count rises, and the detail is the first one since it was acknowledged (R168). -/
theorem alertOf_raiseAlert (d : AlertDetail) (c : AlertClass) (s : State) :
    alertOf c (raiseAlert d s) =
      if c = d.cls then
        { pending := true, detail := if (alertOf d.cls s).pending then (alertOf d.cls s).detail else some d
          count := min 255 ((alertOf d.cls s).count + 1) }
      else alertOf c s := by
  unfold raiseAlert
  dsimp only
  split
  · rename_i h
    rw [alertOf_setAlert]
    split <;> simp [h]
  · rename_i h
    rw [sendSupervisor_alert, alertOf_setAlert]

/-- A raised alert depends on its own class alone. -/
theorem alertOf_raiseAlert_of_eq {d : AlertDetail} {s t : State} (h : alertOf d.cls t = alertOf d.cls s) :
    alertOf d.cls (raiseAlert d t) = alertOf d.cls (raiseAlert d s) := by
  simp only [alertOf_raiseAlert, if_pos, h]

/-- A station set ABSENT touches no alert but STATION (R73). -/
theorem nodeAbsent_alert (dst : Node) {c : AlertClass} (hc : c ≠ .station) (s : State) :
    alertOf c (nodeAbsent dst s) = alertOf c s := by
  unfold nodeAbsent markAbsent
  split
  · dsimp only
    split
    · rfl
    · exact (alertOf_raiseAlert _ _ _).trans (if_neg (by simpa [AlertDetail.cls] using hc))
  · rfl

/-- A re-evaluation of the permit touches no alert but STATION (R157). -/
theorem evalPermit_alert {c : AlertClass} (hc : c ≠ .station) (s : State) : alertOf c (evalPermit s) = alertOf c s := by
  unfold evalPermit sendStation
  dsimp only
  repeat' split
  all_goals first
    | rfl
    | exact nodeAbsent_alert _ hc _

/-! ### Flags (R157, R158) -/

/-- Changing the permit leaves its conditions. -/
theorem permitConditions_eq {s t : State} (h1 : t.line.state = s.line.state) (h2 : t.line.ending = s.line.ending)
    (h3 : t.queue.records = s.queue.records) (h4 : t.track.length = s.track.length) (h5 : t.reprints = s.reprints)
    (h6 : t.log = s.log) : permitConditions t = permitConditions s := by
  simp only [permitConditions, reprintFree, logFree, logUsed, h1, h2, h3, h4, h5, h6]
  rfl

/-- A re-evaluation touches none of the permit's conditions. -/
theorem permitConditions_evalPermit (s : State) : permitConditions (evalPermit s) = permitConditions s := by
  have h : KeepsAllBut permitParts s (evalPermit s) := evalPermit_keeps (List.Subset.refl _) (KeepsAllBut.start _ s)
  exact permitConditions_eq (h.state_eq (by decide)) (h.ending_eq (by decide)) (h.records_eq (by decide))
    (h.length_eq (by decide)) (h.reprints_eq (by decide))
    (h.log_eq (by decide) (by decide) (by decide) (by decide))

/-- What queueing a frame to a station keeps of Line Control: all of it but the permit's value. -/
theorem sendStation_line (dst : Node) (body : OwnBody) (s : State) : (sendStation dst body s).line.permit = s.line.permit := by
  have h : KeepsAllBut frameParts s (sendStation dst body s) := sendStation_keeps (List.Subset.refl _) (KeepsAllBut.start _ s) _ _
  exact h .permit (by decide)

/-- After a re-evaluation the permit follows its conditions (R157). -/
theorem evalPermit_permit (s : State) : (evalPermit s).line.permit = permitConditions (evalPermit s) := by
  rw [permitConditions_evalPermit]
  unfold evalPermit
  split
  · rename_i h; exact h.symm
  · dsimp only
    split
    · rw [sendStation_line]; rfl
    · rfl

/-- A move of the run state sets the state, the reason and DRIVE_RUN, and the permit follows its conditions. -/
theorem enterState_line (st : RunState) (reason : Option StopReason) (s : State) :
    (enterState st reason s).line.state = st ∧ (enterState st reason s).line.reason = reason ∧
      (enterState st reason s).line.drive = st.drives ∧
      (enterState st reason s).line.permit = permitConditions (enterState st reason s) := by
  unfold enterState
  have h := evalPermit_keeps (List.Subset.refl permitParts)
    (KeepsAllBut.start permitParts (s.setLine { s.line with state := st, reason := reason, drive := st.drives }))
  exact ⟨h .runState (by decide), h .reason (by decide), h .drive (by decide), evalPermit_permit _⟩

/-- Outside RUNNING the permit's conditions do not hold. -/
theorem permitConditions_of_ne_running {s : State} (h : s.line.state ≠ .running) : permitConditions s = false := by
  simp [permitConditions, h]

/-! ### The log and dispositions (R124, R133, R141) -/

/-- A write request leaves the log and the RESERVE alert as R141 gives. -/
theorem writeLog_took (b : LogBody) (s : State) : LogTook b s (writeLog b s) := by
  unfold LogTook writeLog
  have ha : ∀ t : State, alertOf .reserve (evalPermit t) = alertOf .reserve t := evalPermit_alert (by decide)
  have hp : ∀ t : State, (evalPermit t).log = t.log := fun t =>
    (evalPermit_keeps (List.Subset.refl permitParts) (KeepsAllBut.start permitParts t)).log_eq
      (by decide) (by decide) (by decide) (by decide)
  have hr : ∀ t : State, (raiseAlert .logOverflow t).log = t.log := fun t =>
    (raiseAlert_keeps (List.Subset.refl _) (KeepsAllBut.start [Part.own, .alerts] t) _).log_eq
      (by decide) (by decide) (by decide) (by decide)
  by_cases hl : s.log.lost = 0
  · simp only [if_pos hl]
    split
    · rename_i hf
      rw [if_neg (fun h => absurd h.2 (Nat.not_lt.mpr hf))]
      exact ⟨by rw [hp]; rfl, ha _⟩
    · rename_i hf
      rw [if_pos ⟨hl, Nat.not_le.mp hf⟩]
      exact ⟨by rw [hr]; rfl, alertOf_raiseAlert_of_eq (d := .logOverflow) rfl⟩
  · simp only [hl, false_and, if_false]
    split
    · exact ⟨by rw [hp]; simp [appendLog, setLost, State.setLog, List.append_assoc], ha _⟩
    · exact ⟨rfl, rfl⟩

/-- What a write request does depends on the log and the RESERVE alert alone. -/
theorem LogTook.of_log_eq {b : LogBody} {s t u v : State} (h : LogTook b s t) (hs : u.log = s.log) (ht : v.log = t.log)
    (as : alertOf .reserve u = alertOf .reserve s) (at_ : alertOf .reserve v = alertOf .reserve t) : LogTook b u v := by
  have ar := alertOf_raiseAlert_of_eq (d := .logOverflow) as
  unfold LogTook logFree logUsed at *
  rw [hs, ht, as, at_]
  rw [show alertOf .reserve (raiseAlert .logOverflow u) = alertOf .reserve (raiseAlert .logOverflow s) from ar]
  exact h

/-- What several write requests do depends on the log and the RESERVE alert alone. -/
theorem LogTookAll.of_log_eq {l : List LogBody} {s t u v : State} (h : LogTookAll l s t) (hs : u.log = s.log)
    (ht : v.log = t.log) (as : alertOf .reserve u = alertOf .reserve s) (at_ : alertOf .reserve v = alertOf .reserve t) :
    LogTookAll l u v := by
  induction l generalizing s u with
  | nil => exact ⟨ht.trans (h.1.trans hs.symm), at_.trans (h.2.trans as.symm)⟩
  | cons b rest ih =>
    obtain ⟨w, hw, hr⟩ := h
    exact ⟨w, hw.of_log_eq hs rfl as rfl, ih hr rfl rfl⟩

/-- One write request. -/
theorem LogTookAll.one {b : LogBody} {s t : State} : LogTookAll [b] s t ↔ LogTook b s t :=
  ⟨fun ⟨_, hw, hr⟩ => hw.of_log_eq rfl hr.1 rfl hr.2, fun h => ⟨t, h, rfl, rfl⟩⟩

/-- Write requests made one list after the other. -/
theorem LogTookAll.append {l m : List LogBody} {s t u : State} (h : LogTookAll l s t) (k : LogTookAll m t u) :
    LogTookAll (l ++ m) s u := by
  induction l generalizing s with
  | nil => exact k.of_log_eq h.1.symm rfl h.2.symm rfl
  | cons b rest ih =>
    obtain ⟨w, hw, hr⟩ := h
    exact ⟨w, hw, ih hr⟩

/-- Write requests made by the steps of a fold. -/
theorem LogTookAll.fold {α : Type} {f : State → α → State} {r : α → List LogBody}
    (hf : ∀ t a, LogTookAll (r a) t (f t a)) : ∀ (xs : List α) (s : State), LogTookAll (xs.flatMap r) s (xs.foldl f s)
  | [], _ => ⟨rfl, rfl⟩
  | a :: xs, s => by
    rw [List.flatMap_cons, List.foldl_cons]
    exact (hf s a).append (LogTookAll.fold hf xs (f s a))

/-- A write request leaves the run counters alone. -/
theorem writeLog_counters (b : LogBody) (s : State) : (writeLog b s).line.counters = s.line.counters :=
  (writeLog_keeps (List.Subset.refl writeParts) (KeepsAllBut.start writeParts s) b).counters_eq (by decide)

/-- A disposition counts once in its own counter (R133). -/
theorem dispose_counters (d : Disposition) (e : EntryEffect) (b : LogBody) (s : State) :
    (dispose d e b s).line.counters = s.line.counters.bump d := by
  have ha : ∀ t, (applyEntry e t).line.counters = t.line.counters := fun t =>
    (applyEntry_keeps (List.Subset.refl [Part.reprints]) (KeepsAllBut.start _ t) e).counters_eq (by decide)
  have hp : ∀ t : State, (evalPermit t).line.counters = t.line.counters := fun t =>
    (evalPermit_keeps (List.Subset.refl permitParts) (KeepsAllBut.start permitParts t)).counters_eq (by decide)
  unfold dispose
  dsimp only
  split
  · rw [writeLog_counters, ha]; rfl
  · rw [hp, writeLog_counters, ha]; rfl

/-- A disposition creates, reopens or leaves entries as its rule says (R123, R124). -/
theorem dispose_reprints (d : Disposition) (e : EntryEffect) (b : LogBody) (s : State) :
    (dispose d e b s).reprints = (applyEntry e (countDisposition d s)).reprints := by
  have hw : ∀ t : State, (writeLog b t).reprints = t.reprints := fun t =>
    (writeLog_keeps (List.Subset.refl writeParts) (KeepsAllBut.start writeParts t) b).reprints_eq (by decide)
  have hp : ∀ t : State, (evalPermit t).reprints = t.reprints := fun t =>
    (evalPermit_keeps (List.Subset.refl permitParts) (KeepsAllBut.start permitParts t)).reprints_eq (by decide)
  unfold dispose
  dsimp only
  split
  · exact hw _
  · rw [hp, hw]

/-- A disposition asks the log for its one record (R124). -/
theorem dispose_took (d : Disposition) (e : EntryEffect) (b : LogBody) (s : State) : LogTook b s (dispose d e b s) := by
  have hs : (applyEntry e (countDisposition d s)).log = s.log := by
    have k := applyEntry_keeps (List.Subset.refl [Part.reprints]) (KeepsAllBut.start _ (countDisposition d s)) e
    exact k.log_eq (by decide) (by decide) (by decide) (by decide)
  have hp : ∀ t : State, (evalPermit t).log = t.log := fun t =>
    (evalPermit_keeps (List.Subset.refl permitParts) (KeepsAllBut.start permitParts t)).log_eq
      (by decide) (by decide) (by decide) (by decide)
  have ha : alertOf .reserve (applyEntry e (countDisposition d s)) = alertOf .reserve s := by
    have k := applyEntry_keeps (List.Subset.refl [Part.reprints]) (KeepsAllBut.start _ (countDisposition d s)) e
    have k := k .alerts (by decide)
    unfold alertOf
    rw [show (applyEntry e (countDisposition d s)).channel.alerts = (countDisposition d s).channel.alerts from k]
    rfl
  have hw := writeLog_took b (applyEntry e (countDisposition d s))
  unfold dispose
  dsimp only
  split
  · exact hw.of_log_eq hs.symm rfl ha.symm rfl
  · exact hw.of_log_eq hs.symm (hp _) ha.symm (evalPermit_alert (by decide) _)

/-- A creation is `entered` (R127). -/
theorem createEntry_entered (seq inc : Nat) (reason : Reason) (s : State) :
    (createEntry seq inc reason s).reprints =
      entered s.reprints { seq := seq, inc := inc, reason := reason, state := .open } := by
  unfold createEntry entered
  split <;> rfl

/-- A new entry stands OPEN at the tail of a list with room (R127). -/
theorem createEntry_reprints (seq inc : Nat) (reason : Reason) (s : State) (h : s.reprints.length < 256) :
    (createEntry seq inc reason s).reprints =
      s.reprints ++ [{ seq := seq, inc := inc, reason := reason, state := .open }] := by
  unfold createEntry
  rw [if_pos h]
  rfl

/-- Changing an entry keeps the length of the Reprint List. -/
theorem updateEntry_length (test : ReprintEntry → Bool) (change : ReprintEntry → ReprintEntry) (l : List ReprintEntry) :
    (updateEntry test change l).length = l.length := by
  induction l with
  | nil => rfl
  | cons e rest ih =>
    unfold updateEntry
    split
    · rfl
    · simp [ih]

/-- The head record removed leaves the rest of the queue (R10). -/
theorem removeHead_records (s : State) : (removeHead s).queue.records = s.queue.records.tail := by
  have hg : ∀ t : State, (checkGo t).queue.records = t.queue.records := fun t =>
    (checkGo_keeps (List.Subset.refl _) (KeepsAllBut.start [Part.own, .held] t)).records_eq (by decide)
  have hp : ∀ t : State, (evalPermit t).queue.records = t.queue.records := fun t =>
    (evalPermit_keeps (List.Subset.refl permitParts) (KeepsAllBut.start permitParts t)).records_eq (by decide)
  unfold removeHead
  dsimp only
  split
  · rw [hp, hg]; rfl
  · rw [hg]; rfl

/-! ### The bundle close (R116) -/

/-- A close leaves the bin without an open bundle and counts it once in the tray; a bin without one is left alone. -/
theorem closeBundle_bin (b : Nat) (cause : CloseCause) (s : State) (h : b < 32) :
    binAt b (closeBundle b cause s) = match (binAt b s).bundle with
      | none => binAt b s
      | some _ => { binAt b s with bundle := none, trayBundles := (binAt b s).trayBundles + 1 } := by
  have hw : ∀ x : LogBody, binAt b (writeLog x s) = binAt b s := fun x => by
    have k := (writeLog_keeps (List.Subset.refl writeParts) (KeepsAllBut.start writeParts s) x).bins_eq (by decide)
    simp only [binAt, k]
  have hm : ∀ (n : Nat) (t : State), binAt b (sendBundleMark b n t) = binAt b t := fun n t => by
    have k := (sendBundleMark_keeps (List.Subset.refl _) (KeepsAllBut.start [Part.own, .alerts] t) b n).bins_eq (by decide)
    simp only [binAt, k]
  unfold closeBundle
  cases hb : (binAt b s).bundle with
  | none => rfl
  | some u =>
    dsimp only
    split
    · rw [hm, binAt_putBin _ _ _ _ h, if_pos rfl, hw]
    · rw [binAt_putBin _ _ _ _ h, if_pos rfl, hw]

/-- A close asks the log for the BUNDLE record of the open bundle, and for none without one (R116). -/
theorem closeBundle_took (b : Nat) (cause : CloseCause) (s : State) :
    LogTookAll (closeRecord b cause (binAt b s).bundle s) s (closeBundle b cause s) := by
  have ha : ∀ (n : Nat) (t : State), alertOf .reserve (sendBundleMark b n t) = alertOf .reserve t := fun n t => by
    unfold sendBundleMark markUntaken
    repeat' split
    all_goals first
      | rfl
      | exact (alertOf_raiseAlert _ _ _).trans (if_neg (by simp [AlertDetail.cls]))
  have hm : ∀ (n : Nat) (t : State), (sendBundleMark b n t).log = t.log := fun n t =>
    (sendBundleMark_keeps (List.Subset.refl _) (KeepsAllBut.start [Part.own, .alerts] t) b n).log_eq
      (by decide) (by decide) (by decide) (by decide)
  unfold closeBundle closeRecord
  cases hb : (binAt b s).bundle with
  | none => exact ⟨rfl, rfl⟩
  | some u =>
    refine LogTookAll.one.mpr ((writeLog_took _ s).of_log_eq rfl ?_ rfl ?_)
    · dsimp only
      split
      · rw [hm]; rfl
      · rfl
    · dsimp only
      split
      · rw [ha]; rfl
      · rfl

/-! ### The kinds of the frames that an operation queues (R162, R163)

`Queues kinds s t` says that the own-frame queue of `t` is that of `s` with frames of the listed kind codes after it, so that
`recordGoes` and `bundleMarks` find nothing in what such an operation queued. -/

/-- The own-frame queue only grew, by frames of the kind codes listed. -/
def Queues (kinds : List Nat) (s t : State) : Prop :=
  ∃ more, t.ring.own = s.ring.own ++ more ∧ ∀ f ∈ more, f.body.kindCode ∈ kinds

theorem Queues.of_eq {kinds : List Nat} {s t : State} (h : t.ring.own = s.ring.own) : Queues kinds s t :=
  ⟨[], by simp [h], by simp⟩

theorem Queues.trans {kinds : List Nat} {s t u : State} (h : Queues kinds s t) (k : Queues kinds t u) : Queues kinds s u := by
  obtain ⟨a, ha, hk⟩ := h
  obtain ⟨b, hb, hl⟩ := k
  exact ⟨a ++ b, by rw [hb, ha, List.append_assoc], fun f hf => (List.mem_append.mp hf).elim (hk f) (hl f)⟩

theorem Queues.mono {kinds more : List Nat} {s t : State} (h : Queues kinds s t) (hs : kinds ⊆ more) : Queues more s t := by
  obtain ⟨a, ha, hk⟩ := h
  exact ⟨a, ha, fun f hf => hs (hk f hf)⟩

/-- The frames queued since a place at or before the end of `s`'s queue are those that `s` held and the new ones. -/
theorem Queues.recordGoes_eq {kinds : List Nat} {s t : State} (h : Queues kinds s t) (hk : 11 ∉ kinds) {since : Nat}
    (hs : since ≤ s.ring.own.length) : recordGoes since t = recordGoes since s := by
  obtain ⟨a, ha, hl⟩ := h
  have hn : a.filter (fun f => f.body.kindCode == 11) = [] :=
    List.filter_eq_nil_iff.mpr fun f hf he => hk ((beq_iff_eq (a := f.body.kindCode)).mp he ▸ hl f hf)
  unfold recordGoes
  rw [ha, List.drop_append_of_le_length hs, List.filter_append, hn, List.append_nil]

/-- The same for BUNDLE_MARK. -/
theorem Queues.bundleMarks_eq {kinds : List Nat} {s t : State} (h : Queues kinds s t) (hk : 34 ∉ kinds) {since : Nat}
    (hs : since ≤ s.ring.own.length) : bundleMarks since t = bundleMarks since s := by
  obtain ⟨a, ha, hl⟩ := h
  have hn : a.filter (fun f => f.body.kindCode == 34) = [] :=
    List.filter_eq_nil_iff.mpr fun f hf he => hk ((beq_iff_eq (a := f.body.kindCode)).mp he ▸ hl f hf)
  unfold bundleMarks
  rw [ha, List.drop_append_of_le_length hs, List.filter_append, hn, List.append_nil]

theorem pushOwn_queues (dst : Node) (body : OwnBody) (s : State) : Queues [body.kindCode] s (pushOwn dst body s) :=
  ⟨[⟨dst, body⟩], rfl, by simp⟩

theorem sendPlain_queues (dst : Node) (body : OwnBody) (s : State) : Queues [body.kindCode] s (sendPlain dst body s) := by
  unfold sendPlain
  split
  · exact .of_eq rfl
  · exact pushOwn_queues dst body s

theorem sendSupervisor_queues (body : OwnBody) (s : State) : Queues [body.kindCode] s (sendSupervisor body s) := by
  unfold sendSupervisor
  split
  · exact sendPlain_queues _ body s
  · exact .of_eq rfl

/-- An alert queues at most a NOTICE (R168). -/
theorem raiseAlert_queues (d : AlertDetail) (s : State) : Queues [9] s (raiseAlert d s) := by
  unfold raiseAlert
  dsimp only
  split
  · exact .of_eq rfl
  · exact (sendSupervisor_queues (.notice ..) (setAlert ..) : Queues [9] _ _)

/-- A station set ABSENT queues at most the NOTICE of its alert (R73). -/
theorem nodeAbsent_queues (dst : Node) (s : State) : Queues [9] s (nodeAbsent dst s) := by
  unfold nodeAbsent markAbsent
  split
  · dsimp only
    split
    · exact .of_eq rfl
    · exact Queues.trans (.of_eq rfl) (raiseAlert_queues _ _)
  · exact .of_eq rfl

/-- A station frame is queued, or met by a full queue, which queues at most a NOTICE (R163). -/
theorem sendStation_queues (dst : Node) (body : OwnBody) (s : State) :
    Queues [body.kindCode, 9] s (sendStation dst body s) := by
  unfold sendStation
  split
  · exact (nodeAbsent_queues dst s).mono (by simp)
  · exact (pushOwn_queues dst body s).mono (by simp)

/-- A re-evaluation of the permit queues FEED_PERMIT and NOTICE frames only (R157). -/
theorem evalPermit_queues (s : State) : Queues [19, 9] s (evalPermit s) := by
  unfold evalPermit
  split
  · exact .of_eq rfl
  · dsimp only
    split
    · exact Queues.trans (.of_eq rfl) (sendStation_queues _ (.feedPermit _) _)
    · exact .of_eq rfl

/-- A write request at the log queues FEED_PERMIT and NOTICE frames only (R141, R144). -/
theorem writeLog_queues (b : LogBody) (s : State) : Queues [19, 9] s (writeLog b s) := by
  unfold writeLog
  split
  · split
    · exact Queues.trans (.of_eq rfl) (evalPermit_queues _)
    · exact Queues.trans (.of_eq rfl) ((raiseAlert_queues _ _).mono (by simp))
  · split
    · exact Queues.trans (.of_eq rfl) (evalPermit_queues _)
    · exact .of_eq rfl

/-- A disposition queues FEED_PERMIT and NOTICE frames only (R124). -/
theorem dispose_queues (d : Disposition) (e : EntryEffect) (b : LogBody) (s : State) : Queues [19, 9] s (dispose d e b s) := by
  have h : Queues [19, 9] s (writeLog b (applyEntry e (countDisposition d s))) := by
    refine Queues.trans (.of_eq ?_) (writeLog_queues _ _)
    cases e with
    | create seq inc reason => simp only [applyEntry, createEntry]; split <;> rfl
    | _ => rfl
  unfold dispose
  dsimp only
  split
  · exact h
  · exact h.trans (evalPermit_queues _)

/-- A bundle close for any cause but FULL queues FEED_PERMIT and NOTICE frames only (R116). -/
theorem closeBundle_queues (b : Nat) (cause : CloseCause) (s : State) (h : cause ≠ .full) :
    Queues [19, 9] s (closeBundle b cause s) := by
  unfold closeBundle
  split
  · exact .of_eq rfl
  · dsimp only
    rw [if_neg h]
    exact Queues.trans (writeLog_queues _ s) (.of_eq rfl)

/-- Writing a position's own entry changes nothing. -/
theorem putStation_self (i : Nat) (e : StationEntry) (s : State) (h : stationAt i s = some e) :
    putStation i (some e) s = s := by
  unfold stationAt at h
  have hi : i < 24 := by
    by_contra hn
    rw [Vector.getElem?_eq_none (by omega)] at h
    cases h
  rw [Vector.getElem?_eq_getElem hi] at h
  unfold putStation
  rw [show s.track.stations.setIfInBounds i (some e) = s.track.stations by
    refine Vector.ext fun j hj => ?_
    rw [Vector.getElem_setIfInBounds]
    split
    · subst_vars; exact h.symm
    · rfl]
  rfl

/-- A full queue hands a station frame back as `nodeAbsentAfter` says (R73, R163). -/
theorem nodeAbsent_after (dst : Node) (s : State) : nodeAbsent dst s = nodeAbsentAfter dst s := by
  unfold nodeAbsent nodeAbsentAfter markAbsent absentAfter
  cases h : stationOfNode dst.toNat s with
  | none => rfl
  | some x =>
    obtain ⟨i, e⟩ := x
    dsimp only
    split
    · rename_i ha
      obtain ⟨hi, he, -⟩ := stationOfNode_some h
      rw [show ({ e with status := .absent } : StationEntry) = e by rw [← ha]]
      exact putStation_self i e s he
    · rfl

/-- Nothing has happened to the stations or their alert. -/
theorem StationsKept.of_eq {room : Prop} {s t : State} (h : alertOf .station t = alertOf .station s)
    (hs : t.track.stations = s.track.stations) : StationsKept id room s t :=
  .inl ⟨h, fun i => by rw [Option.map_id]; simp only [id, stationAt, hs]⟩

/-- Setting the station at a node ABSENT is the second case of `StationsKept`, or nothing at all (R73). -/
theorem nodeAbsent_stations {room : Prop} (hr : ¬room) {s : State} {j : Nat} {feeder : StationEntry}
    (hf : stationOfKind .sheetFeeder s = some (j, feeder)) {t : State}
    (hst : t.track.stations = s.track.stations) (ha : alertOf .station t = alertOf .station s) :
    StationsKept id room s (nodeAbsent feeder.dst t) := by
  have hn : stationOfNode feeder.dst.toNat t = stationOfNode feeder.dst.toNat s := by
    simp only [stationOfNode, stationsWhere, stationAt, hst]
  rw [nodeAbsent_after, nodeAbsentAfter, hn]
  cases hk : stationOfNode feeder.dst.toNat s with
  | none => exact .of_eq ha hst
  | some x =>
    obtain ⟨k, e⟩ := x
    dsimp only
    unfold absentAfter
    split
    · exact .of_eq ha hst
    · rename_i he
      obtain ⟨hk24, _, _⟩ := stationOfNode_some hk
      refine .inr ⟨hr, j, feeder, k, e, hf, hk, he, ?_, fun i => ?_⟩
      · exact alertOf_raiseAlert_of_eq (d := .stationStatus k .absent) (t := putStation k _ t) (s := s) ha
      · have hrs : ∀ u : State, (raiseAlert (.stationStatus k .absent) u).track.stations = u.track.stations := fun u =>
          (raiseAlert_keeps (List.Subset.refl _) (KeepsAllBut.start [Part.own, .alerts] u) _) .stations (by decide)
        have : stationAt i (raiseAlert (.stationStatus k .absent) (putStation k (some { e with status := .absent }) t)) =
            stationAt i (putStation k (some { e with status := .absent }) t) := by simp only [stationAt, hrs]
        rw [this, stationAt_putStation _ _ _ _ hk24]
        split
        · rfl
        · rw [Option.map_id]; simp only [id, stationAt, hst]

/-- A re-evaluation of the permit can set the SHEET_FEEDER station ABSENT, on a full own-frame queue, and touches no other (R157). -/
theorem evalPermit_stations {room : Prop} {s : State} (hr : room → s.ring.own.length < 32) :
    StationsKept id room s (evalPermit s) := by
  unfold evalPermit
  split
  · exact .of_eq rfl rfl
  · dsimp only
    split
    · rename_i j e hf
      unfold sendStation
      split
      · rename_i hfull
        refine nodeAbsent_stations (fun h => ?_) hf rfl rfl
        exact absurd (hr h) (Nat.not_lt.mpr (of_decide_eq_true hfull))
      · exact .of_eq rfl rfl
    · exact .of_eq rfl rfl

/-! ### Numbers in payloads (R170) -/

/-- One byte of a payload. -/
theorem field_one (items : List Byte) (k : Nat) : field items k 1 = byteAt items k := by
  unfold field byteAt ofBe
  cases h : items.drop k with
  | nil => simp [List.getElem?_eq_none (List.drop_eq_nil_iff.mp h)]
  | cons a t => simp [show items[k]? = some a by simpa using congrArg List.head? h]

/-- Two bytes of a payload that holds them. -/
theorem field_two (items : List Byte) (k : Nat) (h : k + 2 ≤ items.length) : field items k 2 = wordAt items k := by
  unfold field wordAt byteAt ofBe
  rw [List.take_succ_eq_append_getElem (by simp; omega), List.take_succ_eq_append_getElem (by simp; omega)]
  simp [List.getElem?_eq_getElem (show k < items.length by omega),
    List.getElem?_eq_getElem (show k + 1 < items.length by omega)]

/-- A number in two, three and four bytes, high byte first. -/
theorem beBytes_two (v : Nat) : beBytes 2 v = [byteOf (v / 256), byteOf v] := rfl

theorem beBytes_three (v : Nat) : beBytes 3 v = [byteOf (v / 65536), byteOf (v / 256), byteOf v] := by
  simp [beBytes, byteOf, Nat.div_div_eq_div_mul]

theorem beBytes_four (v : Nat) :
    beBytes 4 v = [byteOf (v / 16777216), byteOf (v / 65536), byteOf (v / 256), byteOf v] := by
  simp [beBytes, byteOf, Nat.div_div_eq_div_mul]

end Sys2Proof.Machine
end

