-- ==== Sys2Proof/Tests/Slice0.lean ====
section
/-! SUPPORT. Tests: the terms the well-formedness check refuses, single commands with results taken from the manual's rules,
tables and worked examples, and for every statement with hypotheses a state and operands that meet them. -/

namespace Sys2Proof.Tests

open Sys2Proof Sys2Proof.Machine

set_option synthInstance.maxSize 4000
set_option Elab.async false

/-! ### A small line -/

/-- The header of a management frame from the supervisor, whose straps read 1. -/
def sup : Header := { dst := 0, src := 1, taken := false }

/-- The header of a report from a node. -/
def from_ (n : Nat) : Header := { dst := 0, src := BitVec.ofNat 6 n, taken := false }

/-- A station that is READY and NORMAL. -/
def station (node : Nat) (kind : StationKind) (offset window caliper : Nat) : StationEntry :=
  { node := node, kind := kind, offset := offset, window := window, caliper := caliper, lateLimit := 3, mode := .normal
    status := .ready, late := 0 }

/-- A job record of one panel and no selections for destination 41273. -/
def job (seq pages : Nat) : JobRecord :=
  { seq := seq, inc := 0, reprint := false, pages := pages, panels := 1, selections := []
    dest := { required := [4, 1, 2, 7, 3], extra := none }, matchRequired := true, handFinish := false }

/-- A collation of a record with one 100 µm sheet. -/
def collation (seq pages : Nat) : Collation :=
  { job := job seq pages, sheets := [⟨100, false⟩], next := 2, faults := [], handFinish := false }

/-- A piece of a record. -/
def piece (serial seq : Nat) : Piece :=
  { serial := serial, job := job seq 1, collationFaults := [], diverted := false, faults := [], caliper := 900
    plan := [], dropped := [], withheld := [], missed := [], fed := [], saturated := false
    scheme := { entry := none, group := 0, key := [some 4, some 1, some 2, some 7, some 3], level := 0 }
    windows := [], output := .none, verification := .none }

/-- A piece in flight to a bin, selected at a pitch. -/
def flight (serial seq last pitch : Nat) : Flight :=
  { serial := serial, seq := seq, inc := 0, key := [some 4, some 1, some 2, some 7, some last], entry := some 70
    level := 4, pitch := pitch, group := 1, caliperClass := .letter, caliper := 900, saturated := false, fed := []
    dropped := [], withheld := [], output := .none, verification := .verified }

/-- An open bundle of destination 4127x. -/
def bundle (last count : Nat) : Bundle :=
  { key := [some 4, some 1, some 2, some 7, some last], count := count, first := 2001, last := 2001, entry := some 70
    level := 4, continued := false }

/-- The stations of the small line. -/
def stationList : List (Option StationEntry) :=
  [some (station 10 .sheetFeeder 0 0 0), some (station 11 .sheetScanner 0 0 0), some (station 12 .sheetDivert 0 0 0),
    some (station 13 .folder 0 0 0), some (station 14 .insert 1 1 300), some (station 15 .insert 2 2 500),
    some (station 16 .envelope 3 1 0), some (station 17 .scanOut 4 1 0), some (station 18 .slotCheck 5 0 0),
    some (station 19 .exit 7 0 0)]

/-- A bin of the small line. -/
def loadedBin (node capacity : Nat) : Bin := { Bin.powerOn with node := some node, capacity := some capacity, state := .open }

/-- The small line with an empty track of 8 slots of 16 pulses, two bins and two groups, in a run state. -/
def line (state : RunState) : State :=
  { State.reset with
    line := { State.reset.line with state := state, locked := state != .idle, drive := state.drives }
    track := { State.reset.track with
      slots := List.replicate 8 none, length := 8, pulses := 16, boundary := 16
      stations := Vector.ofFn fun i => (stationList[i.val]?).getD none }
    sort := { State.reset.sort with
      bins := Vector.ofFn fun i => if i.val = 0 then loadedBin 30 20 else if i.val = 1 then loadedBin 31 5 else Bin.powerOn
      groups := Vector.ofFn fun i => if i.val < 2
        then { chain := [i.val], target := 4, minimum := 3, demote := 1, refs := 0 } else Group.powerOn } }

/-- The line with records in the queue. -/
def queued (l : List JobRecord) (s : State) : State := { s with queue := { s.queue with records := l } }

/-- The line with its pockets. -/
def pockets (c : Collecting) (b : Option Collation) (s : State) : State :=
  { s with collation := { s.collation with collecting := c, staging := b } }

/-- The line with the ending flag set. -/
def ending (s : State) : State := { s with line := { s.line with ending := true } }

/-- The line with a bin's flights, bundle and state, landed pieces being none. -/
def flying (b : Nat) (l : List Flight) (u : Option Bundle) (st : BinState) (s : State) : State :=
  putBin b { binAt b s with flights := l, committed := l.length, bundle := u, state := st } s

/-- A full own-frame queue. -/
def ownFullState (s : State) : State := { s with ring := { s.ring with own := List.replicate 32 ⟨1, .recordGo⟩ } }

/-- The state after a command. -/
def after (c : Instr) (s : State) : State :=
  match exec c s with
  | .next t => t
  | _ => s

/-- The bytes of a sheet scan of the scanner, stock 0. -/
def scan (seq page pages caliper : Nat) : RawScan :=
  { serial := 7, stock := 0, seq := BitVec.ofNat 24 seq, inc := 0, page := byteOf page, pages := byteOf pages
    caliper := BitVec.ofNat 16 caliper }

/-- A scan with NO_READ. -/
def noRead : RawScan := { scan 0 1 1 100 with stock := 0x80 }

/-- Operand bytes. -/
def bytes (l : List Nat) : List Byte := l.map byteOf

/-! ### Well-formedness: one ill-formed term for each check -/

/-- The source of a frame from outside is never node 0 (R161), for every row that carries a header. -/
theorem test_wellFormed_refuses_own_source :
    (([.record, .loadProfile, .loadStation, .loadScheme, .loadGroup, .loadBin, .queryRun, .queryQueue, .queryTrack,
      .queryPiece, .queryStation, .queryBin, .queryGroup, .queryScheme, .queryStock, .queryLog, .queryReprint,
      .queryAlerts, .openRun, .start, .pause, .resume, .flush, .abort, .closeRun, .resetLine, .clearSlots, .skipRecord,
      .stationMode, .relearn, .ackAlert, .logRead, .reprintRead] : List (Header → Byte → List Byte → Instr)).all
        fun c => !(c (from_ 0) 1 []).wellFormed && (c sup 1 []).wellFormed) = true ∧
    (([.binModeOn (from_ 0) 1 0, .binModeOff (from_ 0) 1 0, .sheetScan (from_ 0) noRead, .stationStatus (from_ 0) 1,
      .slotReport (from_ 0) 1 1, .feedResult (from_ 0) 1 1, .envResult (from_ 0) 1 1, .addrScan (from_ 0) 1 1 1 1,
      .landed (from_ 0), .swept (from_ 0), .full (from_ 0), .unknownManagementRequest (from_ 0) 4 [1, 99],
      .otherBinEvent (from_ 0) 4] : List Instr).all fun c => !c.wellFormed) = true := by decide +kernel

/-- A payload is at most 120 bytes (R160), for every row that carries bytes. -/
theorem test_wellFormed_refuses_long_payloads :
    (([.loadProfile, .loadStation, .loadScheme, .loadGroup, .loadBin, .queryRun, .queryQueue, .queryTrack,
      .queryPiece, .queryStation, .queryBin, .queryGroup, .queryScheme, .queryStock, .queryLog, .queryReprint,
      .queryAlerts, .openRun, .start, .pause, .resume, .flush, .abort, .closeRun, .resetLine, .clearSlots, .skipRecord,
      .stationMode, .relearn, .ackAlert] : List (Header → Byte → List Byte → Instr)).all
        fun c => !(c sup 1 (List.replicate 119 0)).wellFormed && (c sup 1 (List.replicate 118 0)).wellFormed) = true ∧
    (([.record, .logRead, .reprintRead] : List (Header → Byte → List Byte → Instr)).all
        fun c => !(c sup 1 (List.replicate 120 0)).wellFormed && (c sup 1 (List.replicate 119 0)).wellFormed) = true ∧
    (([.forwardFrame ⟨sup, 40, List.replicate 121 0⟩, .frameReturn 5 false 18 (List.replicate 121 0),
      .unknownManagementRequest sup 4 (1 :: 99 :: List.replicate 119 0)] : List Instr).all
        fun c => !c.wellFormed) = true := by decide +kernel

/-- The rows whose operands are fixed by the row's name (R22, R38, R84, R113, R157, R160, R165). -/
theorem test_wellFormed_refuses_other_rows :
    (([.frameCheckFail (frameBytes ⟨sup, 40, [1, 2]⟩), .sheetActionUntaken 5 1 8 1 1, .foldSetUntaken 5 0,
      .foldSetUntaken 5 4, .feedPermitUntaken 5 2, .feedCmdUntaken 5 1 0, .feedCmdUntaken 5 1 3,
      .unknownManagementRequest sup 4 [1, 14], .unknownManagementRequest sup 3 [1, 12],
      .unknownManagementRequest sup 2 [1, 5], .unknownManagementRequest sup 1 [1], .otherBinEvent (from_ 5) 1,
      .otherBinEvent (from_ 5) 3] : List Instr).all fun c => !c.wellFormed) = true := by decide +kernel

/-! ### Frames -/

/-- No row of the opcode table gives its command bits, so no word spells a command (log entry 5). -/
theorem test_decode_no_bits : decodeTableWord 8 1 = none := by decide

/-- The layout of a FEED_CMD to node 14 by R170: destination, source, kind 21, length 2, the tag and the kind code, and the
CRC-16 with initial value all ones over them, most significant bit first. -/
theorem test_frame_layout :
    ((OwnFrame.toRing ⟨14, .feedCmd 20 .mandatory⟩ |> frameBytes).take 6) = bytes [14, 0, 21, 2, 20, 1] := by
  decide +kernel

/-- The published check value of this CRC-16 (initial value all ones, polynomial 1021H) over the characters 1 to 9 is 29B1H. -/
theorem test_crc_check_value : crc16 (bytes [49, 50, 51, 52, 53, 54, 55, 56, 57]) = 0x29B1#16 := by decide +kernel

/-- A frame with a wrong CRC is dropped (R160), and the mark of TAKEN does not enter the CRC. -/
theorem test_frame_check :
    checkFrame (bytes [5, 1, 40, 0, 0, 0]) = none ∧
    frameCrc ⟨sup, 40, [1]⟩ = frameCrc ⟨{ sup with taken := true }, 40, [1]⟩ := by decide +kernel

/-! ### Calipers (03, worked examples) -/

/-- Stock 0 of the first worked example. -/
def stock0 : Stock := { averaging := 4, nominal := 100, tolerance := 16, margin := 20, ring := [98, 102, 101, 99] }

/-- REF = 100, U = 125; 103 is SINGLE and joins the full ring; then REF = 101, U = 126 and 126 would be DOUBLE. -/
theorem test_learning_a_stock :
    stock0.reference = 100 ∧ stock0.upper = 125 ∧ stock0.classify 103 = (.single, false) ∧
    (stock0.learn 103 .single).ring = [102, 101, 99, 103] ∧ (stock0.learn 103 .single).reference = 101 ∧
    (stock0.learn 103 .single).classify 126 = (.double, false) := by decide

/-- The table at the top of the scale: REF = 4,000, T = 63. -/
theorem test_classification_at_the_top :
    let x : Stock := { averaging := 4, nominal := 4000, tolerance := 63, margin := 20, ring := [] }
    x.classify 4095 = (.double, true) ∧ x.classify 4094 = (.double, false) ∧ x.classify 4093 = (.single, false) ∧
    x.classify 1001 = (.single, false) ∧ x.classify 1000 = (.thin, false) := by decide

/-- The table at the bottom of the scale: REF = 1, T = 63, D = 1. -/
theorem test_classification_at_the_bottom :
    let x : Stock := { averaging := 4, nominal := 1, tolerance := 63, margin := 1, ring := [] }
    x.classify 0 = (.thin, false) ∧ x.classify 1 = (.single, false) ∧ x.classify 2 = (.double, false) := by decide

/-- LOAD PROFILE with W from 4 to 2 trims the ring to its two newest readings. -/
theorem test_profile_trims_the_ring :
    stockLoaded { averaging := 2, nominal := 100, tolerance := 16, margin := 20 } stock0 = { stock0 with
      averaging := 2, ring := [101, 99] } := by decide

/-! ### The fill check (03, worked example) -/

/-- The line of the worked example, with its stations A to F, its piece in staging, E = 380 and CMAX = 1,800. -/
def fillLine : State :=
  let s := line .running
  { s with
    caliper := { s.caliper with allowance := 380, limit := 1800 }
    track := { s.track with
      slots := List.replicate 40 none, length := 40
      stations := Vector.ofFn fun i =>
        if i.val = 0 then some (station 14 .insert 3 1 150) else if i.val = 1 then some (station 15 .insert 5 1 210)
        else if i.val = 2 then some (station 16 .insert 7 1 260)
        else if i.val = 3 then some { station 17 .insert 9 1 90 with mode := .force }
        else if i.val = 4 then some (station 18 .insert 11 1 120) else none } }

/-- The collation of the worked example: three sheets, three panels, A MANDATORY, B OPTIONAL 2, C OPTIONAL 5. -/
def fillCollation : Collation :=
  { job := { job 9 3 with panels := 3, selections := [⟨0, .mandatory⟩, ⟨1, .optional 2⟩, ⟨2, .optional 5⟩] }
    sheets := [⟨103, false⟩, ⟨97, false⟩, ⟨104, false⟩], next := 4, faults := [], handFinish := false }

/-- The base is 1,442 µm; D (priority 8) and C are dropped; the live caliper is 1,652 µm. -/
theorem test_fill_check :
    baseCaliper fillCollation fillLine = 1442 ∧ (buildPiece fillCollation fillLine).caliper = 1652 ∧
    (buildPiece fillCollation fillLine).dropped = [3, 2] ∧
    (buildPiece fillCollation fillLine).planFor 0 = .mandatory ∧
    (buildPiece fillCollation fillLine).planFor 1 = .optional 2 ∧
    (buildPiece fillCollation fillLine).planFor 2 = .none := by decide +kernel

/-! ### Scheme (06, worked example) -/

/-- An enabled scheme entry of maximum class LETTER. -/
def schemeEntry (p : List (Option Nat)) (g k l : Nat) : SchemeEntry :=
  { enabled := true, pattern := p, group := g, maxClass := .letter, keyLength := k, level := l }

/-- The entry disabled. -/
def disabled (e : SchemeEntry) : SchemeEntry := { e with enabled := false }

/-- The scheme with page 3 of the worked example; entry 53 is disabled. -/
def schemeLine : State :=
  let s := line .running
  let page : List (Fin 512 × SchemeEntry) :=
    [(48, schemeEntry [some 4, some 1, none, none, none, none, none, none, none] 2 3 2),
      (49, schemeEntry [some 4, some 1, some 2, some 7, none, none, none, none, none] 3 4 3),
      (50, schemeEntry [some 4, some 1, some 2, some 7, some 3, none, none, none, none] 4 5 5),
      (51, schemeEntry [some 4, some 1, none, some 7, none, some 5, none, none, none] 5 6 4),
      (52, schemeEntry [some 4, some 1, some 2, some 7, some 3, some 0, some 0, some 1, none] 6 8 6),
      (53, disabled (schemeEntry [some 4, some 1, some 2, some 7, some 3, some 0, some 0, some 1, some 5] 7 9 7))]
  { s with sort := { s.sort with scheme := page.foldl (fun v x => v.set x.1 x.2) s.sort.scheme } }

/-- Pieces 1, 3, 5 and 6 of the worked example. -/
theorem test_scheme_matches :
    (schemeMatch ⟨[4, 1, 2, 7, 3], some [0, 0, 1, 5]⟩ schemeLine).entry = some 52 ∧
    (schemeMatch ⟨[4, 1, 2, 7, 4], some [5, 1, 2, 0]⟩ schemeLine).key = [some 4, some 1, some 2, some 7] ∧
    (schemeMatch ⟨[4, 1, 3, 7, 4], none⟩ schemeLine).group = 2 ∧
    schemeMatch ⟨[5, 2, 1, 0, 0], none⟩ schemeLine =
      { entry := none, group := 0, key := [some 5, some 2, some 1, some 0, some 0], level := 0 } := by decide +kernel

/-! ### Single commands -/

/-- Record 107 of the worked example of 01: the count reaches H = 4, the held flag is set and RECORD_HOLD is sent. -/
def holdLine : State :=
  let s := line .running
  { s with
    line := { s.line with permit := true }
    queue := { s.queue with records := [job 100 1, job 103 1, job 104 1], last := some 104, high := 4, low := 2 } }

theorem test_record_holds_at_the_mark :
    let t := after (.record sup 9 (job 107 1).bytes) holdLine
    t.channel.held = true ∧ t.queue.last = some 107 ∧ t.ring.own = [⟨1, .recordHold⟩] := by
  decide +kernel

/-- Record 105 with a selection of the envelope station (here index 6) is refused RANGE. -/
theorem test_record_refuses_other_kinds :
    (after (.record sup 9 { job 105 1 with selections := [⟨6, .mandatory⟩] }.bytes) holdLine).ring.own =
      [⟨1, .answer 9 .range 0 true []⟩] := by decide +kernel

/-- Sheet 1 of the worked example of 02: a DOUBLE first sheet opens the collation and raises the expected index to 3. -/
theorem test_sheet_double_opens :
    (after (.sheetScan (from_ 11) (scan 500 1 3 300)) (queued [job 500 3] (line .running))).collation.collecting =
      .collecting { job := job 500 3, sheets := [⟨300, false⟩], next := 3, faults := [.doubleSheet], handFinish := false } := by
  decide +kernel

/-- Sheet 6 of the worked example: it finds no pocket, and the line jams with reason ACCUMULATOR_OVERRUN. -/
theorem test_sheet_overrun :
    (after (.sheetScan (from_ 11) (scan 502 1 2 100)) (queued [job 502 2]
      (pockets (.complete (collation 501 2)) (some (collation 500 3)) (line .running)))).line.reason =
      some .accumulatorOverrun := by decide +kernel

/-- Event 6 of the worked example of 07: a C piece lands beside an open A bundle of 2, which closes KEY_BREAK and DEMOTED. -/
theorem test_landed_breaks_the_key :
    let t := after (.landed (from_ 31)) (flying 1 [flight 102 2003 5 22] (some (bundle 3 2)) .open (line .running))
    (binAt 1 t).bundle = some { bundle 5 1 with first := 2003, last := 2003 } ∧ (binAt 1 t).trayBundles = 1 ∧
    (t.log.records.map (·.body)).head? = some (.bundle
      { bin := 1, group := 1, key := (bundle 3 2).key, count := 2, level := 1, cause := .keyBreak, entry := some 70
        first := 2001, last := 2001, demoted := true, continued := false }) := by decide +kernel

/-- Event 10: the sweep starts a new tray with the one piece in flight. -/
theorem test_swept_starts_a_tray :
    let t := after (.swept (from_ 31))
      (putBin 1 { loadedBin 31 6 with
        flights := [flight 104 2005 5 24], landed := 4, committed := 5, bundle := some (bundle 5 2), trayBundles := 1 }
        (line .running))
    (binAt 1 t).committed = 1 ∧ (binAt 1 t).landed = 0 ∧ (binAt 1 t).previousKey = some (bundle 5 2).key ∧
    ((t.log.records.map (·.body)).getLast? = some (.tray 1 4 2)) := by decide +kernel

/-- Event 22: 35 - 29 = 6 is at least the window: LOST, TIMEOUT, PAUSED with reason SORTER. -/
theorem test_sorter_timeout :
    let s := flying 1 [flight 109 2010 5 29] none .open (line .running)
    let t := after .sorterTimeout { s with track := { s.track with pitch := 34, position := 15 } }
    t.line.reason = some .sorter ∧ t.line.counters.lost = 1 ∧
    t.ring.own = [⟨63, .pitch 35⟩, ⟨1, .notice .sorter 1 (.timeout 1)⟩] := by decide +kernel

/-- As writes 1 and 4 of the worked example of 09: with 2 words free a TRAY of 3 words is lost, and after room is made the OVERFLOW
marker comes first. -/
theorem test_log_overflow :
    let full : State := { line .running with
      log := { records := List.replicate 1364 ⟨0, .bundle ⟨1, 1, [], 1, 0, .full, none, 1, 1, false, false⟩⟩
               serial := 4210, lost := 0, reserve := 512 } }
    (writeLog (.tray 1 4 2) (writeLog (.bundle ⟨1, 1, [], 1, 0, .full, none, 1, 1, false, false⟩) full)).log.lost = 1 ∧
    (writeLog (.tray 1 4 2) { line .running with
      log := { records := [], serial := 4210, lost := 2, reserve := 512 } }).log =
      { records := [⟨4210, .overflow 2⟩, ⟨4211, .tray 1 4 2⟩], serial := 4212, lost := 0, reserve := 512 } := by
  decide +kernel

/-- A jog back over a boundary already crossed makes no second advance (04, worked example). -/
theorem test_pulse_before_the_boundary :
    let s := line .running
    (after (.encoderPulse .forward) { s with track := { s.track with position := 99, boundary := 200 } }).track.position = 100 ∧
    (after (.encoderPulse .forward) { s with track := { s.track with position := 15, boundary := 16 } }).track.pitch = 1 := by
  decide +kernel

/-- An untaken FEED_CMD of an optional feed is a MISS: the station ABSENT, OPTIONAL_MISSED, I off the live caliper (05). -/
theorem test_feed_untaken :
    let s := putSlot 2 (some { piece 20 900 with caliper := 1340, windows := [⟨5, 4, .feed .optional⟩] }) (line .running)
    let t := after (.feedCmdUntaken 15 20 2) s
    (pieceAt 2 t).map (fun p => (p.caliper, p.missed, p.windows)) = some (840, [5], []) ∧
    (stationAt 5 t).map (·.status) = some .absent := by decide +kernel

/-- R90, R94: an ENV_CMD and a SCAN_ARM that come back for a station with an open feed window leave that window open. -/
theorem test_untaken_other_kind :
    let p := { piece 20 900 with windows := [⟨5, 4, .feed .mandatory⟩] }
    let s := putSlot 3 (some p) (line .running)
    pieceAt 3 (envUntaken 15 20 s) = some p ∧ pieceAt 3 (armUntaken 15 20 s) = some p := by decide +kernel

/-- R126, R124, R152: the last piece of a drain whose DIVERT_CMD a full own-frame queue drops is disposed first, so the run
closes; in RUNNING the drop pauses the line. -/
theorem test_divert_dropped :
    let p := { piece 20 900 with diverted := true }
    (exitPiece p (ownFullState (line .draining))).line.state = .closed ∧
    (exitPiece p (ownFullState (line .running))).line.reason = some .sorter := by decide +kernel

/-- A read of another record's sequence is a mismatch: marked, MATCH raised, PAUSED (05). -/
theorem test_scan_mismatch :
    let s := putSlot 4 (some { piece 20 900 with windows := [⟨7, 5, .scan⟩] }) (line .running)
    let t := after (.addrScan (from_ 17) 20 1 899 0) s
    (pieceAt 4 t).map (fun p => (p.faults, p.output)) = some ([.mismatch], .value 899 0) ∧
    t.line.reason = some .mismatch ∧ (alertOf .mismatch t).pending = true := by decide +kernel

/-- SKIP_RECORD n = 3 of the worked example of 08: three records are skipped and three entries stand open. -/
theorem test_skip_record :
    let s := queued [job 3044 1, job 3101 1, job 3102 1] (line .paused)
    let t := after (.skipRecord sup 9 [3]) s
    t.queue.records = [] ∧ t.line.counters.skipped = 3 ∧ t.reprints.map (·.seq) = [3044, 3101, 3102] ∧
    t.ring.own = [⟨1, .answer 9 .ok 0 true [3]⟩] := by decide +kernel

/-- CLEAR_SLOTS of one slot in JAMMED: CLEARED with a reprint entry, the state kept (10, worked example). -/
theorem test_clear_slots :
    let s := putSlot 3 (some { piece 97 4380 with diverted := true }) (line .jammed)
    let t := after (.clearSlots sup 9 (bytes [1, 3, 3, 0])) s
    t.line.counters.cleared = 1 ∧ t.line.state = .jammed ∧ pieceAt 3 t = none ∧ t.reprints =
      [{ seq := 4380, inc := 0, reason := .disposition .cleared, state := .open }] := by decide +kernel

/-- FLUSH in JAMMED with the ending flag clear is refused STATE, and with the flag set BUSY (10, worked example). -/
theorem test_flush_refusals :
    (after (.flush sup 9 []) (line .jammed)).ring.own = [⟨1, .answer 9 .state 0 true []⟩] ∧
    (after (.flush sup 9 []) (ending (line .closed))).ring.own = [⟨1, .answer 9 .busy 0 true []⟩] := by decide +kernel

/-- A SLOT_REPORT of the current pitch that misses a piece jams the line (04, worked example). -/
theorem test_slot_report_jams :
    let t := after (.slotReport (from_ 18) 0 2) (putSlot 5 (some (piece 1 701)) (line .running))
    t.track.jamSlot = some 5 ∧ t.line.reason = some .occupancy ∧ (pieceAt 5 t).map (·.diverted) = some true := by
  decide +kernel

/-- A supervisor's request is answered and its frame goes on marked TAKEN (R161, R165). -/
theorem test_request_forwarded_taken :
    (after (.start sup 9 []) (line .ready)).ring.forward =
      [{ header := { sup with taken := true }, kind := 4, payload := bytes [9, 2] }] := by decide +kernel

/-! ### States and operands that meet the statements' hypotheses, clause by clause -/

theorem witness_StepRunsFrontCommand :
    ({ State.reset with pending := [.linkLoss, .linkReturn] } : State).pending = .linkLoss :: [.linkReturn] ∧
    State.reset.pending = [] := by decide +kernel

/-- The part with RESET_N low. -/
def lowState : State := after .resetNLow State.reset

theorem witness_EveryCommandCompletes : (Instr.ringOutSend : Instr) ≠ .resetNLow := by decide

theorem witness_ResetReleaseStartsInIdle : lowState.resetHigh = false := by decide +kernel

theorem witness_ResetLowHoldsThePart :
    lowState.resetHigh = false ∧ (Instr.ringOutSend : Instr) ≠ .resetNLow ∧
      ∀ straps signal, Instr.ringOutSend ≠ .resetNHigh straps signal :=
  ⟨by decide +kernel, by decide, by intro _ _ h; cases h⟩

theorem witness_FrameBytesReadBack : (⟨from_ 5, 40, List.replicate 120 0⟩ : RingFrame).payload.length ≤ 120 := by
  decide +kernel

theorem witness_FramesNotForThePart :
    (bytes [5, 1, 40]).length < 4 ∧ 120 < (121 : Byte).toNat ∧
    (bytes [5, 1, 40, 0, 0, 0, 0]).length ≠ (0 : Byte).toNat + 6 ∧
    (crc16 ([5, 1 &&& 0x7F#8, 40, 0] ++ (bytes [0, 0]).take 0)).toNat ≠ ofBe ((bytes [0, 0]).drop 0) ∧
    Listening (line .running) ∧ (⟨{ dst := 5, src := 7, taken := false }, 40, []⟩ : RingFrame).header.dst ≠ 63 ∧
    (from_ 7).src ≠ (line .running).supervisor ∧ 1 ≤ (1 : Byte).toNat ∧ (6 : Byte).toNat ≤ 6 ∧
    (line .running).ring.forward.length < 8 := by decide +kernel

/-- The line with a frame in each queue of the Ring Port. -/
def ringLine : State :=
  { line .running with ring := { own := [⟨63, .pitch 1⟩], forward := [⟨from_ 5, 40, []⟩], linkUp := true, out := none } }

theorem witness_RingOutSendsForwardedFirst :
    ringLine.resetHigh = true ∧ ringLine.ring.forward = ⟨from_ 5, 40, []⟩ :: [] ∧
    (line .running).ring.forward = [] ∧ (line .running).ring.own = [] ∧
    { ringLine with ring := { ringLine.ring with forward := [] } }.ring.own = ⟨63, .pitch 1⟩ :: [] ∧ 7 < 8 := by
  decide +kernel

theorem witness_LinkLossJamsAndReturnIsNoted :
    (line .paused).resetHigh = true ∧ (line .paused).ring.linkUp = true ∧ (line .paused).line.state = .paused ∧
    (line .closed).ring.linkUp = true ∧ (line .closed).line.state = .closed ∧ AlertClass.jam ≠ .link ∧
    AlertClass.jam ≠ .station ∧
    (after .linkLoss (line .paused)).ring.linkUp = false ∧ (after .linkLoss (line .paused)).resetHigh = true := by
  decide +kernel

theorem witness_AlertRaisedCountsAndNotifiesOnce :
    (alertOf .link (line .running)).pending = false ∧ (line .running).supervisor ≠ 0 ∧ (line .running).supervisor ≠ 63 ∧
    (line .running).ring.own.length < 32 ∧ (alertOf .link (raiseAlert .linkDown (line .running))).pending = true ∧
    32 ≤ (ownFullState (line .running)).ring.own.length ∧
    (alertOf .link (ownFullState (line .running))).pending = false ∧ AlertClass.jam ≠ AlertDetail.linkDown.cls := by
  decide +kernel

theorem witness_AnswerPartsCarryTheContent :
    (List.replicate 928 (0 : Byte)).length ≤ 928 ∧ (line .running).supervisor ≠ 0 ∧ (line .running).supervisor ≠ 63 ∧
    (line .running).ring.own.length + 8 ≤ 32 := by decide +kernel

theorem witness_AckAlertClearsItsClass :
    Commanded sup [9, 14, 8] (line .running) ∧ (8 : Byte).toNat = AlertClass.run.code ∧
    (1 : Byte).toNat = AlertClass.link.code ∧ (9 : Byte).toNat > 8 ∧ Commanded sup [9, 14] (line .running) := by
  decide +kernel

theorem witness_UnknownRequestIsRefused :
    Commanded sup [9, 15] (line .running) ∧ namesNothing 4 [9, 15] = true ∧ namesNothing 3 [9, 13] = true ∧
    namesNothing 2 [9, 6] = true ∧ namesNothing 4 [9] = true ∧ namesNothing 4 [9, 14] = false := by decide +kernel

theorem witness_QueriesAnswerAndChangeNothing :
    ∃ q, queryParts (.queryQueue sup 9 [0, 63]) = some q ∧
      Commanded q.header (q.tag :: q.subject :: q.index) (line .running) ∧ q.index.length = 2 ∧
      field q.index 0 2 < q.bound (line .running) ∧ q.bound (line .running) ≤ field [0, 64] 0 2 :=
  ⟨_, rfl, by decide +kernel⟩

/-- The line with one alert pending. -/
def alertLine : State := raiseAlert (.noBin 1) (line .running)

theorem witness_QueryContentsFollowTheirRules :
    (job 1 1).dest.required = [4, 1, 2, 7, 3] ∧ (job 1 1).dest.extra = none ∧
    (Destination.mk [4, 1, 2, 7, 3] (some [0, 0, 1, 5])).extra = some [0, 0, 1, 5] ∧
    (schemeAt 511 (line .running)).pattern = [none, none, none, none, none, none, none, none, none] ∧
    (∀ c ∈ AlertClass.all, (alertOf c (line .running)).pending = false) ∧ (alertOf .sorter alertLine).pending = true ∧
    (alertOf .sorter alertLine).detail = some (.noBin 1) ∧
    ∀ k ∈ AlertClass.all, k.code < AlertClass.sorter.code → (alertOf k alertLine).pending = false := by decide +kernel

/-- The record frame that queue tests send. -/
def recordBody (r : JobRecord) : List Byte := r.bytes

theorem witness_RecordAccepted :
    Commanded sup (9 :: recordBody (job 107 64)) holdLine ∧ IntakeOpen holdLine ∧
    readRecord (recordBody (job 107 64)) = some (job 107 64) ∧ RecordSound (job 107 64) holdLine ∧
    SequenceAdmits (job 107 64) holdLine ∧ holdLine.queue.records.length < 64 ∧
    holdLine.line.counters.accepted < 16777215 ∧ OutputsFollowState holdLine := by decide +kernel

/-- A reprint record of sequence 990 and the line with its entry in a state at an incarnation. -/
def reprintJob : JobRecord := { job 990 1 with reprint := true, inc := 1 }

/-- The hold line with an entry for sequence 990. -/
def entryLine (st : EntryState) (inc : Nat) : State :=
  { holdLine with reprints := [{ seq := 990, inc := inc, reason := .fault .mismatch, state := st }] }

theorem witness_RecordAccepted_reprint :
    Commanded sup (9 :: recordBody reprintJob) (entryLine .requested 0) ∧
    readRecord (recordBody reprintJob) = some reprintJob ∧ RecordSound reprintJob (entryLine .requested 0) ∧
    SequenceAdmits reprintJob (entryLine .requested 0) ∧
    entryOf 990 (entryLine .requested 0) = some { seq := 990, inc := 0, reason := .fault .mismatch, state := .requested } := by
  decide +kernel

theorem witness_RecordRefusedInOrder :
    Commanded sup (9 :: recordBody (job 104 1)) holdLine ∧ ¬IntakeOpen (line .closed) ∧ ¬IntakeOpen (ending holdLine) ∧
    readRecord [1, 2] = none ∧ ¬RecordSound (job 107 65) holdLine ∧ RecordSound (job 104 1) holdLine ∧
    holdLine.queue.last = some 104 ∧ (job 104 1).seq ≤ 104 ∧ entryOf 990 holdLine = none ∧
    RecordSound reprintJob holdLine ∧ reprintJob.inc ≠ 1 + 1 ∧
    entryOf 990 (entryLine .open 1) = some { seq := 990, inc := 1, reason := .fault .mismatch, state := .open } ∧
    entryOf 990 (entryLine .open 15) = some { seq := 990, inc := 15, reason := .fault .mismatch, state := .open } ∧
    SequenceAdmits (job 107 1) (queued (List.replicate 64 (job 100 1)) holdLine) ∧
    64 ≤ (queued (List.replicate 64 (job 100 1)) holdLine).queue.records.length ∧
    ({ holdLine.line.counters with accepted := 16777215 } : Counters).accepted = 16777215 := by decide +kernel

theorem witness_RecordBytesReadBack :
    let r : JobRecord := { job 16777215 64 with
      inc := 15, selections := [⟨23, .optional 7⟩, ⟨0, .mandatory⟩]
      dest := { required := [9, 9, 9, 9, 9], extra := some [9, 9, 9, 9] } }
    r.seq < 16777216 ∧ r.inc < 16 ∧ r.pages < 256 ∧ r.panels < 256 ∧ r.selections.length < 54 ∧
    (∀ x ∈ r.selections, x.station < 256) ∧ r.dest.required.length = 5 ∧ (∀ d ∈ r.dest.required, d < 16) ∧
    readRecord r.bytes = some r := by decide +kernel

theorem witness_SkipRecordDisposesTheHead :
    Commanded sup [9, 10, 8] (queued [job 1 1] (line .paused)) ∧ (line .paused).line.state = .paused ∧
    1 ≤ (8 : Byte).toNat ∧ (8 : Byte).toNat ≤ 8 ∧ (line .paused).line.counters.skipped ≤ 16777215 ∧
    (queued [job 1 1] (line .paused)).queue.records[0]? = some (job 1 1) ∧ (job 1 1).reprint = false ∧
    Commanded sup [9, 10, 1] (line .running) ∧ (line .running).line.state ≠ .paused ∧
    (line .running).line.state ≠ .jammed ∧ Commanded sup [9, 10, 9] (line .jammed) ∧ 8 < (9 : Byte).toNat ∧
    (line .paused).ring.own.length + 3 ≤ 32 := by decide +kernel

/-- The line with the held flag set and records in the queue. -/
def heldLine (l : List JobRecord) (s : State) : State :=
  let t := queued l s
  { t with channel := { t.channel with held := true } }

/-- Seventeen records are one above the low mark: the first removal clears the held flag. -/
theorem witness_SkipRecordDisposesTheHead_held :
    let s := heldLine ((List.range 17).map fun n => job (n + 1) 1) (line .paused)
    let t := after (.skipRecord sup 9 [1]) s
    s.channel.held = true ∧ s.queue.low = 16 ∧ t.queue.records.length = 16 ∧ t.channel.held = false ∧
    recordGoes s.ring.own.length t = [⟨1, .recordGo⟩] := by decide +kernel

theorem witness_LogReadRemovesWholeRecords :
    Commanded sup [9, 30] (line .running) ∧ 1 ≤ (30 : Byte).toNat ∧ (30 : Byte).toNat ≤ 30 ∧
    Commanded sup [9, 31] (line .running) ∧ 30 < (31 : Byte).toNat ∧ Commanded sup [9] (line .running) := by decide +kernel

theorem witness_ReprintReadRequestsOpenEntries :
    Commanded sup [9, 16] (entryLine .open 0) ∧ (16 : Byte).toNat ≤ 16 ∧ Commanded sup [9, 17] (entryLine .open 0) ∧
    16 < (17 : Byte).toNat ∧ (entryLine .open 0).reprints[0]? =
      some { seq := 990, inc := 0, reason := .fault .mismatch, state := .open } := by decide +kernel

theorem witness_OpenRunReachesReady :
    Commanded sup [9, 1, 0, 0, 28, 36] (line .idle) ∧ (line .idle).line.locked = false ∧
    Commanded sup [9, 1, 0] (line .idle) ∧ (bytes [0]).length ≠ 4 ∧ Commanded sup [9, 1] (line .closed) ∧
    (line .closed).line.locked = true := by decide +kernel

theorem witness_StartAndPauseMoveTheLine :
    Commanded sup [9, 2] (line .ready) ∧ (line .ready).line.state = .ready ∧ Commanded sup [9, 2, 0] (line .ready) ∧
    Commanded sup [9, 2] (line .jammed) ∧ (line .jammed).line.state ≠ .ready ∧ Commanded sup [9, 3] (line .draining) ∧
    (line .draining).line.state = .draining ∧ Commanded sup [9, 3] (line .ready) ∧ (line .ready).line.state ≠ .running ∧
    (line .ready).line.state ≠ .draining ∧ Commanded sup [9, 3, 0] (line .draining) ∧
    stationOfKind .sheetFeeder (line .ready) = some (0, station 10 .sheetFeeder 0 0 0) ∧
    (line .ready).ring.own.length + 2 ≤ 32 ∧ (line .ready).line.permit = false ∧
    (after (.start sup 9 []) (queued [job 1 1] (line .ready))).line.permit = true := by decide +kernel

/-- A piece on the track of a line. -/
def onTrack (s : State) : State := putSlot 5 (some (piece 20 900)) s

theorem witness_ResumeContinuesTheRun :
    Commanded sup [9, 4] (line .jammed) ∧ (line .jammed).line.ending = false ∧
    (ending (onTrack (line .paused))).line.ending = true ∧
    recordsHeld (ending (onTrack (line .paused))) ≠ (ending (onTrack (line .paused))).queue.records.length ∧
    recordsHeld (ending (line .paused)) = (ending (line .paused)).queue.records.length ∧
    (line .running).line.state ≠ .paused ∧ (line .running).line.state ≠ .jammed ∧
    Commanded sup [9, 4, 0] (line .jammed) := by decide +kernel

theorem witness_FlushEndsTheIntake :
    Commanded sup [9, 5] (line .running) ∧ (line .running).line.ending = false ∧ (line .running).line.state = .running ∧
    (line .paused).line.state = .paused ∧ (line .running).line.counters.unfed ≤ 16777215 ∧
    recordsHeld (after (.flush sup 9 []) (queued [job 1 1] (line .running))) = 0 ∧
    recordsHeld (after (.flush sup 9 []) (onTrack (line .paused))) ≠ 0 ∧ (ending (line .closed)).line.ending = true ∧
    (line .jammed).line.state ≠ .running ∧ (line .jammed).line.state ≠ .paused ∧ Commanded sup [9, 5, 0] (line .running) ∧
    (line .running).ring.own.length + 4 ≤ 32 ∧ (heldLine [job 1 1] (line .running)).queue.records ≠ [] := by decide +kernel

theorem witness_AbortClearsTheLine :
    Commanded sup [9, 6] (onTrack (line .draining)) ∧ (onTrack (line .draining)).line.state ≠ .idle ∧
    (onTrack (line .draining)).line.state ≠ .closed ∧ (line .draining).line.counters.unfed ≤ 16777215 ∧
    (line .draining).line.counters.aborted ≤ 16777215 ∧ (line .draining).line.counters.lost ≤ 16777215 ∧
    Commanded sup [9, 6] (line .closed) ∧ (line .closed).line.state = .closed ∧
    Commanded sup [9, 6, 0] (line .draining) ∧ (line .draining).ring.own.length + 4 ≤ 32 ∧
    (heldLine [job 1 1] (line .running)).channel.held = true := by decide +kernel

theorem witness_CloseRunFreesThePart :
    Commanded sup [9, 7] (line .closed) ∧ (line .closed).line.state = .closed ∧ Commanded sup [9, 7] (line .running) ∧
    (line .running).line.state ≠ .closed ∧ Commanded sup [9, 7, 0] (line .closed) := by decide +kernel

theorem witness_ResetLineReturnsToIdle :
    Commanded sup [9, 8] (onTrack (line .jammed)) ∧ stationAt 24 (line .jammed) = none ∧
    stationAt 9 (line .jammed) = some (station 19 .exit 7 0 0) ∧ (line .jammed).ring.own.length + 3 ≤ 32 ∧
    ({ line .jammed with channel := { (line .jammed).channel with held := true } } : State).channel.held = true ∧
    (line .jammed).supervisor ≠ 0 ∧ (line .jammed).supervisor ≠ 63 ∧ Commanded sup [9, 8, 0] (line .running) := by
  decide +kernel

theorem witness_ClearSlotsEmptiesWhatItNames :
    Commanded sup [9, 9, 1, 0, 7, 3] (onTrack (line .jammed)) ∧ (onTrack (line .jammed)).line.state = .jammed ∧
    (0 : Byte).toNat ≤ (7 : Byte).toNat ∧ (7 : Byte).toNat < (line .jammed).track.length ∧ (3 : Byte).toNat ≤ 3 ∧
    Commanded sup [9, 9, 0, 0, 0, 1] (line .jammed) ∧ (1 : Byte) ≠ 0 ∧ (line .jammed).line.counters.cleared ≤ 16777215 ∧
    (line .paused).line.state ≠ .jammed ∧ (line .jammed).track.length ≤ (8 : Byte).toNat ∧
    (3 : Byte).toNat < (4 : Byte).toNat ∧ Commanded sup [9, 9, 1] (line .jammed) ∧ Commanded sup [9, 9] (line .idle) := by
  decide +kernel

theorem witness_StopRequestsFollowTheTable :
    (line .running).line.state = .running ∧ (line .draining).line.state = .draining ∧ (line .paused).line.state = .paused ∧
    (line .jammed).line.state = .jammed ∧ (line .idle).line.state = .idle ∧
    stationOfKind .sheetFeeder (line .running) = some (0, station 10 .sheetFeeder 0 0 0) ∧
    (line .running).ring.own.length < 32 := by decide +kernel

theorem witness_DrainCompleteClosesTheRun :
    (line .draining).resetHigh = true ∧ (line .draining).line.state = .draining ∧
    recordsHeld (line .draining) = (line .draining).queue.records.length ∧
    recordsHeld (onTrack (line .draining)) ≠ (onTrack (line .draining)).queue.records.length ∧
    (line .running).line.state ≠ .draining := by decide +kernel

theorem witness_SheetsOutsideCollationsAreDiverted :
    Reached (from_ 11) (line .idle) ∧ stationFor .sheetScanner (from_ 11).src (line .idle) ≠ none ∧
    stationFor .sheetScanner (from_ 12).src (line .idle) = none ∧ (line .idle).line.state = .idle ∧
    (line .closed).line.state = .closed ∧ (ending (line .paused)).line.ending = true ∧ IntakeOpen (line .ready) ∧
    (pockets (.collecting (collation 1 2)) none (line .running)).collation.collecting = .collecting (collation 1 2) ∧
    (scanOf noRead).read = none ∧ (line .running).queue.records.head? = none ∧
    (scanOf (scan 500 1 64 100)).read = some (500, 0, 1, 64) ∧
    (queued [job 500 1] (pockets (.complete (collation 1 1)) (some (collation 2 1)) (line .running))).collation.collecting
      ≠ .empty ∧
    reprintFree { line .running with reprints := List.replicate 256 ⟨1, 0, .fault .mismatch, .open⟩ } ≤
      inFlightCount (line .running) ∧
    stationOfKind .sheetDivert (ownFullState (line .idle)) = some (2, station 12 .sheetDivert 0 0 0) ∧
    32 ≤ (ownFullState (line .idle)).ring.own.length := by decide +kernel

theorem witness_SheetsJoinTheirCollation :
    let s := pockets (.collecting (collation 500 2)) none (line .running)
    let full := pockets (.collecting { collation 500 2 with handFinish := true }) (some (collation 499 1)) (line .running)
    Reached (from_ 11) s ∧ stationFor .sheetScanner (from_ 11).src s ≠ none ∧ IntakeOpen s ∧
    s.collation.collecting = .collecting (collation 500 2) ∧ (scanOf (scan 500 2 2 100)).read = some (500, 0, 2, 2) ∧
    stationOfKind .sheetDivert s = some (2, station 12 .sheetDivert 0 0 0) ∧ s.ring.own.length < 32 ∧
    s.collation.staging = none ∧ full.collation.staging = some (collation 499 1) ∧
    stationOfKind .sheetDivert (ownFullState s) = some (2, station 12 .sheetDivert 0 0 0) ∧
    32 ≤ (ownFullState s).ring.own.length ∧
    stationOfNode (station 12 .sheetDivert 0 0 0).dst.toNat (ownFullState s) = some (2, station 12 .sheetDivert 0 0 0) := by
  decide +kernel

/-- R23: an ACCEPT that a full own-frame queue drops adds MISSING_PAGE to the collation that its sheet joined. -/
theorem witness_SheetsJoinTheirCollation_dropped :
    let s := ownFullState (pockets (.collecting (collation 500 3)) none (line .running))
    (after (.sheetScan (from_ 11) (scan 500 2 3 100)) s).collation.collecting =
      .collecting { collation 500 3 with sheets := [⟨100, false⟩, ⟨100, false⟩], next := 3, faults := [.missingPage] } := by
  decide +kernel

theorem witness_SheetsOpenAndCloseCollations :
    let s := queued [job 500 2] (line .running)
    let t := pockets (.collecting (collation 499 2)) none s
    Reached (from_ 11) s ∧ stationFor .sheetScanner (from_ 11).src s ≠ none ∧ IntakeOpen s ∧
    (scanOf (scan 500 1 2 100)).read = some (500, 0, 1, 2) ∧ s.collation.collecting = .empty ∧
    s.queue.records = job 500 2 :: [] ∧ inFlightCount s < reprintFree s ∧
    t.collation.collecting = .collecting (collation 499 2) ∧ ¬(500 = (collation 499 2).job.seq) ∧
    t.collation.staging = none ∧ (job 500 2).reprint = false ∧ s.supervisor ≠ 0 ∧ s.supervisor ≠ 63 ∧
    s.ring.own.length < 32 := by decide +kernel

theorem witness_EncoderPulseCounts :
    (line .idle).resetHigh = true ∧ (line .idle).line.state = .idle ∧ (line .closed).line.state ≠ .idle ∧
    (line .closed).track.position + 1 ≠ (line .closed).track.boundary ∧ -2147483648 < (line .closed).track.position ∧
    { (line .closed).track with position := -2147483648 }.position ≤ -2147483648 := by decide +kernel

/-- The line before the pulse of an advance, with both pockets full and a piece on the track. -/
def advanceLine : State :=
  let s := pockets (.complete (collation 701 1)) (some (collation 700 1)) (onTrack (line .running))
  { s with track := { s.track with position := 15 } }

theorem witness_PitchAdvanceCarriesPieces :
    advanceLine.resetHigh = true ∧ advanceLine.line.state ≠ .idle ∧
    advanceLine.track.position + 1 = advanceLine.track.boundary ∧ advanceLine.track.slots ≠ [] ∧
    advanceLine.track.boundary + advanceLine.track.pulses ≤ 1073741824 ∧
    (1073741824 : Int) < { advanceLine.track with position := 1073741823, boundary := 1073741824 }.boundary +
      advanceLine.track.pulses ∧
    advanceLine.ring.own.length < 32 ∧ advanceLine.collation.staging = some (collation 700 1) ∧
    advanceLine.collation.collecting = .complete (collation 701 1) ∧ (line .running).collation.staging = none ∧
    pieceAt 7 (putSlot 7 (some (piece 20 900)) (line .running)) = some (piece 20 900) ∧ pieceAt 7 (line .running) = none ∧
    stationOfKind .folder advanceLine = some (3, station 13 .folder 0 0 0) ∧
    stationOfKind .folder (putStation 3 none advanceLine) = none ∧ 32 ≤ (ownFullState advanceLine).ring.own.length := by
  decide +kernel

theorem witness_CommitBuildsThePiece :
    (line .running).track.slots ≠ [] ∧
    ({ collation 700 1 with faults := [.thinSheet] } : Collation).faults ≠ [] ∧
    MandatoryWithheld { job 700 1 with selections := [⟨4, .mandatory⟩] }
      (putStation 4 (some { station 14 .insert 1 1 300 with mode := .skip }) (line .running)) := by decide +kernel

theorem witness_FillCheckFitsTheEnvelope :
    fillCollation.faults = [] ∧ ¬MandatoryWithheld fillCollation.job fillLine ∧
    baseCaliper fillCollation fillLine ≤ fillLine.caliper.limit ∧
    { fillLine with caliper := { fillLine.caliper with limit := 1441 } }.caliper.limit < baseCaliper fillCollation fillLine ∧
    FillCandidate fillCollation.job 2 (station 16 .insert 7 1 260) 5 fillLine ∧
    FillCandidate fillCollation.job 3 { station 17 .insert 9 1 90 with mode := .force } 8 fillLine ∧
    (2 : Nat) ∈ (buildPiece fillCollation fillLine).dropped := by decide +kernel

/-- The line with a piece at the first INSERT station, with a plan and an operator mode there. -/
def arrival (plan : PlanEntry) (sel : List Selection) (mode : StationMode) : State :=
  putStation 4 (some { station 14 .insert 1 1 300 with mode := mode })
    (putSlot 1 (some { piece 20 900 with plan := [(4, plan)], job := { job 900 1 with selections := sel } }) (line .running))

theorem witness_ArrivalsFollowPlanAndMode :
    let at_ := fun (s : State) => ((pieceAt 1 s).map fun p => (p.diverted, p.planFor 4), (stationAt 4 s).map fun e =>
      (e.kind, actionFor (((pieceAt 1 s).map (·.job)).getD (job 0 0)) 4 e))
    at_ (arrival .mandatory [⟨4, .mandatory⟩] .normal) = (some (false, .mandatory), some (.insert, .mandatory)) ∧
    at_ (arrival (.optional 2) [⟨4, .optional 2⟩] .normal) = (some (false, .optional 2), some (.insert, .optional 2)) ∧
    at_ (arrival .forced [] .force) = (some (false, .forced), some (.insert, .forced)) ∧
    at_ (arrival .none [] .force) = (some (false, .none), some (.insert, .forced)) ∧
    at_ (arrival .none [] .normal) = (some (false, .none), some (.insert, .noFeed)) ∧
    at_ (arrival .mandatory [⟨4, .mandatory⟩] .skip) = (some (false, .mandatory), some (.insert, .noFeed)) ∧
    at_ (arrival (.optional 2) [⟨4, .optional 2⟩] .off) = (some (false, .optional 2), some (.insert, .noFeed)) ∧
    at_ (arrival .forced [] .normal) = (some (false, .forced), some (.insert, .noFeed)) ∧
    (arrival .none [] .force).ring.own.length < 32 ∧ 900 + 300 ≤ (arrival .none [] .force).caliper.limit ∧
    (station 16 .envelope 3 1 0).effectiveMode = .normal ∧
    ({ station 17 .scanOut 4 1 0 with mode := .off } : StationEntry).effectiveMode = .off := by decide +kernel

theorem witness_ArrivalsFollowPlanAndMode_drop :
    let s := { arrival .none [] .force with caliper := { (line .running).caliper with limit := 1199 } }
    pieceAt 1 s ≠ none ∧ s.caliper.limit < 900 + 300 := by decide +kernel

/-- The full own-frame queue at an INSERT, the ENVELOPE and the SCAN_OUT station. -/
theorem witness_ArrivalsFollowPlanAndMode_dropped :
    let s := ownFullState (putSlot 3 (some (piece 21 901)) (putSlot 4 (some (piece 22 902)) (arrival .none [] .force)))
    32 ≤ s.ring.own.length ∧
    stationOfNode (station 14 .insert 1 1 300).dst.toNat s = some (4, { station 14 .insert 1 1 300 with mode := .force }) ∧
    stationOfNode (station 16 .envelope 3 1 0).dst.toNat s = some (6, station 16 .envelope 3 1 0) ∧
    stationOfNode (station 17 .scanOut 4 1 0).dst.toNat s = some (7, station 17 .scanOut 4 1 0) ∧
    (piece 20 900).windowFor 4 = none ∧ (piece 21 901).windowFor 6 = none ∧ (piece 22 902).windowFor 7 = none ∧
    (∀ m < s.track.slots.length, ∀ q, pieceAt m s = some q → q.tag = (piece 20 900).tag → m = 1) ∧
    (∀ m < s.track.slots.length, ∀ q, pieceAt m s = some q → q.tag = (piece 21 901).tag → m = 3) ∧
    ∀ m < s.track.slots.length, ∀ q, pieceAt m s = some q → q.tag = (piece 22 902).tag → m = 4 := by decide +kernel

theorem witness_PassedWindowsCloseWithoutResult :
    (line .idle).resetHigh = true ∧ (line .idle).line.state = .idle ∧ (line .jammed).line.state ≠ .idle ∧
    ∃ p w, pieceAt 6 (putSlot 6 (some { piece 20 900 with windows := [⟨7, 5, .scan⟩] }) (line .jammed)) = some p ∧
      w ∈ p.windows ∧ w.passed 6 :=
  ⟨by decide +kernel, by decide +kernel, by decide +kernel, { piece 20 900 with windows := [⟨7, 5, .scan⟩] },
    ⟨7, 5, .scan⟩, by decide +kernel, by decide +kernel, by decide⟩

theorem witness_StationReportsMoveTheirEntry :
    Reached (from_ 18) (line .running) ∧ stationOfNode (from_ 40).src.toNat (line .running) = none ∧
    stationOfNode (from_ 18).src.toNat (line .running) = some (8, station 18 .slotCheck 5 0 0) ∧
    stationFor .slotCheck (from_ 18).src (line .running) = some (8, station 18 .slotCheck 5 0 0) ∧
    stationFor .slotCheck (from_ 17).src (line .running) = none ∧ (station 18 .slotCheck 5 0 0).status ≠ .low ∧
    stationAt 8 (line .running) = some (station 18 .slotCheck 5 0 0) ∧ min 15 (0 + 1) < 3 ∧ 3 ≤ min 15 (2 + 1) ∧
    (0 : Byte).toNat = (line .running).track.pitch ∧ (1 : Byte).toNat ≠ (line .running).track.pitch ∧
    pieceAt 5 (onTrack (line .running)) ≠ none ∧ pieceAt 5 (line .running) = none ∧ (line .ready).line.state ≠ .idle := by
  decide +kernel

/-- The piece 20 waiting for a feed of the second INSERT station, of the envelope and of the scanner. -/
def waiting (kind : FeedKind) : State :=
  putSlot 3 (some { piece 20 900 with windows := [⟨5, 4, .feed kind⟩, ⟨6, 4, .envelope⟩, ⟨7, 5, .scan⟩] }) (line .running)

theorem witness_FeedResultsActByTheirKind :
    Reached (from_ 15) (waiting .mandatory) ∧ stationFor .insert (from_ 16).src (waiting .mandatory) = none ∧
    stationFor .insert (from_ 15).src (waiting .mandatory) = some (5, station 15 .insert 2 2 500) ∧
    (line .idle).line.state = .idle ∧ (waiting .mandatory).line.state ≠ .idle ∧
    NothingAwaits feedWindows 5 (21 : Byte).toNat (waiting .mandatory) ∧
    NothingAwaits feedWindows 4 (20 : Byte).toNat (waiting .mandatory) ∧
    NothingAwaits feedWindows 6 (20 : Byte).toNat (waiting .mandatory) ∧
    Awaits 3 5 (20 : Byte).toNat { piece 20 900 with windows := [⟨5, 4, .feed .mandatory⟩, ⟨6, 4, .envelope⟩, ⟨7, 5, .scan⟩] }
      ⟨5, 4, .feed .mandatory⟩ (waiting .mandatory) ∧
    Awaits 3 5 (20 : Byte).toNat { piece 20 900 with windows := [⟨5, 4, .feed .optional⟩, ⟨6, 4, .envelope⟩, ⟨7, 5, .scan⟩] }
      ⟨5, 4, .feed .optional⟩ (waiting .optional) := by decide +kernel

theorem witness_EnvelopeAndScanResultsActOnTheirPiece :
    Reached (from_ 16) (waiting .mandatory) ∧
    stationFor .envelope (from_ 16).src (waiting .mandatory) = some (6, station 16 .envelope 3 1 0) ∧
    stationFor .scanOut (from_ 17).src (waiting .mandatory) = some (7, station 17 .scanOut 4 1 0) ∧
    stationFor .envelope (from_ 17).src (waiting .mandatory) = none ∧
    stationFor .scanOut (from_ 16).src (waiting .mandatory) = none ∧ (waiting .mandatory).line.state ≠ .idle ∧
    NothingAwaits [.envelope] 6 (21 : Byte).toNat (waiting .mandatory) ∧
    NothingAwaits [.envelope] 7 (20 : Byte).toNat (waiting .mandatory) ∧
    NothingAwaits [.scan] 7 (21 : Byte).toNat (waiting .mandatory) ∧
    NothingAwaits [.scan] 6 (20 : Byte).toNat (waiting .mandatory) ∧
    Awaits 3 6 (20 : Byte).toNat { piece 20 900 with windows := [⟨5, 4, .feed .optional⟩, ⟨6, 4, .envelope⟩, ⟨7, 5, .scan⟩] }
      ⟨6, 4, .envelope⟩ (waiting .optional) ∧
    Awaits 3 7 (20 : Byte).toNat { piece 20 900 with windows := [⟨5, 4, .feed .optional⟩, ⟨6, 4, .envelope⟩, ⟨7, 5, .scan⟩] }
      ⟨7, 5, .scan⟩ (waiting .optional) ∧
    (900#24).toNat = (job 900 1).seq ∧ (899#24).toNat ≠ (job 900 1).seq ∧ (job 900 1).matchRequired = true ∧
    ({ job 900 1 with matchRequired := false } : JobRecord).matchRequired = false := by decide +kernel

theorem witness_ExitSelectsABin :
    (piece 20 900).diverted = false ∧ (line .running).ring.own.length < 32 ∧
    (groupAt 0 (line .running)).chain = [] ++ 0 :: [] ∧ (binAt 0 (line .running)).state = .open ∧
    (binAt 0 (line .running)).committed < (binAt 0 (line .running)).capacity.getD 0 ∧
    (binAt 0 (line .running)).flights.length < 8 ∧ (binAt 0 (line .running)).node = some 30 ∧
    (binAt 0 (flying 0 [] none .off (line .running))).state ≠ .open ∧
    ({ piece 20 900 with diverted := true, faults := [.insertMiss] } : Piece).faults ≠ [] ∧
    (line .running).reprints.length < 256 ∧ (line .running).line.state ≠ .draining ∧
    recordsHeld (line .draining) = (line .draining).queue.records.length ∧
    recordsHeld (onTrack (line .draining)) ≠ (onTrack (line .draining)).queue.records.length ∧
    stationOfKind .exit (line .running) = some (9, station 19 .exit 7 0 0) ∧
    stationOfKind .exit (putStation 9 none (line .running)) = none ∧
    stationOfKind .exit (ownFullState (line .running)) = some (9, station 19 .exit 7 0 0) ∧
    32 ≤ (ownFullState (line .running)).ring.own.length ∧
    stationOfNode (station 19 .exit 7 0 0).dst.toNat (ownFullState (line .running)) = some (9, station 19 .exit 7 0 0) ∧
    (ownFullState (line .running)).line.state = .running ∧ (ownFullState (onTrack (line .draining))).line.state = .draining ∧
    recordsHeld (ownFullState (onTrack (line .draining))) ≠ (ownFullState (onTrack (line .draining))).queue.records.length ∧
    (ownFullState (line .paused)).line.state ≠ .running ∧ (ownFullState (line .paused)).line.state ≠ .draining := by decide +kernel

/-- A BIN_SELECT that a full own-frame queue drops, to a bin with a flight of another tag and an open bundle. -/
theorem witness_ExitSelectsABin_dropped :
    let s := ownFullState (flying 0 [flight 102 2003 5 22] (some (bundle 3 2)) .open (line .running))
    32 ≤ s.ring.own.length ∧ (groupAt 0 s).chain = [] ++ 0 :: [] ∧ (binAt 0 s).state = .open ∧
    (binAt 0 s).committed < (binAt 0 s).capacity.getD 0 ∧ (binAt 0 s).flights.length < 8 ∧ (binAt 0 s).node = some 30 ∧
    (∀ y ∈ (binAt 0 s).flights, y.serial % 256 ≠ (piece 20 900).serial % 256) ∧
    recordsHeld s ≠ s.queue.records.length ∧
    recordsHeld (ownFullState (line .draining)) = (ownFullState (line .draining)).queue.records.length := by decide +kernel

/-- The line with one enabled scheme entry, at index 511. -/
def oneEntryLine : State :=
  let s := line .running
  { s with sort := { s.sort with
    scheme := s.sort.scheme.set 511 (schemeEntry [some 4, some 1, none, none, none, none, none, none, none] 1 5 4) } }

theorem witness_SchemeMatchIsTheMostSpecific :
    (Destination.positions ⟨[4, 1, 2, 7, 3], some [0, 0, 1, 5]⟩).length = 9 ∧
    (∀ i, (schemeAt i oneEntryLine).pattern.length = 9) ∧ (schemeAt 511 oneEntryLine).enabled = true ∧
    (schemeMatch ⟨[4, 1, 2, 7, 3], none⟩ oneEntryLine).entry = some 511 ∧
    ∀ i, (schemeAt i (line .running)).enabled = false := by
  refine ⟨by decide, fun i => ?_, by decide +kernel, by decide +kernel, fun i => ?_⟩
  · simp only [schemeAt, oneEntryLine, line, State.reset, State.powerOn, Vector.getElem?_set, Vector.getElem?_replicate]
    split
    · rfl
    · split <;> rfl
  · simp only [schemeAt, line, State.reset, State.powerOn, Vector.getElem?_replicate]
    split <;> rfl

/-- The line with two C pieces in flight to bin 1 and an open A bundle. -/
def landingLine (state : RunState) (st : BinState) : State :=
  flying 1 [flight 102 2003 5 22, flight 103 2004 5 23] (some (bundle 3 2)) st (line state)

theorem witness_LandingsFormBundles :
    Reached (from_ 31) (landingLine .running .open) ∧ binOfNode (from_ 31).src.toNat (landingLine .running .open) = some 1 ∧
    binOfNode (from_ 33).src.toNat (landingLine .running .open) = none ∧
    (binAt 1 (landingLine .running .open)).flights = flight 102 2003 5 22 :: [flight 103 2004 5 23] ∧
    (binAt 0 (landingLine .running .open)).flights = [] ∧ (landingLine .running .open).line.state ≠ .draining ∧
    (landingLine .draining .open).line.state = .draining ∧ (bundle 3 2).key ≠ (flight 102 2003 5 22).key ∧
    groupOfBin 1 (landingLine .running .open) = some 1 ∧ (landingLine .running .open).ring.own.length + 4 ≤ 32 ∧
    (groupAt 1 (landingLine .running .open)).target = 4 ∧ (flight 102 2003 3 22).key = (bundle 3 3).key ∧
    ∀ c < 32, c = 1 ∨ (binAt c (landingLine .draining .open)).bundle ≠ none →
      groupOfBin c (landingLine .draining .open) ≠ none := by decide +kernel

/-- The third of three pieces fills a bundle of 4 while the own-frame queue is full. -/
theorem witness_LandingsFormBundles_dropped :
    let s := ownFullState (flying 1 [flight 102 2003 3 22] (some (bundle 3 3)) .open (line .running))
    Reached (from_ 31) s ∧ binOfNode (from_ 31).src.toNat s = some 1 ∧ 32 ≤ s.ring.own.length ∧
    groupOfBin 1 s = some 1 ∧ (groupAt 1 s).target ≤ (bundle 3 3).count + 1 := by decide +kernel

theorem witness_SweepsAndFullMoveTheBin :
    Reached (from_ 31) (landingLine .running .fullWait) ∧ binOfNode (from_ 31).src.toNat (landingLine .running .open) = some 1 ∧
    binOfNode (from_ 12).src.toNat (landingLine .running .open) = none ∧ (binAt 1 (landingLine .running .open)).state = .open ∧
    (binAt 1 (landingLine .running .fullWait)).state ≠ .open ∧ 3 < (4 : Byte).toNat ∧
    (binAt 0 (landingLine .running .open)).bundle = none ∧
    (binAt 1 (landingLine .running .open)).bundle = some (bundle 3 2) ∧
    groupOfBin 1 (landingLine .running .open) = some 1 := by decide +kernel

theorem witness_TimedOutFlightsAreLost :
    let s := landingLine .running .open
    let t := { s with track := { s.track with position := 15, pitch := 27 } }
    t.resetHigh = true ∧ t.line.state ≠ .idle ∧ t.track.position + 1 = t.track.boundary ∧
    flight 102 2003 5 22 ∈ (binAt 1 t).flights ∧
    t.sort.window ≤ ((t.track.pitch + 1) % 256 + 256 - (flight 102 2003 5 22).pitch % 256) % 256 ∧
    ¬t.sort.window ≤ ((t.track.pitch + 1) % 256 + 256 - (flight 103 2004 5 23).pitch % 256) % 256 ∧
    t.ring.own.length + 2 ≤ 32 ∧ t.line.counters.lost ≤ 16777215 ∧ (alertOf .sorter t).pending = false ∧
    s.track.position + 1 ≠ s.track.boundary ∧ (landingLine .paused .open).line.state ≠ .running ∧
    (landingLine .paused .open).line.state ≠ .draining ∧ ((List.range 32).map fun b =>
      ((binAt b (line .running)).flights.filter fun _ => true).length).sum = 0 := by decide +kernel

/-- An examination that finds a flight: the pitch number lies 6 after the selection of the first. -/
theorem witness_TimedOutFlightsAreLost_gone :
    let s := landingLine .running .open
    let t := { s with track := { s.track with pitch := 28 } }
    ((List.range 32).map fun b => ((binAt b t).flights.filter (timedOut t)).length).sum = 1 := by decide +kernel

theorem witness_UntakenStationFramesAct :
    Returned (waiting .mandatory) ∧ stationOfNode (15 : Node).toNat (waiting .mandatory) = some (5, station 15 .insert 2 2 500) ∧
    stationOfNode (40 : Node).toNat (waiting .mandatory) = none ∧
    NothingAwaits feedWindows 5 (21 : Byte).toNat (waiting .mandatory) ∧
    NothingAwaits [.envelope] 5 (20 : Byte).toNat (waiting .mandatory) ∧
    NothingAwaits [.scan] 5 (20 : Byte).toNat (waiting .mandatory) ∧
    Awaits 3 6 (20 : Byte).toNat { piece 20 900 with windows := [⟨5, 4, .feed .optional⟩, ⟨6, 4, .envelope⟩, ⟨7, 5, .scan⟩] }
      ⟨6, 4, .envelope⟩ (waiting .optional) ∧
    Awaits 3 7 (20 : Byte).toNat { piece 20 900 with windows := [⟨5, 4, .feed .optional⟩, ⟨6, 4, .envelope⟩, ⟨7, 5, .scan⟩] }
      ⟨7, 5, .scan⟩ (waiting .optional) ∧
    Awaits 3 5 (20 : Byte).toNat { piece 20 900 with windows := [⟨5, 4, .feed .mandatory⟩, ⟨6, 4, .envelope⟩, ⟨7, 5, .scan⟩] }
      ⟨5, 4, .feed .mandatory⟩ (waiting .mandatory) ∧
    (pockets (.collecting (collation 5 2)) none (line .running)).collation.collecting = .collecting (collation 5 2) ∧
    (pockets (.complete (collation 5 2)) (some (collation 4 1)) (line .running)).collation.staging = some (collation 4 1) ∧
    pieceAt 3 (waiting .mandatory) ≠ none ∧ (1 : Byte) ≠ 0 := by decide +kernel

theorem witness_UntakenStationFramesAct_one_piece :
    ∀ m < (waiting .mandatory).track.slots.length, ∀ q, pieceAt m (waiting .mandatory) = some q → q.job.seq = 900 → m = 3 := by
  decide +kernel

/-- The line with the DIVERT_CMD of serial 812 sent, and two flights to bin 1. -/
def divertedLine : State :=
  let s := landingLine .running .open
  { s with track := { s.track with divertSerials := [812] } }

theorem witness_UntakenSorterFramesAct :
    Returned divertedLine ∧ divertedLine.track.divertSerials.find? (fun x => x % 256 == (44 : Byte).toNat) = some 812 ∧
    divertedLine.track.divertSerials.find? (fun x => x % 256 == (45 : Byte).toNat) = none ∧
    binOfNode (31 : Node).toNat divertedLine = some 1 ∧ binOfNode (19 : Node).toNat divertedLine = none ∧
    divertedLine.line.state ≠ .draining ∧ (landingLine .draining .open).line.state = .draining ∧
    binOfNode (31 : Node).toNat (landingLine .draining .open) = some 1 ∧
    (∀ f ∈ (binAt 1 divertedLine).flights, f.serial % 256 ≠ (9 : Byte).toNat) ∧
    (binAt 1 divertedLine).flights = [flight 102 2003 5 22] ++ flight 103 2004 5 23 :: [] ∧
    (flight 103 2004 5 23).serial % 256 = (103 : Byte).toNat ∧ (flight 102 2003 5 22).serial % 256 ≠ (103 : Byte).toNat := by
  decide +kernel

/-- The items of a LOAD PROFILE with the four stocks at their defaults and a track of L slots of P pulses. -/
def profileItems (l p : Nat) : List Byte :=
  bytes ((List.replicate 4 [8, 0, 100, 16, 0, 20]).flatten ++
    [1, 144, 23, 112, 24, 206, 74, 106, 12, 4, l, p / 256, p % 256, 6, 48, 16, 2, 0])

theorem witness_ProfileLoadsWholeOrNotAtAll :
    Commanded sup (9 :: 1 :: profileItems 8 4095) (line .ready) ∧ (line .running).line.state ≠ .idle ∧
    (line .running).line.state ≠ .ready ∧ (line .ready).line.state = .ready ∧ (bytes [0]).length ≠ 42 ∧
    (∀ p ∈ readProfile (profileItems 8 16), ProfileSound p (line .ready) ∧ ¬ProfileInUse p (onTrack (line .ready))) ∧
    (∀ p ∈ readProfile (profileItems 8 4095), ProfileSound p (line .ready) ∧ ProfileInUse p (onTrack (line .ready))) ∧
    (profileItems 8 16).length = 42 ∧ (∀ p ∈ readProfile (profileItems 8 4096), ¬ProfileSound p (line .ready)) ∧
    (readProfile (profileItems 8 16)).isSome = true ∧ (readProfile (profileItems 8 4096)).isSome = true := by decide +kernel

/-- The items of a LOAD STATION of one entry at position 10: an INSERT station at a node with offset 2, window 1, late limit 3
and I = 300 µm. -/
def stationItems (node : Nat) : List Byte := bytes [10, 1, node, 5, 2, 49, 1, 44]

theorem witness_StationLoadsKeepTheTableSound :
    Commanded sup (9 :: 2 :: stationItems 62) (line .idle) ∧ (line .idle).line.state = .idle ∧
    (line .ready).line.state ≠ .idle ∧ readStations [10, 1, 5] = none ∧
    (∀ x ∈ readStations (stationItems 62), x.1 = 10 ∧ x.2.length = 1 ∧
      StationsSound (stationsLoaded x.1 x.2 (line .idle)) (line .idle)) ∧
    (∀ x ∈ readStations (stationItems 19), ¬StationsSound (stationsLoaded x.1 x.2 (line .idle)) (line .idle)) ∧
    (readStations (stationItems 62)).isSome = true ∧ (readStations (stationItems 19)).isSome = true ∧
    (∀ x ∈ readStations (bytes [24, 1, 62, 5, 2, 49, 1, 44]), 24 < x.1 + x.2.length) := by decide +kernel

/-- The items of a LOAD SCHEME of one DISABLED mark at offset 15 of page 31. -/
def schemeItems : List Byte := bytes [31, 15, 1, 0]

theorem witness_SchemeLoadsWrapWithinThePage :
    Commanded sup (9 :: 3 :: schemeItems) (line .paused) ∧ (line .running).line.state = .running ∧
    (line .paused).line.state ≠ .running ∧ (line .paused).line.state ≠ .draining ∧ readScheme (bytes [32, 0, 1, 0]) = none ∧
    readScheme schemeItems = some (31, 15, [SchemeEntry.powerOn]) ∧ pageUseAt 31 (line .paused) = 0 ∧
    0 < pageUseAt 31 (putPageUse 31 1 (line .paused)) := by decide +kernel

theorem witness_GroupAndBinLoadsWriteWhole :
    Commanded sup (9 :: 4 :: bytes [15, 2, 2, 3, 4, 2, 1]) (line .running) ∧
    (∀ f ∈ readGroup (bytes [15, 2, 2, 3, 4, 2, 1]), GroupLoadSound f (line .running)) ∧
    (∀ f ∈ readGroup (bytes [15, 2, 2, 1, 4, 2, 1]), ¬GroupLoadSound f (line .running)) ∧
    (readGroup (bytes [15, 2, 2, 3, 4, 2, 1])).isSome = true ∧ (readGroup (bytes [15, 2, 2, 1, 4, 2, 1])).isSome = true ∧
    readGroup (bytes [15, 5]) = none ∧ BinInUse 1 (landingLine .running .open) ∧ ¬BinInUse 2 (landingLine .running .open) ∧
    (groupAt 15 (line .running)).refs = 0 ∧ Commanded sup (9 :: 5 :: bytes [2, 40, 7, 208]) (line .running) ∧
    BinLoadSound 2 40 2000 (line .running) ∧ ¬BinLoadSound 2 40 2001 (line .running) ∧
    (binAt 2 (line .running)).state = .off ∧ (binAt 1 (line .running)).state ≠ .off := by decide +kernel

theorem witness_ModesAndRelearnAct :
    Commanded sup [9, 11, 255] (line .running) ∧ Commanded sup [9, 11, 255, 4] (line .running) ∧ (0 : Byte).toNat < 1 ∧ 4 < (5 : Byte).toNat ∧
    stationAt (9 : Byte).toNat (line .running) = some (station 19 .exit 7 0 0) ∧
    stationAt (23 : Byte).toNat (line .running) = none ∧ Commanded sup [9, 12, 1, 1] (line .running) ∧
    Commanded sup [9, 12, 1, 2] (line .running) ∧ (binAt (1 : Byte).toNat (line .running)).node ≠ none ∧
    (binAt (31 : Byte).toNat (line .running)).node = none ∧
    (binAt 1 (landingLine .running .open)).flights ≠ [] ∧
    (binAt 1 (flying 1 [] (some (bundle 3 1)) .open (line .running))).bundle ≠ none ∧
    (binAt 1 (flying 1 [] (some (bundle 3 1)) .open (line .running))).flights = [] ∧
    Commanded sup [9, 13, 3] (line .running) ∧ Commanded sup [9, 13] (line .running) ∧ 3 < (4 : Byte).toNat ∧
    groupOfBin 1 (flying 1 [] (some (bundle 3 1)) .open (line .running)) = some 1 ∧
    Commanded sup [9, 12, 1] (line .running) ∧ Commanded sup [9, 12, 1, 3] (line .running) ∧ (3 : Byte) ≠ 1 ∧
    (3 : Byte) ≠ 2 := by decide +kernel

/-- A RUNNING line with a record whose permit has not been re-evaluated. -/
theorem witness_OutputsFollowStateKept_change :
    let s := queued [job 1 1] (line .running)
    permitConditions s ≠ s.line.permit ∧ permitConditions (line .running) = (line .running).line.permit ∧
    stationOfKind .sheetFeeder s = some (0, station 10 .sheetFeeder 0 0 0) ∧ s.ring.own.length < 32 ∧
    stationOfKind .sheetFeeder (putStation 0 none s) = none ∧ 32 ≤ (ownFullState s).ring.own.length := by decide +kernel

/-- A state of an open run that meets every invariant that a statement takes as a premise, and whose step answers a next state:
the hypotheses of each statement that a step keeps an invariant. -/
theorem witness_invariants_in_a_run :
    let s := onTrack (line .running)
    let t := { s with
      line := { s.line with counters := { s.line.counters with accepted := 1 } }
      sort := { s.sort with groups := s.sort.groups.set 0 { groupAt 0 s with refs := 1 } }
      queue := { s.queue with last := some 900 }
      pending := [.pitchAdvance] }
    (OutputsFollowState t ∧ WithinCapacity t ∧ BinsSound t ∧ TrackSound t ∧ RunAccounted t ∧ MatchCountsExact t ∧
      SequencesSound t ∧ StocksSound t ∧ LogSerialsConsecutive t ∧ GroupsSound t ∧ NodesDistinct t) ∧
    ∃ u, step t = .next u := ⟨by decide +kernel, _, rfl⟩

end Sys2Proof.Tests
end

section
/-! The fill check at commit (03, R53 to R55): the order in which candidates are dropped, what the drop loop leaves and drops,
the candidates and sums of a station table, and the plan that a piece gets from them. -/

namespace Sys2Proof.Machine

/-! ### The order of dropping (R54) -/

theorem Candidate.before_iff (a b : Candidate) :
    a.before b = true ↔ b.priority < a.priority ∨
      (a.priority = b.priority ∧ (b.offset < a.offset ∨ (a.offset = b.offset ∧ b.station < a.station))) := by
  simp [Candidate.before]

theorem Candidate.before_irrefl (a : Candidate) : ¬a.before a = true := by
  simp [Candidate.before_iff]

theorem Candidate.before_trans {a b c : Candidate} (hab : a.before b = true) (hbc : b.before c = true) :
    a.before c = true := by
  rw [Candidate.before_iff] at *
  omega

/-- Candidates of different stations are ordered one way or the other. -/
theorem Candidate.before_of_not_before {a b : Candidate} (hne : a.station ≠ b.station) (h : ¬b.before a = true) :
    a.before b = true := by
  rw [Candidate.before_iff] at *
  omega

theorem worstCandidate_eq_none_iff {cs : List Candidate} : worstCandidate cs = none ↔ cs = [] := by
  cases cs with
  | nil => simp [worstCandidate]
  | cons a rest => simp only [worstCandidate]; split <;> simp

/-- The candidate to drop next is one of the list, and none of the list goes before it. -/
theorem worstCandidate_spec {cs : List Candidate} {w : Candidate} (h : worstCandidate cs = some w) :
    w ∈ cs ∧ ∀ c ∈ cs, ¬c.before w = true := by
  induction cs generalizing w with
  | nil => simp [worstCandidate] at h
  | cons a rest ih =>
    simp only [worstCandidate] at h
    split at h
    · next hrest =>
      rw [worstCandidate_eq_none_iff] at hrest
      cases h
      simp [hrest, Candidate.before_irrefl]
    · next b hb =>
      obtain ⟨hmem, hmax⟩ := ih hb
      by_cases hab : a.before b = true
      · rw [if_pos hab] at h
        cases h
        refine ⟨List.mem_cons_self, List.forall_mem_cons.mpr ⟨Candidate.before_irrefl _, fun c hc hca => ?_⟩⟩
        exact hmax c hc (Candidate.before_trans hca hab)
      · rw [if_neg hab] at h
        cases h
        exact ⟨List.mem_cons_of_mem _ hmem, List.forall_mem_cons.mpr ⟨hab, hmax⟩⟩

/-! ### The drop loop (R54) -/

/-- What the drop loop must answer for the candidates `cs`: the kept ones are those whose station is not in the dropped list,
they fit the envelope limit with the base, every dropped candidate goes before every kept one, and without the last drop the
total would still exceed the limit. -/
structure DropsToFit (limit base : Nat) (cs kept : List Candidate) (dropped : List Nat) : Prop where
  kept_eq : kept = cs.filter (fun c => decide (c.station ∉ dropped))
  candidates : ∀ i ∈ dropped, ∃ c ∈ cs, c.station = i
  fits : base + (kept.map (·.caliper)).sum ≤ limit
  ordered : ∀ c ∈ cs, c.station ∈ dropped → ∀ k ∈ kept, c.before k = true
  needed : ∀ l i, dropped = l ++ [i] → ∀ c ∈ cs, c.station = i →
    limit < base + (kept.map (·.caliper)).sum + c.caliper

theorem DropsToFit.none_dropped {limit base : Nat} {cs : List Candidate}
    (h : base + (cs.map (·.caliper)).sum ≤ limit) : DropsToFit limit base cs cs [] where
  kept_eq := by simp
  candidates := by simp
  fits := h
  ordered := by simp
  needed := by simp

/-- Where each station gives one candidate, leaving out a candidate's station leaves out that candidate alone. -/
theorem filter_station_ne_eq_erase {cs : List Candidate} {w : Candidate} (hn : (cs.map (·.station)).Nodup) (hw : w ∈ cs) :
    cs.filter (fun c => c.station != w.station) = cs.erase w := by
  rw [hn.of_map.erase_eq_filter]
  refine List.filter_congr fun c hc => ?_
  have hsame : c.station = w.station ↔ c = w := ⟨List.inj_on_of_nodup_map hn hc hw, congrArg _⟩
  simp [bne, hsame, Bool.beq_eq_decide_eq]

/-- One turn of the loop: the total exceeds the limit, the worst candidate goes, and the rest is dropped to fit. -/
theorem DropsToFit.drop_worst {limit base : Nat} {cs kept : List Candidate} {rest : List Nat} {w : Candidate}
    (hn : (cs.map (·.station)).Nodup) (hover : limit < base + (cs.map (·.caliper)).sum) (hw : worstCandidate cs = some w)
    (h : DropsToFit limit base (cs.filter (fun c => c.station != w.station)) kept rest) :
    DropsToFit limit base cs kept (w.station :: rest) := by
  obtain ⟨hmem, hmax⟩ := worstCandidate_spec hw
  have mem_left : ∀ {c}, c ∈ cs → c.station ≠ w.station → c ∈ cs.filter (fun c => c.station != w.station) :=
    fun hc hne => List.mem_filter.mpr ⟨hc, by simpa using hne⟩
  have eq_worst : ∀ {c}, c ∈ cs → c.station = w.station → c = w := fun hc he => List.inj_on_of_nodup_map hn hc hmem he
  have kept_sub : ∀ {k}, k ∈ kept → k ∈ cs ∧ k.station ≠ w.station := fun hk => by
    rw [h.kept_eq] at hk
    simpa using (List.mem_filter.mp hk).1
  refine { kept_eq := ?kept_eq, candidates := ?candidates, fits := h.fits, ordered := ?ordered, needed := ?needed }
  case kept_eq =>
    rw [h.kept_eq, List.filter_filter]
    refine List.filter_congr fun c _ => ?_
    simp [bne, Bool.beq_eq_decide_eq, Bool.and_comm]
  case candidates =>
    refine List.forall_mem_cons.mpr ⟨⟨w, hmem, rfl⟩, fun i hi => ?_⟩
    obtain ⟨c, hc, rfl⟩ := h.candidates i hi
    exact ⟨c, List.mem_of_mem_filter hc, rfl⟩
  case ordered =>
    intro c hc hd k hk
    by_cases hcw : c.station = w.station
    · obtain ⟨hkcs, hkne⟩ := kept_sub hk
      rw [eq_worst hc hcw]
      exact Candidate.before_of_not_before hkne.symm (hmax k hkcs)
    · exact h.ordered c (mem_left hc hcw) ((List.mem_cons.mp hd).resolve_left hcw) k hk
  case needed =>
    intro l i hl c hc hci
    obtain ⟨rfl, hrest⟩ | ⟨l', rfl, hrest⟩ := List.cons_eq_append_iff.mp hl
    · obtain ⟨hiw, rfl⟩ := List.cons_eq_cons.mp hrest
      have hkept : kept = cs.erase w := by
        rw [← filter_station_ne_eq_erase hn hmem, h.kept_eq]; simp
      have hsum : w.caliper + ((cs.erase w).map (·.caliper)).sum = (cs.map (·.caliper)).sum :=
        List.sum_map_erase _ hmem
      rw [eq_worst hc (hci.trans hiw), hkept]
      omega
    · obtain ⟨d, hd, hdi⟩ := h.candidates i (by simp [hrest])
      have hne : c.station ≠ w.station := by
        rw [hci, ← hdi]; simpa using (List.mem_filter.mp hd).2
      exact h.needed l' i hrest c (mem_left hc hne) hci

/-- The loop appends to the list it is given what it drops from an empty one. -/
theorem dropCandidates_append (limit base fuel : Nat) (cs : List Candidate) (dropped : List Nat) :
    dropCandidates limit base fuel cs dropped =
      ((dropCandidates limit base fuel cs []).1, dropped ++ (dropCandidates limit base fuel cs []).2) := by
  induction fuel generalizing cs dropped with
  | zero => simp [dropCandidates]
  | succ fuel ih =>
    simp only [dropCandidates]
    split
    · simp
    · split
      · simp
      · next w _ =>
        rw [ih _ (dropped ++ [w.station]), ih _ ([] ++ [w.station])]
        simp

/-- With a turn for each candidate and a base within the limit, the loop drops until the total fits. -/
theorem dropCandidates_dropsToFit {limit base fuel : Nat} {cs : List Candidate} (hbase : base ≤ limit)
    (hn : (cs.map (·.station)).Nodup) (hfuel : cs.length ≤ fuel) :
    DropsToFit limit base cs (dropCandidates limit base fuel cs []).1 (dropCandidates limit base fuel cs []).2 := by
  induction fuel generalizing cs with
  | zero =>
    obtain rfl : cs = [] := List.length_eq_zero_iff.mp (by omega)
    exact .none_dropped (by simpa using hbase)
  | succ fuel ih =>
    simp only [dropCandidates]
    split
    · next hfit => exact .none_dropped hfit
    · next hover =>
      split
      · next hnone =>
        rw [worstCandidate_eq_none_iff] at hnone
        simp [hnone, hbase] at hover
      · next w hw =>
        rw [dropCandidates_append]
        have hmem := (worstCandidate_spec hw).1
        refine .drop_worst hn (by omega) hw (ih (hn.sublist (List.filter_sublist.map _)) ?_)
        rw [filter_station_ne_eq_erase hn hmem, List.length_erase_of_mem hmem]
        omega

/-! ### The INSERT stations and their actions (R66, R80) -/

theorem stationAt_lt {i : Nat} {e : StationEntry} {s : State} (h : stationAt i s = some e) : i < 24 := by
  by_contra hi
  simp [stationAt, Vector.getElem?_eq_none (Nat.le_of_not_lt hi)] at h

theorem mem_stationsWhere {test : StationEntry → Bool} {s : State} {x : Nat × StationEntry} :
    x ∈ stationsWhere test s ↔ stationAt x.1 s = some x.2 ∧ test x.2 = true := by
  obtain ⟨i, e⟩ := x
  simp only [stationsWhere, List.mem_filterMap, List.mem_range]
  constructor
  · rintro ⟨j, -, hj⟩
    grind
  · rintro ⟨he, ht⟩
    exact ⟨i, stationAt_lt he, by simp [he, ht]⟩

theorem stationsWhere_pairwise (test : StationEntry → Bool) (s : State) :
    (stationsWhere test s).Pairwise (fun x y => x.1 ≠ y.1) := by
  rw [stationsWhere, List.pairwise_filterMap]
  refine List.nodup_range.imp fun hne x hx y hy => ?_
  grind

theorem mem_insertActions {r : JobRecord} {s : State} {a : Nat × StationEntry × EffectiveAction} :
    a ∈ insertActions r s ↔
      stationAt a.1 s = some a.2.1 ∧ a.2.1.kind = .insert ∧ a.2.2 = actionFor r a.1 a.2.1 := by
  obtain ⟨i, e, x⟩ := a
  simp only [insertActions, List.mem_map, Prod.exists, mem_stationsWhere, Prod.mk.injEq, beq_iff_eq]
  constructor
  · rintro ⟨j, f, ⟨hf, hk⟩, rfl, rfl, rfl⟩
    exact ⟨hf, hk, rfl⟩
  · rintro ⟨he, hk, rfl⟩
    exact ⟨i, e, ⟨he, hk⟩, rfl, rfl, rfl⟩

theorem insertActions_pairwise (r : JobRecord) (s : State) :
    (insertActions r s).Pairwise (fun a b => a.1 ≠ b.1) := by
  rw [insertActions, List.pairwise_map]
  exact stationsWhere_pairwise _ s

/-- The entry and action of an INSERT station are found by its index. -/
theorem find?_insertActions {r : JobRecord} {s : State} {i : Nat} {e : StationEntry} (he : stationAt i s = some e)
    (hk : e.kind = .insert) :
    (insertActions r s).find? (fun a => a.1 == i) = some (i, e, actionFor r i e) := by
  cases hfind : (insertActions r s).find? (fun a => a.1 == i) with
  | none =>
    have hmem : (i, e, actionFor r i e) ∈ insertActions r s := mem_insertActions.mpr ⟨he, hk, rfl⟩
    simpa using List.find?_eq_none.mp hfind _ hmem
  | some a =>
    obtain ⟨j, f, x⟩ := a
    obtain ⟨hj, -, hx⟩ := mem_insertActions.mp (List.mem_of_find?_eq_some hfind)
    obtain rfl : j = i := by simpa using List.find?_some hfind
    simp_all

theorem actionFor_of_mandatory {r : JobRecord} {i : Nat} (h : r.selectionFor i = some .mandatory) (e : StationEntry) :
    actionFor r i e = if e.effectiveMode = .skip ∨ e.effectiveMode = .off then .noFeed else .mandatory := by
  unfold actionFor effectiveAction
  cases e.effectiveMode <;> simp [h]

theorem any_withheldMandatory_iff (r : JobRecord) (s : State) :
    (insertActions r s).any (withheldMandatory r) = true ↔ MandatoryWithheld r s := by
  simp only [List.any_eq_true, withheldMandatory, Bool.and_eq_true, beq_iff_eq]
  constructor
  · rintro ⟨⟨i, e, x⟩, hmem, hsel, rfl⟩
    obtain ⟨he, hk, hx⟩ := mem_insertActions.mp hmem
    refine ⟨i, stationAt_lt he, e, he, hk, hsel, by_contra fun hmode => ?_⟩
    rw [actionFor_of_mandatory hsel, if_neg hmode] at hx
    cases hx
  · rintro ⟨i, -, e, he, hk, hsel, hmode⟩
    refine ⟨(i, e, actionFor r i e), mem_insertActions.mpr ⟨he, hk, rfl⟩, hsel, ?_⟩
    rw [actionFor_of_mandatory hsel, if_pos hmode]

/-- A sum over the INSERT stations of the table is the sum over the list of their actions. -/
theorem caliperSum_eq_sum_insertActions (r : JobRecord) (test : Nat → StationEntry → Bool) (s : State) :
    caliperSum test s = ((insertActions r s).map fun a => if test a.1 a.2.1 = true then a.2.1.caliper else 0).sum := by
  unfold caliperSum insertActions stationsWhere
  induction List.range 24 with
  | nil => rfl
  | cons i l ih =>
    rw [List.map_cons, List.sum_cons, ih, List.filterMap_cons]
    cases stationAt i s with
    | none => simp
    | some e => by_cases hk : e.kind = .insert <;> simp [hk]

theorem fillBase_eq_baseCaliper (c : Collation) (s : State) :
    fillBase s.caliper.allowance c.folded (insertActions c.job s) = baseCaliper c s := by
  have hsum : ((insertActions c.job s).map fun a => if a.2.2 = .mandatory then a.2.1.caliper else 0).sum =
      caliperSum (fun i e => actionFor c.job i e == .mandatory) s := by
    rw [caliperSum_eq_sum_insertActions c.job]
    refine congrArg List.sum (List.map_congr_left fun a ha => ?_)
    obtain ⟨-, -, hx⟩ := mem_insertActions.mp ha
    simp [hx]
  rw [fillBase, hsum]
  rfl

/-! ### The candidates of a record (R54) -/

/-- The candidates of a record's fill check. -/
def fillCandidates (r : JobRecord) (s : State) : List Candidate :=
  (insertActions r s).filterMap fun a => candidateOf a.1 a.2.1 a.2.2

theorem candidateOf_eq_some {i : Nat} {e : StationEntry} {x : EffectiveAction} {c : Candidate} :
    candidateOf i e x = some c ↔
      (∃ k, x = .optional k ∧ c = ⟨i, e.offset, e.caliper, k, .optional k⟩) ∨
      (x = .forced ∧ c = ⟨i, e.offset, e.caliper, 8, .forced⟩) := by
  cases x <;> simp [candidateOf, eq_comm]

theorem candidateOf_station {i : Nat} {e : StationEntry} {x : EffectiveAction} {c : Candidate}
    (h : candidateOf i e x = some c) : c.station = i := by
  obtain ⟨k, -, rfl⟩ | ⟨-, rfl⟩ := candidateOf_eq_some.mp h <;> rfl

theorem mem_fillCandidates {r : JobRecord} {s : State} {c : Candidate} :
    c ∈ fillCandidates r s ↔
      ∃ e, stationAt c.station s = some e ∧ e.kind = .insert ∧ candidateOf c.station e (actionFor r c.station e) = some c := by
  simp only [fillCandidates, List.mem_filterMap]
  constructor
  · rintro ⟨⟨i, e, x⟩, hmem, hc⟩
    obtain ⟨he, hk, hx⟩ := mem_insertActions.mp hmem
    obtain rfl := candidateOf_station hc
    exact ⟨e, he, hk, hx ▸ hc⟩
  · rintro ⟨e, he, hk, hc⟩
    exact ⟨(c.station, e, _), mem_insertActions.mpr ⟨he, hk, rfl⟩, hc⟩

/-- A candidate of the list is a candidate in the words of the statements. -/
theorem fillCandidate_of_mem {r : JobRecord} {s : State} {c : Candidate} (h : c ∈ fillCandidates r s) :
    ∃ e, FillCandidate r c.station e c.priority s ∧ c.offset = e.offset ∧ c.caliper = e.caliper := by
  obtain ⟨e, he, hk, hc⟩ := mem_fillCandidates.mp h
  obtain ⟨k, hx, hceq⟩ | ⟨hx, hceq⟩ := candidateOf_eq_some.mp hc
  · exact ⟨e, ⟨he, hk, .inl (by rw [hx, hceq])⟩, by rw [hceq], by rw [hceq]⟩
  · exact ⟨e, ⟨he, hk, .inr ⟨hx, by rw [hceq]⟩⟩, by rw [hceq], by rw [hceq]⟩

/-- A candidate in the words of the statements stands in the list, with the plan entry of its kind. -/
theorem FillCandidate.exists_mem {r : JobRecord} {s : State} {i k : Nat} {e : StationEntry} (h : FillCandidate r i e k s) :
    ∃ entry, ⟨i, e.offset, e.caliper, k, entry⟩ ∈ fillCandidates r s ∧
      (∀ m, actionFor r i e = .optional m → entry = .optional m) ∧ (actionFor r i e = .forced → entry = .forced) := by
  obtain ⟨he, hk, hx | ⟨hx, rfl⟩⟩ := h
  · exact ⟨.optional k, mem_fillCandidates.mpr ⟨e, he, hk, by simp [hx, candidateOf]⟩, by simp [hx], by simp [hx]⟩
  · exact ⟨.forced, mem_fillCandidates.mpr ⟨e, he, hk, by simp [hx, candidateOf]⟩, by simp [hx], by simp [hx]⟩

theorem FillCandidate.ne_mandatory {r : JobRecord} {s : State} {i k : Nat} {e : StationEntry}
    (h : FillCandidate r i e k s) : actionFor r i e ≠ .mandatory := by
  obtain ⟨-, -, hx | ⟨hx, -⟩⟩ := h <;> simp [hx]

theorem fillCandidates_stations_nodup (r : JobRecord) (s : State) : ((fillCandidates r s).map (·.station)).Nodup := by
  rw [List.Nodup, List.pairwise_map, fillCandidates, List.pairwise_filterMap]
  refine (insertActions_pairwise r s).imp fun hne c hc d hd => ?_
  rwa [candidateOf_station hc, candidateOf_station hd]

/-- The calipers of the candidates at stations that a test picks, as a sum over the station table. -/
theorem sum_fillCandidates_eq_caliperSum (r : JobRecord) (test : Nat → Bool) (s : State) :
    (((fillCandidates r s).filter (fun c => test c.station)).map (·.caliper)).sum =
      caliperSum (fun i e => (actionFor r i e != .mandatory && actionFor r i e != .noFeed) && test i) s := by
  have hactions : caliperSum (fun i e => (actionFor r i e != .mandatory && actionFor r i e != .noFeed) && test i) s =
      ((insertActions r s).map fun a =>
        if ((a.2.2 != .mandatory && a.2.2 != .noFeed) && test a.1) = true then a.2.1.caliper else 0).sum := by
    rw [caliperSum_eq_sum_insertActions r]
    refine congrArg List.sum (List.map_congr_left fun a ha => ?_)
    rw [(mem_insertActions.mp ha).2.2]
  rw [hactions, fillCandidates]
  induction insertActions r s with
  | nil => rfl
  | cons a l ih =>
    obtain ⟨i, e, x⟩ := a
    rw [List.map_cons, List.sum_cons, ← ih, List.filterMap_cons]
    cases x with
    | noFeed => simp [candidateOf]
    | mandatory => simp [candidateOf]
    | optional k => cases h : test i <;> simp [candidateOf, h]
    | forced => cases h : test i <;> simp [candidateOf, h]

/-! ### The plan of a piece (R55) -/

/-- A plan written from the actions of the INSERT stations gives each of them its own entry. -/
theorem Piece.planFor_insertActions {p : Piece} {r : JobRecord} {s : State}
    {entry : Nat × StationEntry × EffectiveAction → PlanEntry} {i : Nat} {e : StationEntry}
    (hp : p.plan = (insertActions r s).map fun a => (a.1, entry a)) (he : stationAt i s = some e) (hk : e.kind = .insert) :
    p.planFor i = entry (i, e, actionFor r i e) := by
  have hfind : p.plan.find? (fun x => x.1 == i) = some (i, entry (i, e, actionFor r i e)) := by
    rw [hp, List.find?_map]
    exact congrArg _ (find?_insertActions he hk)
  rw [Piece.planFor, hfind]

theorem Piece.planFor_emptyPlan {p : Piece} {actions : List (Nat × StationEntry × EffectiveAction)}
    (hp : p.plan = emptyPlan actions) (i : Nat) : p.planFor i = .none := by
  unfold Piece.planFor
  split
  · next x hx =>
    have hmem : x ∈ emptyPlan actions := hp ▸ List.mem_of_find?_eq_some hx
    obtain ⟨a, -, rfl⟩ := List.mem_map.mp hmem
    rfl
  · rfl

theorem planEntryOf_eq_find? (kept : List Candidate) (i : Nat) {x : EffectiveAction} (hx : x ≠ .mandatory) :
    planEntryOf kept i x = ((kept.find? (fun c => c.station == i)).map (·.entry)).getD .none := by
  unfold planEntryOf
  split
  · contradiction
  · cases kept.find? (fun c => c.station == i) <;> rfl

theorem planEntryOf_of_not_kept {kept : List Candidate} {i : Nat} {x : EffectiveAction} (hx : x ≠ .mandatory)
    (h : ∀ c ∈ kept, c.station ≠ i) : planEntryOf kept i x = .none := by
  have hfind : kept.find? (fun c => c.station == i) = none := List.find?_eq_none.mpr (by simpa using h)
  rw [planEntryOf_eq_find? _ _ hx, hfind]; rfl

theorem planEntryOf_of_kept {kept : List Candidate} {c : Candidate} {x : EffectiveAction} (hx : x ≠ .mandatory)
    (hn : (kept.map (·.station)).Nodup) (hc : c ∈ kept) : planEntryOf kept c.station x = c.entry := by
  have hfind : kept.find? (fun d => d.station == c.station) = some c := by
    cases hd : kept.find? (fun d => d.station == c.station) with
    | none => simpa using List.find?_eq_none.mp hd c hc
    | some d =>
      have hsame : d.station = c.station := by simpa using List.find?_some hd
      rw [List.inj_on_of_nodup_map hn (List.mem_of_find?_eq_some hd) hc hsame]
  rw [planEntryOf_eq_find? _ _ hx, hfind]; rfl

/-! ### The fill check of an unmarked piece (R53 to R55) -/

/-- What the Caliper Unit writes for an unmarked piece. -/
def unmarkedFill (c : Collation) (s : State) : FillResult :=
  fillCheck s.caliper.allowance s.caliper.limit c.folded false (insertActions c.job s)

/-- What the drop loop keeps and drops for a record, with the base of its collation. -/
def fillDrops (c : Collation) (s : State) : List Candidate × List Nat :=
  dropCandidates s.caliper.limit (baseCaliper c s) (fillCandidates c.job s).length (fillCandidates c.job s) []

theorem fillDrops_dropsToFit {c : Collation} {s : State} (h : baseCaliper c s ≤ s.caliper.limit) :
    DropsToFit s.caliper.limit (baseCaliper c s) (fillCandidates c.job s) (fillDrops c s).1 (fillDrops c s).2 :=
  dropCandidates_dropsToFit h (fillCandidates_stations_nodup c.job s) le_rfl

theorem unmarkedFill_of_limit_lt {c : Collation} {s : State} (h : s.caliper.limit < baseCaliper c s) :
    unmarkedFill c s =
      { plan := emptyPlan (insertActions c.job s), dropped := [], caliper := baseCaliper c s, overstuff := true } := by
  simp [unmarkedFill, fillCheck, fillBase_eq_baseCaliper, h]

theorem unmarkedFill_of_le_limit {c : Collation} {s : State} (h : baseCaliper c s ≤ s.caliper.limit) :
    unmarkedFill c s =
      { plan := (insertActions c.job s).map fun a => (a.1, planEntryOf (fillDrops c s).1 a.1 a.2.2)
        dropped := (fillDrops c s).2
        caliper := baseCaliper c s + ((fillDrops c s).1.map (·.caliper)).sum
        overstuff := false } := by
  simp [unmarkedFill, fillCheck, fillBase_eq_baseCaliper, Nat.not_lt.mpr h, fillDrops, fillCandidates]

/-- A piece without collation faults or a withheld mandatory insert takes its marks, plan and caliper from the fill check. -/
theorem buildPiece_unmarked {c : Collation} {s : State} (hf : c.faults = []) (hw : ¬MandatoryWithheld c.job s) :
    (buildPiece c s).diverted = (unmarkedFill c s).overstuff ∧
    (buildPiece c s).faults = (if (unmarkedFill c s).overstuff then [.overstuff] else []) ∧
    (buildPiece c s).caliper = (unmarkedFill c s).caliper ∧
    (buildPiece c s).plan = (unmarkedFill c s).plan ∧
    (buildPiece c s).dropped = (unmarkedFill c s).dropped := by
  have held : (insertActions c.job s).any (withheldMandatory c.job) = false := by
    rw [← Bool.not_eq_true, any_withheldMandatory_iff]; exact hw
  have hfill : fillCheck s.caliper.allowance s.caliper.limit c.folded false (insertActions c.job s) = unmarkedFill c s := rfl
  cases hover : (unmarkedFill c s).overstuff <;> simp [buildPiece, held, hf, hfill, hover, addOnce]

theorem actionFor_eq_mandatory {r : JobRecord} {s : State} {i : Nat} {e : StationEntry} (hw : ¬MandatoryWithheld r s)
    (he : stationAt i s = some e) (hk : e.kind = .insert) (hsel : r.selectionFor i = some .mandatory) :
    actionFor r i e = .mandatory := by
  rw [actionFor_of_mandatory hsel, if_neg fun hmode => hw ⟨i, stationAt_lt he, e, he, hk, hsel, hmode⟩]

section
variable {c : Collation} {s : State}

theorem mem_kept_iff (h : baseCaliper c s ≤ s.caliper.limit) {x : Candidate} :
    x ∈ (fillDrops c s).1 ↔ x ∈ fillCandidates c.job s ∧ x.station ∉ (fillDrops c s).2 := by
  rw [(fillDrops_dropsToFit h).kept_eq]
  simp

theorem kept_stations_nodup (h : baseCaliper c s ≤ s.caliper.limit) : ((fillDrops c s).1.map (·.station)).Nodup := by
  rw [(fillDrops_dropsToFit h).kept_eq]
  exact (fillCandidates_stations_nodup c.job s).sublist (List.filter_sublist.map _)

/-- A dropped candidate is not planned. -/
theorem planEntryOf_dropped (h : baseCaliper c s ≤ s.caliper.limit) {i : Nat} {x : EffectiveAction} (hx : x ≠ .mandatory)
    (hi : i ∈ (fillDrops c s).2) : planEntryOf (fillDrops c s).1 i x = .none :=
  planEntryOf_of_not_kept hx fun _ hd hdi => ((mem_kept_iff h).mp hd).2 (hdi ▸ hi)

/-- A station that may not feed is no candidate, so it is not planned. -/
theorem planEntryOf_noFeed (h : baseCaliper c s ≤ s.caliper.limit) {i : Nat} {e : StationEntry}
    (he : stationAt i s = some e) (hx : actionFor c.job i e = .noFeed) :
    planEntryOf (fillDrops c s).1 i .noFeed = .none := by
  refine planEntryOf_of_not_kept (by simp) fun d hd hdi => ?_
  obtain ⟨f, hf, -, hdf⟩ := mem_fillCandidates.mp ((mem_kept_iff h).mp hd).1
  subst hdi
  obtain rfl : e = f := by simpa [he] using hf
  simp [hx, candidateOf] at hdf

/-- A candidate that is not dropped is planned with its kind. -/
theorem planEntryOf_candidate (h : baseCaliper c s ≤ s.caliper.limit) {i k : Nat} {e : StationEntry}
    (hc : FillCandidate c.job i e k s) (hi : i ∉ (fillDrops c s).2) :
    (∀ m, actionFor c.job i e = .optional m → planEntryOf (fillDrops c s).1 i (.optional m) = .optional m) ∧
    (actionFor c.job i e = .forced → planEntryOf (fillDrops c s).1 i .forced = .forced) := by
  obtain ⟨entry, hmem, hoptional, hforced⟩ := hc.exists_mem
  have hkept := (mem_kept_iff h).mpr ⟨hmem, hi⟩
  have planned : ∀ x ≠ .mandatory, planEntryOf (fillDrops c s).1 i x = entry :=
    fun x hx => planEntryOf_of_kept hx (kept_stations_nodup h) hkept
  exact ⟨fun m hm => (planned _ (by simp)).trans (hoptional m hm), fun hm => (planned _ (by simp)).trans (hforced hm)⟩

end

/-- Settles O37: above CMAX the fill check answers the empty plan; else `dropCandidates_dropsToFit` says what the drop loop
kept and dropped, and the plan, the live caliper and the dropped list are read from it. -/
theorem fillCheckFitsTheEnvelope : Obligations.FillCheckFitsTheEnvelope := by
  intro c s hf hw
  obtain ⟨hdiverted, hfaults, hcaliper, hplan, hdropped⟩ := buildPiece_unmarked hf hw
  refine ⟨fun hover => ?_, fun hfit => ?_⟩
  · rw [unmarkedFill_of_limit_lt hover] at hdiverted hfaults hcaliper hplan hdropped
    exact ⟨hfaults, hdiverted, Piece.planFor_emptyPlan hplan, hdropped, hcaliper⟩
  simp only [unmarkedFill_of_le_limit hfit, Bool.false_eq_true, if_false] at hdiverted hfaults hcaliper hplan hdropped
  have drops := fillDrops_dropsToFit hfit
  have planned : ∀ {i e}, stationAt i s = some e → e.kind = .insert →
      (buildPiece c s).planFor i = planEntryOf (fillDrops c s).1 i (actionFor c.job i e) :=
    fun he hk => Piece.planFor_insertActions (entry := fun a => planEntryOf (fillDrops c s).1 a.1 a.2.2) hplan he hk
  rw [hdropped, hcaliper]
  refine ⟨hfaults, hdiverted, drops.fits, ?_, ?_, ?_, ?_, ?_⟩
  · rw [← sum_fillCandidates_eq_caliperSum c.job (fun i => decide (i ∉ (fillDrops c s).2)) s, ← drops.kept_eq]
  · intro i e he hk
    rw [planned he hk]
    refine ⟨fun hsel => ?_, fun hx => ?_⟩
    · rw [actionFor_eq_mandatory hw he hk hsel]; rfl
    · rw [hx]; exact planEntryOf_noFeed hfit he hx
  · intro i e k hc
    rw [planned hc.1 hc.2.1]
    refine ⟨planEntryOf_dropped hfit hc.ne_mandatory, fun hi hx => ?_, fun hi hx => ?_⟩
    · rw [hx]; exact (planEntryOf_candidate hfit hc hi).1 k hx
    · rw [hx]; exact (planEntryOf_candidate hfit hc hi).2 hx
  · intro i hi
    obtain ⟨a, ha, rfl⟩ := drops.candidates i hi
    obtain ⟨e, hcand, hoffset, -⟩ := fillCandidate_of_mem ha
    refine ⟨e, a.priority, hcand, fun j f m hj hjkept => ?_⟩
    obtain ⟨entry, hmem, -⟩ := hj.exists_mem
    have hbefore := (Candidate.before_iff _ _).mp (drops.ordered a ha hi _ ((mem_kept_iff hfit).mpr ⟨hmem, hjkept⟩))
    dsimp only at hbefore
    omega
  · intro l i e hl he
    obtain ⟨a, ha, rfl⟩ := drops.candidates i (by simp [hl])
    obtain ⟨f, hcand, -, hcal⟩ := fillCandidate_of_mem ha
    obtain rfl : e = f := by simpa [he] using hcand.1
    rw [← hcal]
    exact drops.needed l _ hl a ha rfl

end Sys2Proof.Machine
end

section
/-! The reports of STATION_STATUS and SLOT_REPORT (04, R72, R74 to R76): what becomes of a report that reaches the part, the
station entry after each report, and the state after an occupancy fault. -/

namespace Sys2Proof.Machine

/-! ### A report that reaches the part (R161) -/

section
variable {h : Header} {kind : Byte} {payload : List Byte} {action : State → Option State} {s : State}

/-- A report that reaches the part is delivered. -/
theorem take_report (hr : Reached h s) :
    take (report h kind payload action) s =
      .next (deliver { header := h, kind := kind, payload := payload } action s) := by
  obtain ⟨⟨hhigh, -⟩, -⟩ := hr
  simp [take, whileHigh, report, hhigh]

theorem receivable_of_reached (hr : Reached h s) (hp : payload.length ≤ Config.payloadLimit) :
    (!receivable { header := h, kind := kind, payload := payload } s || h.src == 0) = false := by
  obtain ⟨⟨-, hlink⟩, hsrc, -⟩ := hr
  rw [beq_eq_false_iff_ne.mpr hsrc]
  simp [receivable, hlink, hp]

theorem take_report_of_none (hr : Reached h s) (hp : payload.length ≤ Config.payloadLimit) (ha : action s = none) :
    take (report h kind payload action) s =
      .next (forwardFrame { header := h, kind := kind, payload := payload } s) := by
  rw [take_report hr, deliver, receivable_of_reached hr hp]
  simp [ha]

theorem take_report_of_some (hr : Reached h s) (hp : payload.length ≤ Config.payloadLimit) {t : State}
    (ha : action s = some t) : take (report h kind payload action) s = .next (actedOn h kind payload t) := by
  rw [take_report hr, deliver, receivable_of_reached hr hp]
  obtain ⟨dst, src, mark⟩ := h
  obtain ⟨-, -, hdst⟩ := hr
  obtain rfl | rfl : dst = 0 ∨ dst = Config.broadcast := hdst
  · simp [ha, actedOn, markedTaken]
  · simp [ha, actedOn, Config.broadcast]

end

/-! ### STATION_STATUS (R72) -/

section
variable {h : Header} {i : Nat} {e : StationEntry} {value : Byte} {s : State}

theorem exec_stationStatus_of_foreign (hr : Reached h s) (hs : stationOfNode h.src.toNat s = none) :
    exec (.stationStatus h value) s = .next (forwardFrame { header := h, kind := 28, payload := [value] } s) :=
  take_report_of_none hr (by simp [Config.payloadLimit]) (by simp [statusAction, hs])

theorem exec_stationStatus_of_station (hr : Reached h s) (hs : stationOfNode h.src.toNat s = some (i, e)) :
    exec (.stationStatus h value) s = .next (actedOn h 28 [value] (statusReport i e value s)) :=
  take_report_of_some hr (by simp [Config.payloadLimit]) (by simp [statusAction, hs])

theorem reportedStatusOf_of_other : ∀ {n : Nat}, n = 0 ∨ 4 < n → reportedStatusOf n = none
  | 0, _ => rfl
  | 1, hn | 2, hn | 3, hn | 4, hn => by omega
  | _ + 5, _ => rfl

theorem statusReport_of_none (hv : reportedStatusOf value.toNat = none) : statusReport i e value s = s := by
  simp only [statusReport, hv]

theorem statusReport_of_ready (hv : reportedStatusOf value.toNat = some .ready) :
    statusReport i e value s = putStation i (some { e with status := .ready, late := 0 }) s := by
  simp only [statusReport, hv]

/-- A report of LOW, EMPTY or FAULT replaces the status, and raises STATION when it was another. -/
theorem statusReport_of_ne_ready {st : StationStatus} (hv : reportedStatusOf value.toNat = some st) (hst : st ≠ .ready) :
    statusReport i e value s =
      if e.status = st then putStation i (some { e with status := st }) s
      else raiseAlert (.stationStatus i st) (putStation i (some { e with status := st }) s) := by
  cases st with
  | ready => exact absurd rfl hst
  | low | empty | fault | unknown | absent => simp only [statusReport, hv]

theorem statusReport_of_same (he : stationAt i s = some e) (hv : reportedStatusOf value.toNat = some e.status)
    (hst : e.status ≠ .ready) : statusReport i e value s = s := by
  rw [statusReport_of_ne_ready hv hst, if_pos rfl, putStation_self i e s he]

/-! ### Late reports (R74) -/

theorem lateReport_of_lt (hn : min 15 (e.late + 1) < e.lateLimit) :
    lateReport i e s = putStation i (some { e with late := min 15 (e.late + 1) }) s :=
  if_neg (Nat.not_le.mpr hn)

theorem lateReport_of_le (hn : e.lateLimit ≤ min 15 (e.late + 1)) :
    lateReport i e s =
      if e.status = .fault then putStation i (some { e with late := min 15 (e.late + 1), status := .fault }) s
      else raiseAlert (.stationStatus i .fault)
        (putStation i (some { e with late := min 15 (e.late + 1), status := .fault }) s) :=
  if_pos hn

end

/-! ### SLOT_REPORT (R75) -/

section
variable {h : Header} {i n : Nat} {e : StationEntry} {pitch occupancy : Byte} {s : State}

theorem exec_slotReport_of_foreign (hr : Reached h s) (hs : stationFor .slotCheck h.src s = none) :
    exec (.slotReport h pitch occupancy) s =
      .next (forwardFrame { header := h, kind := 27, payload := [pitch, occupancy] } s) :=
  take_report_of_none hr (by simp [Config.payloadLimit]) (by simp [slotAction, hs])

theorem exec_slotReport_of_station (hr : Reached h s) (hs : stationFor .slotCheck h.src s = some (i, e)) :
    exec (.slotReport h pitch occupancy) s =
      .next (actedOn h 27 [pitch, occupancy] (slotReport i e pitch occupancy s)) :=
  take_report_of_some hr (by simp [Config.payloadLimit]) (by simp [slotAction, hs])

/-- The two occupancy values of R75 are all those but 0 and the ones above 2. -/
theorem occupancy_reserved_iff : occupancy = 0 ∨ 2 < occupancy.toNat ↔ ¬(occupancy = 1 ∨ occupancy = 2) := by
  bv_omega

theorem slotReport_of_discarded (hd : s.line.state = .idle ∨ occupancy = 0 ∨ 2 < occupancy.toNat) :
    slotReport i e pitch occupancy s = s := by
  refine if_pos ?_
  rw [occupancy_reserved_iff] at hd
  simpa [runOpen, ← not_or] using hd

/-- A report judged in an open run (R75): late under another pitch number, else held against the slot queue. -/
theorem slotReport_of_judged (hopen : s.line.state ≠ .idle) (hocc : occupancy = 1 ∨ occupancy = 2) :
    slotReport i e pitch occupancy s =
      if pitch.toNat ≠ s.track.pitch then lateReport i e s
      else if (occupancy == 1) = (pieceAt e.offset s).isSome then s
      else occupancyFault e.offset s := by
  refine if_neg ?_
  rcases hocc with rfl | rfl <;> simp [runOpen, hopen]

/-- The report says what the slot queue holds: PRESENT over a piece, or ABSENT over an empty slot. -/
theorem occupancy_eq_isSome
    (h : (occupancy = 1 ∧ pieceAt n s ≠ none) ∨ (occupancy = 2 ∧ pieceAt n s = none)) :
    (occupancy == 1) = (pieceAt n s).isSome := by
  rcases h with ⟨rfl, hp⟩ | ⟨rfl, hp⟩
  · exact (Option.isSome_iff_ne_none.mpr hp).symm
  · rw [hp]; rfl

theorem occupancy_ne_isSome
    (h : (occupancy = 1 ∧ pieceAt n s = none) ∨ (occupancy = 2 ∧ pieceAt n s ≠ none)) :
    (occupancy == 1) ≠ (pieceAt n s).isSome := by
  rcases h with ⟨rfl, hp⟩ | ⟨rfl, hp⟩
  · rw [hp]; decide
  · rw [Option.isSome_iff_ne_none.mpr hp]; decide

end

/-! ### Stop requests (R150) -/

/-- A stop request touches no alert but STATION (R157). -/
theorem requestStop_alert (r : StopReason) {c : AlertClass} (hc : c ≠ .station) (s : State) :
    alertOf c (requestStop r s) = alertOf c s := by
  unfold requestStop enterState
  split
  · exact evalPermit_alert hc _
  · rfl

/-- A stop request that is taken moves the run state and turns DRIVE_RUN and the feed permit off (R150, R157, R158). -/
theorem requestStop_line_of_taken {r : StopReason} {s : State} (h : r.takenIn s.line.state = true) :
    (requestStop r s).line.state = r.target ∧ (requestStop r s).line.reason = some r ∧
      (requestStop r s).line.drive = false ∧ (requestStop r s).line.permit = false := by
  rw [requestStop, if_pos h]
  obtain ⟨hstate, hreason, hdrive, hpermit⟩ := enterState_line r.target (some r) s
  have hne : r.target ≠ .running := by cases r <;> decide
  have hoff : r.target.drives = false := by cases r <;> rfl
  exact ⟨hstate, hreason, hdrive.trans hoff, hpermit.trans (permitConditions_of_ne_running (hstate.symm ▸ hne))⟩

theorem requestStop_of_not_taken {r : StopReason} {s : State} (h : r.takenIn s.line.state = false) :
    requestStop r s = s :=
  if_neg (Bool.eq_false_iff.mp h)

/-! ### The occupancy fault (R76) -/

/-- Raising an alert leaves Line Control alone. -/
theorem raiseAlert_line (d : AlertDetail) (s : State) : (raiseAlert d s).line = s.line := by
  unfold raiseAlert sendSupervisor sendPlain
  dsimp only
  repeat' split
  all_goals rfl

theorem pieceAt_eq_none_of_le {n : Nat} {s : State} (h : s.track.slots.length ≤ n) : pieceAt n s = none := by
  simp [pieceAt, List.getElem?_eq_none h]

/-- The update of a piece is read back in its slot, and nothing else of the slot queue changes. -/
theorem pieceAt_updatePiece (n m : Nat) (f : Piece → Piece) (s : State) :
    pieceAt m (updatePiece n f s) = if m = n then (pieceAt n s).map f else pieceAt m s := by
  unfold updatePiece
  cases hp : pieceAt n s with
  | none =>
    dsimp only
    split
    · subst_vars; exact hp
    · rfl
  | some p =>
    have hn : n < s.track.slots.length := by
      by_contra hle
      simp [pieceAt_eq_none_of_le (Nat.le_of_not_lt hle)] at hp
    exact pieceAt_putSlot n m (some (f p)) s hn

theorem updatePiece_line (n : Nat) (f : Piece → Piece) (s : State) : (updatePiece n f s).line = s.line := by
  unfold updatePiece
  split <;> rfl

/-- An occupancy fault up to the jam it asks for, before a piece is marked. -/
def occupancyStop (slot : Nat) (s : State) : State :=
  requestStop .occupancy (raiseAlert (.occupancy slot) (s.setTrack { s.track with jamSlot := some slot }))

theorem occupancyFault_eq (slot : Nat) (s : State) :
    occupancyFault slot s = updatePiece slot (fun p => { p with diverted := true }) (occupancyStop slot s) := rfl

/-- What the alert and the jam keep of the state in which the jam slot is written. -/
theorem occupancyStop_keeps (slot : Nat) (s : State) :
    KeepsAllBut stateParts (s.setTrack { s.track with jamSlot := some slot }) (occupancyStop slot s) :=
  requestStop_keeps (List.Subset.refl _) (raiseAlert_keeps (by decide) (.start _ _) _) _

/-- The divert mark touches nothing but the slot queue. -/
theorem occupancyFault_marks (slot : Nat) (s : State) :
    KeepsAllBut [.slots] (occupancyStop slot s) (occupancyFault slot s) :=
  updatePiece_keeps (List.Subset.refl _) (.start _ _) _ _

theorem occupancyFault_jamSlot (slot : Nat) (s : State) : (occupancyFault slot s).track.jamSlot = some slot :=
  (occupancyFault_marks slot s .jamSlot (by decide)).trans (occupancyStop_keeps slot s .jamSlot (by decide))

theorem occupancyFault_alert (slot : Nat) (s : State) :
    alertOf .jam (occupancyFault slot s) = alertOf .jam (raiseAlert (.occupancy slot) s) := by
  have halerts : (occupancyFault slot s).channel.alerts = (occupancyStop slot s).channel.alerts :=
    occupancyFault_marks slot s .alerts (by decide)
  calc alertOf .jam (occupancyFault slot s)
      = alertOf .jam (occupancyStop slot s) := by simp only [alertOf, halerts]
    _ = alertOf .jam (raiseAlert (.occupancy slot) (s.setTrack { s.track with jamSlot := some slot })) :=
        requestStop_alert .occupancy (by decide) _
    _ = alertOf .jam (raiseAlert (.occupancy slot) s) := alertOf_raiseAlert_of_eq (d := .occupancy slot) rfl

theorem occupancyFault_line_of_taken {slot : Nat} {s : State} (h : StopReason.occupancy.takenIn s.line.state = true) :
    (occupancyFault slot s).line.state = .jammed ∧ (occupancyFault slot s).line.reason = some .occupancy ∧
      (occupancyFault slot s).line.drive = false ∧ (occupancyFault slot s).line.permit = false := by
  rw [occupancyFault_eq, updatePiece_line]
  exact requestStop_line_of_taken (by rw [raiseAlert_line]; exact h)

theorem occupancyFault_line_of_not_taken {slot : Nat} {s : State}
    (h : StopReason.occupancy.takenIn s.line.state = false) : (occupancyFault slot s).line = s.line := by
  rw [occupancyFault_eq, updatePiece_line, occupancyStop, requestStop_of_not_taken (by rw [raiseAlert_line]; exact h),
    raiseAlert_line]
  rfl

theorem pieceAt_occupancyFault (slot n : Nat) (s : State) :
    pieceAt n (occupancyFault slot s) =
      if n = slot then (pieceAt slot s).map (fun p => { p with diverted := true }) else pieceAt n s := by
  have hslots : (occupancyStop slot s).track.slots = s.track.slots := occupancyStop_keeps slot s .slots (by decide)
  have hpiece : ∀ m, pieceAt m (occupancyStop slot s) = pieceAt m s := fun m => by simp only [pieceAt, hslots]
  rw [occupancyFault_eq, pieceAt_updatePiece, hpiece, hpiece]

/-! ### The reports move their entry and slot (R72, R74 to R76) -/

/-- Settles O40: each report that reaches the part is acted on as its entry says; a status report by its value, a late report
by the late limit, and a slot report by its pitch number and the slot queue, where a disagreement is the occupancy fault. -/
theorem stationReportsMoveTheirEntry : Obligations.StationReportsMoveTheirEntry := by
  refine ⟨fun h value s hr => ?_, fun i e s _ => ?_, fun h pitch occupancy s hr => ?_⟩
  · refine ⟨exec_stationStatus_of_foreign hr, fun i e hs => ?_⟩
    obtain ⟨-, he, -⟩ := stationOfNode_some hs
    dsimp only
    rw [exec_stationStatus_of_station hr hs]
    refine ⟨?_, fun st hv => ?_, fun hv => ?_⟩
    · rintro rfl
      rw [statusReport_of_ready rfl]
    · obtain ⟨hcode, hst⟩ : reportedStatusOf value.toNat = some st ∧ st ≠ .ready := by
        rcases hv with ⟨rfl, rfl⟩ | ⟨rfl, rfl⟩ | ⟨rfl, rfl⟩ <;> exact ⟨rfl, by decide⟩
      refine ⟨?_, fun hchange => ?_⟩
      · rintro rfl
        rw [statusReport_of_same he hcode hst]
      · rw [statusReport_of_ne_ready hcode hst, if_neg hchange]
    · rw [statusReport_of_none (reportedStatusOf_of_other (hv.imp_left (congrArg BitVec.toNat)))]
  · refine ⟨lateReport_of_lt, fun hn hf => ?_, fun hn hf => ?_⟩
    · rw [lateReport_of_le hn, if_pos hf, ← hf]
    · rw [lateReport_of_le hn, if_neg hf]
  · refine ⟨exec_slotReport_of_foreign hr, fun i e hs => ?_⟩
    dsimp only
    rw [exec_slotReport_of_station hr hs]
    refine ⟨fun hd => by rw [slotReport_of_discarded hd], fun hopen hocc => ?_⟩
    rw [slotReport_of_judged hopen hocc]
    refine ⟨fun hlate => by rw [if_pos hlate], fun hpitch => ?_⟩
    rw [if_neg (not_not.mpr hpitch)]
    refine ⟨fun hagree => by rw [if_pos (occupancy_eq_isSome hagree)], fun hfault => ?_⟩
    rw [if_neg (occupancy_ne_isSome hfault)]
    refine ⟨_, rfl, occupancyFault_jamSlot _ s, occupancyFault_alert _ s, fun hstate => ?_, fun hstate => ?_,
      fun p hp => ?_, fun n hn => ?_, occupancyFault_keeps (by decide) (.start _ s) _⟩
    · exact occupancyFault_line_of_taken (by rcases hstate with hst | hst | hst <;> rw [hst] <;> rfl)
    · exact occupancyFault_line_of_not_taken (by rcases hstate with hst | hst | hst <;> rw [hst] <;> rfl)
    · rw [pieceAt_occupancyFault, if_pos rfl, hp]; rfl
    · rw [pieceAt_occupancyFault]
      split
      · subst_vars
        simp [hn.resolve_left (not_not.mpr rfl)]
      · rfl

end Sys2Proof.Machine
end

section
/-! The report FEED_RESULT (05, R85, R86): the slot and the piece it stands for, and the piece after each result within its
window. -/

namespace Sys2Proof.Machine

/-! ### The piece that awaits a result (R63, R67) -/

section
variable {kinds : List WindowKind} {i n tag : Nat} {p : Piece} {w : Window} {s : State}

theorem lt_length_of_pieceAt (hp : pieceAt n s = some p) : n < s.track.slots.length := by
  by_contra hle
  simp [pieceAt_eq_none_of_le (Nat.le_of_not_lt hle)] at hp

/-- A tag names at most one piece, so the search finds the slot of the piece that awaits the result. -/
theorem slotOfWindow_of_awaits (ha : Awaits n i tag p w s) (hk : w.kind ∈ kinds) :
    slotOfWindow kinds i tag s = some n := by
  obtain ⟨hp, htag, hw, hunique⟩ := ha
  cases hfound : slotOfWindow kinds i tag s with
  | none => exact absurd hk (slotOfWindow_none.mp hfound n (lt_length_of_pieceAt hp) p hp htag w hw)
  | some m =>
    obtain ⟨hm, q, -, hq, hqtag, -⟩ := slotOfWindow_found hfound
    rw [hunique m hm q hq hqtag]

theorem updatePiece_of_some (hp : pieceAt n s = some p) (f : Piece → Piece) :
    updatePiece n f s = putSlot n (some (f p)) s := by
  simp only [updatePiece, hp]

theorem mem_feedWindows (k : FeedKind) : .feed k ∈ feedWindows := by
  cases k <;> decide

theorem takeFeed_of_window {k : FeedKind} (hw : p.windowFor i = some w) (hk : w.kind = .feed k) (cal : Nat)
    (r : FeedOutcome) : takeFeed i cal r p = (p.closeWindow i).feedResult i cal k r := by
  obtain ⟨station, closing, kind⟩ := w
  subst hk
  simp only [takeFeed, hw]

/-- A feed outcome for a piece that awaits one closes the window and acts by the kind of the command (R86). -/
theorem feedOutcomeAt_of_awaits {k : FeedKind} (ha : Awaits n i tag p w s) (hk : w.kind = .feed k) (cal : Nat)
    (r : FeedOutcome) :
    feedOutcomeAt i cal tag r s = putSlot n (some ((p.closeWindow i).feedResult i cal k r)) s := by
  have hslot : slotOfWindow feedWindows i tag s = some n := slotOfWindow_of_awaits ha (hk ▸ mem_feedWindows k)
  obtain ⟨hp, -, hw, -⟩ := ha
  simp only [feedOutcomeAt, hslot]
  rw [updatePiece_of_some hp, takeFeed_of_window hw hk]

end

/-! ### FEED_RESULT (R85, R86) -/

section
variable {h : Header} {i n : Nat} {e : StationEntry} {tag result : Byte} {p : Piece} {w : Window} {r : FeedOutcome}
  {s : State}

theorem exec_feedResult_of_foreign (hr : Reached h s) (hs : stationFor .insert h.src s = none) :
    exec (.feedResult h tag result) s =
      .next (forwardFrame { header := h, kind := 22, payload := [tag, result] } s) :=
  take_report_of_none hr (by simp [Config.payloadLimit]) (by simp [feedAction, hs])

theorem exec_feedResult_of_station (hr : Reached h s) (hs : stationFor .insert h.src s = some (i, e)) :
    exec (.feedResult h tag result) s = .next (actedOn h 22 [tag, result] (feedReport i e tag result s)) :=
  take_report_of_some hr (by simp [Config.payloadLimit]) (by simp [feedAction, hs])

/-- The result values that R170 leaves without a meaning. -/
theorem feedOutcomeOf_eq_none_iff : ∀ {c : Nat}, feedOutcomeOf c = none ↔ c = 0 ∨ 3 < c
  | 0 | 1 | 2 | 3 | _ + 4 => by simp [feedOutcomeOf]

theorem feedReport_of_discarded (hd : s.line.state = .idle ∨ result = 0 ∨ 3 < result.toNat) :
    feedReport i e tag result s = s := by
  rw [feedReport]
  cases hr : feedOutcomeOf result.toNat with
  | none => rfl
  | some r =>
    have hidle : s.line.state = .idle := hd.resolve_right fun hv => by
      simp [feedOutcomeOf_eq_none_iff.mpr (hv.imp_left (congrArg BitVec.toNat))] at hr
    simp [runOpen, hidle]

/-- A result judged in an open run (R85): acted on where a piece with the tag awaits it, and late elsewhere. -/
theorem feedReport_of_judged (hopen : s.line.state ≠ .idle) (hr : feedOutcomeOf result.toNat = some r) :
    feedReport i e tag result s =
      if (slotOfWindow feedWindows i tag.toNat s).isSome then feedOutcomeAt i e.caliper tag.toNat r s
      else lateReport i e s := by
  simp only [feedReport, hr]
  exact if_neg (by simp [runOpen, hopen])

theorem feedReport_of_nothingAwaits (hopen : s.line.state ≠ .idle) (hr : feedOutcomeOf result.toNat = some r)
    (hn : NothingAwaits feedWindows i tag.toNat s) : feedReport i e tag result s = lateReport i e s := by
  rw [feedReport_of_judged hopen hr, slotOfWindow_none.mpr hn]
  exact if_neg Bool.false_ne_true

theorem feedReport_of_awaits {k : FeedKind} (hopen : s.line.state ≠ .idle) (hr : feedOutcomeOf result.toNat = some r)
    (ha : Awaits n i tag.toNat p w s) (hk : w.kind = .feed k) :
    feedReport i e tag result s = putSlot n (some ((p.closeWindow i).feedResult i e.caliper k r)) s := by
  rw [feedReport_of_judged hopen hr, slotOfWindow_of_awaits ha (hk ▸ mem_feedWindows k), feedOutcomeAt_of_awaits ha hk]
  exact if_pos rfl

end

/-- Settles O41: a result from an INSERT entry is discarded, late, or acts on the piece that awaits it, there by its value
and by the kind of the command. -/
theorem feedResultsActByTheirKind : Obligations.FeedResultsActByTheirKind := by
  intro h tag result s hr
  refine ⟨exec_feedResult_of_foreign hr, fun i e hs => ?_⟩
  dsimp only
  rw [exec_feedResult_of_station hr hs]
  refine ⟨fun hd => by rw [feedReport_of_discarded hd], fun hopen hlow hhigh => ⟨fun hn => ?late, ?acts⟩⟩
  case late =>
    have hvalue : feedOutcomeOf result.toNat ≠ none := fun h0 => by
      have := feedOutcomeOf_eq_none_iff.mp h0
      omega
    obtain ⟨r, hcode⟩ := Option.ne_none_iff_exists'.mp hvalue
    rw [feedReport_of_nothingAwaits hopen hcode hn]
  case acts =>
    intro n p w k ha hk
    have acted : ∀ r, feedOutcomeOf result.toNat = some r → feedReport i e tag result s =
        putSlot n (some ((p.closeWindow i).feedResult i e.caliper k r)) s :=
      fun _ hcode => feedReport_of_awaits hopen hcode ha hk
    refine ⟨?fed, ?missMandatory, ?missOptional, ?double⟩
    case fed => rintro rfl; rw [acted .fed rfl]; rfl
    case missMandatory => rintro rfl rfl; rw [acted .miss rfl]; rfl
    case missOptional => rintro rfl rfl; rw [acted .miss rfl]; rfl
    case double => rintro rfl; rw [acted .double rfl]; rfl

end Sys2Proof.Machine
end

section
/-! The destination scheme (03, R97 to R100): when an entry matches a destination, the indexed scheme table that the
search folds over, and the best entry of it. -/

namespace Sys2Proof.Machine

/-! ### Matching one entry (R97) -/

theorem positionMatches_iff (pattern dest : Option Nat) :
    positionMatches pattern dest = true ↔ ∀ digit, pattern = some digit → dest = some digit := by
  cases pattern <;> simp [positionMatches]

/-- Where the lengths agree, no position of the pattern is left out of the comparison. -/
theorem SchemeEntry.matches_iff {e : SchemeEntry} {d : Destination} (hlen : e.pattern.length = d.positions.length) :
    e.matches d = true ↔
      ∀ k digit : Nat, e.pattern[k]? = some (some digit) → d.positions[k]? = some (some digit) := by
  simp only [SchemeEntry.matches, List.all_eq_true, positionMatches_iff]
  constructor
  · intro h k digit hk
    obtain ⟨hlt, hdigit⟩ := List.getElem?_eq_some_iff.mp hk
    have hmem : (e.pattern[k], d.positions[k]) ∈ e.pattern.zip d.positions :=
      List.mem_iff_getElem.mpr ⟨k, by simpa [← hlen] using hlt, List.getElem_zip⟩
    exact List.getElem?_eq_some_iff.mpr ⟨hlen ▸ hlt, h _ hmem digit hdigit⟩
  · intro h x hx digit hdigit
    obtain ⟨k, hk, rfl⟩ := List.mem_iff_getElem.mp hx
    simp only [List.length_zip, lt_inf_iff] at hk
    obtain ⟨hp, hd⟩ := hk
    rw [List.getElem_zip] at hdigit ⊢
    have := h k digit (List.getElem?_eq_some_iff.mpr ⟨hp, hdigit⟩)
    rwa [List.getElem?_eq_getElem hd, Option.some_inj] at this

/-! ### The indexed table -/

/-- The scheme table with each entry under its index, in increasing index: the list that `bestMatch` folds over. -/
def indexedScheme (s : State) : List (Nat × SchemeEntry) := s.sort.scheme.toList.zipIdx.map fun x => (x.2, x.1)

theorem bestMatch_eq_foldl (d : Destination) (s : State) :
    bestMatch d s = (indexedScheme s).foldl (betterMatch d) none := rfl

theorem mem_indexedScheme_iff {s : State} {x : Nat × SchemeEntry} :
    x ∈ indexedScheme s ↔ x.1 < 512 ∧ x.2 = schemeAt x.1 s := by
  obtain ⟨i, e⟩ := x
  simp only [indexedScheme, schemeAt, List.mem_map, List.mem_zipIdx_iff_getElem?, Prod.exists, Prod.mk.injEq,
    Vector.getElem?_toList]
  by_cases hi : i < 512
  · simp [hi, eq_comm]
  · simp [hi]

theorem indexedScheme_increasing (s : State) : (indexedScheme s).Pairwise fun x y => x.1 < y.1 := by
  rw [List.pairwise_iff_getElem]
  intro i j hi hj hij
  simpa [indexedScheme] using hij

/-! ### The best of a list of entries (R98) -/

/-- An entry the search may choose: enabled, and matching the destination. -/
def SchemeEntry.Eligible (d : Destination) (e : SchemeEntry) : Prop := e.enabled = true ∧ e.matches d = true

/-- R98's choice from a list of indexed entries: an eligible one that no eligible one goes before, or none where none is
eligible. -/
def BestOf (d : Destination) (l : List (Nat × SchemeEntry)) : Option (Nat × SchemeEntry) → Prop
  | none => ∀ x ∈ l, ¬x.2.Eligible d
  | some b => b ∈ l ∧ b.2.Eligible d ∧ ∀ x ∈ l, x.2.Eligible d →
      x.2.specificity < b.2.specificity ∨ (x.2.specificity = b.2.specificity ∧ b.1 ≤ x.1)

theorem betterMatch_of_not_eligible {d : Destination} {x : Nat × SchemeEntry} (hx : ¬x.2.Eligible d)
    (best : Option (Nat × SchemeEntry)) : betterMatch d best x = best :=
  if_neg (by simpa [SchemeEntry.Eligible] using hx)

theorem betterMatch_none_of_eligible {d : Destination} {x : Nat × SchemeEntry} (hx : x.2.Eligible d) :
    betterMatch d none x = some x :=
  if_pos (by simpa [SchemeEntry.Eligible] using hx)

theorem betterMatch_some_of_eligible {d : Destination} {x : Nat × SchemeEntry} (hx : x.2.Eligible d)
    (b : Nat × SchemeEntry) :
    betterMatch d (some b) x = if b.2.specificity < x.2.specificity then some x else some b :=
  if_pos (by simpa [SchemeEntry.Eligible] using hx)

/-- Taking in one more entry, at a higher index than all before it, keeps the best of the list. -/
theorem BestOf.concat {d : Destination} {l : List (Nat × SchemeEntry)} {best : Option (Nat × SchemeEntry)}
    {x : Nat × SchemeEntry} (hbest : BestOf d l best) (hlast : ∀ y ∈ l, y.1 < x.1) :
    BestOf d (l ++ [x]) (betterMatch d best x) := by
  by_cases hx : x.2.Eligible d
  case neg =>
    rw [betterMatch_of_not_eligible hx]
    cases best with
    | none => exact List.forall_mem_append.mpr ⟨hbest, List.forall_mem_singleton.mpr hx⟩
    | some b =>
      obtain ⟨hmem, helig, hfirst⟩ := hbest
      exact ⟨List.mem_append_left _ hmem, helig,
        List.forall_mem_append.mpr ⟨hfirst, List.forall_mem_singleton.mpr fun h => absurd h hx⟩⟩
  case pos =>
    have hmemx : x ∈ l ++ [x] := List.mem_append_right _ (List.mem_singleton_self x)
    cases best with
    | none =>
      rw [betterMatch_none_of_eligible hx]
      exact ⟨hmemx, hx, List.forall_mem_append.mpr
        ⟨fun y hy h => absurd h (hbest y hy), List.forall_mem_singleton.mpr fun _ => .inr ⟨rfl, le_rfl⟩⟩⟩
    | some b =>
      obtain ⟨hmem, helig, hfirst⟩ := hbest
      rw [betterMatch_some_of_eligible hx]
      split
      case isTrue hmore =>
        refine ⟨hmemx, hx, List.forall_mem_append.mpr
          ⟨fun y hy h => .inl ?_, List.forall_mem_singleton.mpr fun _ => .inr ⟨rfl, le_rfl⟩⟩⟩
        have := hfirst y hy h
        omega
      case isFalse hless =>
        refine ⟨List.mem_append_left _ hmem, helig, List.forall_mem_append.mpr
          ⟨hfirst, List.forall_mem_singleton.mpr fun _ => ?_⟩⟩
        have := hlast b hmem
        omega

theorem bestOf_foldl_betterMatch (d : Destination) {l : List (Nat × SchemeEntry)}
    (hl : l.Pairwise fun x y => x.1 < y.1) : BestOf d l (l.foldl (betterMatch d) none) := by
  induction l using List.reverseRecOn with
  | nil => simp [BestOf]
  | append_singleton l x ih =>
    obtain ⟨hinit, -, hlast⟩ := List.pairwise_append.mp hl
    rw [List.foldl_concat]
    exact (ih hinit).concat fun y hy => hlast y hy x (List.mem_singleton_self x)

theorem bestOf_bestMatch (d : Destination) (s : State) : BestOf d (indexedScheme s) (bestMatch d s) :=
  bestOf_foldl_betterMatch d (indexedScheme_increasing s)

/-! ### The scheme match (R98 to R100) -/

theorem schemeMatch_of_none {d : Destination} {s : State} (h : bestMatch d s = none) :
    schemeMatch d s = { entry := none, group := 0, key := d.positions.take 5, level := 0 } := by
  simp only [schemeMatch, h, bundleKey]

theorem schemeMatch_of_some {d : Destination} {s : State} {i : Nat} {e : SchemeEntry}
    (h : bestMatch d s = some (i, e)) :
    schemeMatch d s =
      { entry := some i, group := e.group, key := d.positions.take e.keyLength, level := e.level } := by
  simp only [schemeMatch, h, bundleKey]

/-- Settles O44: the search folds over the table in increasing index and keeps the best entry of the part it
has seen. -/
theorem schemeMatchIsTheMostSpecific : Obligations.SchemeMatchIsTheMostSpecific := by
  intro d s hd hpattern matching named
  have hmatching : ∀ i, matching i ↔ i < 512 ∧ (schemeAt i s).Eligible d := fun i =>
    and_congr_right' (and_congr_right' (SchemeEntry.matches_iff ((hpattern i).trans hd.symm)).symm)
  have hbest := bestOf_bestMatch d s
  cases hfound : bestMatch d s with
  | none =>
    rw [hfound] at hbest
    have hnone : ∀ i, ¬matching i := fun i hi => by
      obtain ⟨hlt, helig⟩ := (hmatching i).mp hi
      exact hbest (i, schemeAt i s) (mem_indexedScheme_iff.mpr ⟨hlt, rfl⟩) helig
    exact ⟨fun _ => schemeMatch_of_none hfound, fun ⟨i, hi⟩ => absurd hi (hnone i)⟩
  | some b =>
    obtain ⟨i, e⟩ := b
    rw [hfound] at hbest
    obtain ⟨hmem, helig, hfirst⟩ := hbest
    obtain ⟨hlt, rfl⟩ : i < 512 ∧ e = schemeAt i s := mem_indexedScheme_iff.mp hmem
    have hi : matching i := (hmatching i).mpr ⟨hlt, helig⟩
    refine ⟨fun hnone => absurd hi (hnone i), fun _ => ⟨i, hi, fun j hj => ?_, schemeMatch_of_some hfound⟩⟩
    obtain ⟨hjlt, hjelig⟩ := (hmatching j).mp hj
    exact hfirst (j, schemeAt j s) (mem_indexedScheme_iff.mpr ⟨hjlt, rfl⟩) hjelig

end Sys2Proof.Machine
end

section
/-! Write requests and bundle closes as steps (R116, R141): what each asks of the log, queues and leaves, in a form in which the
steps chain. -/

namespace Sys2Proof.Machine

/-! ### Alerts and stations over several steps -/

theorem AlertsKeptBut.of_alerts_eq {l : List AlertClass} {s t : State} (h : t.channel.alerts = s.channel.alerts) :
    AlertsKeptBut l s t := fun c _ => by simp only [alertOf, h]

theorem AlertsKeptBut.more {l m : List AlertClass} {s t : State} (hl : l ⊆ m) (h : AlertsKeptBut l s t) :
    AlertsKeptBut m s t := fun c hc => h c fun hm => hc (hl hm)

theorem AlertsKeptBut.trans {l : List AlertClass} {s t u : State} (h : AlertsKeptBut l s t) (k : AlertsKeptBut l t u) :
    AlertsKeptBut l s u := fun c hc => (k c hc).trans (h c hc)

theorem raiseAlert_alertsKept {l : List AlertClass} {d : AlertDetail} (hd : d.cls ∈ l) (s : State) :
    AlertsKeptBut l s (raiseAlert d s) := fun c hc => by
  rw [alertOf_raiseAlert, if_neg (ne_of_mem_of_not_mem hd hc).symm]

theorem evalPermit_alertsKept {l : List AlertClass} (hl : .station ∈ l) (s : State) : AlertsKeptBut l s (evalPermit s) :=
  fun _ hc => evalPermit_alert (ne_of_mem_of_not_mem hl hc).symm s

/-- A search of the station table finds the same places after a change that its test does not see. -/
theorem stationsWhere_of_map {test : StationEntry → Bool} {change : Nat → StationEntry → StationEntry} {s t : State}
    (htest : ∀ i e, test (change i e) = test e) (h : ∀ i, stationAt i t = (stationAt i s).map (change i)) :
    stationsWhere test t = (stationsWhere test s).map fun x => (x.1, change x.1 x.2) := by
  simp only [stationsWhere, List.map_filterMap]
  congr 1
  funext i
  rw [h]
  cases stationAt i s with
  | none => rfl
  | some e =>
    simp only [Option.map_some, htest]
    split <;> rfl

/-- Entry `k` set ABSENT, as a change of the whole table. -/
def absentAt (k i : Nat) (e : StationEntry) : StationEntry := if i = k then { e with status := .absent } else e

theorem absentAt_of_ne {k i : Nat} (h : i ≠ k) : absentAt k i = id := funext fun _ => if_neg h

theorem absentAt_dst (k i : Nat) (e : StationEntry) : (absentAt k i e).dst = e.dst := by
  unfold absentAt
  split <;> rfl

/-- The SHEET_FEEDER's node holds one entry, which is set ABSENT at most once over several steps. -/
theorem StationsKept.trans {p q r : Prop} {s t u : State} (h : StationsKept id p s t) (k : StationsKept id q t u)
    (hp : r → p) (hq : r → q) : StationsKept id r s u := by
  simp only [StationsKept, Option.map_id, id] at h k ⊢
  obtain ⟨ha, hst⟩ | ⟨hnp, j, feeder, m, e, hfeeder, hm, he, ha, hst⟩ := h
  · obtain ⟨ka, kst⟩ | ⟨hnq, j, feeder, m, e, hfeeder, hm, he, ka, kst⟩ := k
    · exact .inl ⟨ka.trans ha, fun i => (kst i).trans (hst i)⟩
    · refine .inr ⟨fun hr => hnq (hq hr), j, feeder, m, e, ?_, ?_, he, ?_, fun i => by rw [kst, hst]⟩
      · simpa only [stationOfKind, stationsWhere, hst] using hfeeder
      · simpa only [stationOfNode, stationsWhere, hst] using hm
      · exact ka.trans (alertOf_raiseAlert_of_eq (d := .stationStatus m .absent) ha)
  · obtain ⟨ka, kst⟩ | ⟨-, j', feeder', m', e', hfeeder', hm', he', -, -⟩ := k
    · exact .inr ⟨fun hr => hnp (hp hr), j, feeder, m, e, hfeeder, hm, he, ka.trans ha, fun i => (kst i).trans (hst i)⟩
    · refine absurd ?_ he'
      obtain ⟨-, hme, -⟩ := stationOfNode_some hm
      have hmap : ∀ i, stationAt i t = (stationAt i s).map (absentAt m i) := fun i => by
        rw [hst]
        by_cases hi : i = m
        · subst hi; simp [hme, absentAt]
        · simp [hi, absentAt_of_ne]
      rw [stationOfKind, stationsWhere_of_map (fun i e => by unfold absentAt; split <;> rfl) hmap, List.head?_map,
        ← stationOfKind, hfeeder] at hfeeder'
      obtain ⟨rfl, rfl⟩ : j = j' ∧ absentAt m j feeder = feeder' := by simpa using hfeeder'
      rw [absentAt_dst, stationOfNode, stationsWhere_of_map (fun i e => by unfold absentAt; split <;> rfl) hmap,
        List.head?_map, ← stationOfNode, hm] at hm'
      obtain ⟨-, rfl⟩ : m = m' ∧ absentAt m m e = e' := by simpa using hm'
      simp [absentAt]

/-! ### The growth of the own-frame queue (R163) -/

/-- The own-frame queue takes in at most `n` frames, and none when it is full. -/
structure OwnGrows (n : Nat) (s t : State) : Prop where
  length_le : t.ring.own.length ≤ s.ring.own.length + n
  full : 32 ≤ s.ring.own.length → t.ring.own = s.ring.own

theorem OwnGrows.of_eq {n : Nat} {s t : State} (h : t.ring.own = s.ring.own) : OwnGrows n s t :=
  ⟨by rw [h]; omega, fun _ => h⟩

theorem OwnGrows.trans {m n : Nat} {s t u : State} (h : OwnGrows m s t) (k : OwnGrows n t u) : OwnGrows (m + n) s u := by
  obtain ⟨hlen, hfull⟩ := h
  obtain ⟨klen, kfull⟩ := k
  exact ⟨by omega, fun hs => (kfull ((hfull hs).symm ▸ hs)).trans (hfull hs)⟩

/-- Only the queue at the start matters. -/
theorem OwnGrows.of_start {n : Nat} {r s t : State} (h : OwnGrows n s t) (hr : s.ring.own = r.ring.own) :
    OwnGrows n r t := by
  obtain ⟨hlen, hfull⟩ := h
  rw [hr] at hlen hfull
  exact ⟨hlen, hfull⟩

theorem raiseAlert_grows (d : AlertDetail) (s : State) : OwnGrows 1 s (raiseAlert d s) := by
  unfold raiseAlert
  dsimp only
  split
  · exact .of_eq rfl
  · constructor
    · rw [sendSupervisor_own]
      split
      · simp [setAlert]
      · exact Nat.le_succ _
    · intro hfull
      rw [sendSupervisor_own, if_neg fun h => absurd h.2.2 (Nat.not_lt.mpr hfull)]
      rfl

theorem nodeAbsent_own_of_full {dst : Node} {s : State} (hfull : 32 ≤ s.ring.own.length) :
    (nodeAbsent dst s).ring.own = s.ring.own := by
  unfold nodeAbsent markAbsent
  split
  · dsimp only
    split
    · rfl
    · exact (raiseAlert_grows _ _).full hfull
  · rfl

theorem sendStation_grows (dst : Node) (body : OwnBody) (s : State) : OwnGrows 1 s (sendStation dst body s) := by
  unfold sendStation
  by_cases hfull : 32 ≤ s.ring.own.length
  · rw [if_pos (by simpa [ownFull, Config.ownCapacity] using hfull)]
    exact .of_eq (nodeAbsent_own_of_full hfull)
  · rw [if_neg (by simpa [ownFull, Config.ownCapacity] using hfull)]
    exact ⟨by simp [pushOwn], fun h => absurd h hfull⟩

theorem evalPermit_grows (s : State) : OwnGrows 1 s (evalPermit s) := by
  unfold evalPermit
  split
  · exact .of_eq rfl
  · dsimp only
    split
    · exact (sendStation_grows _ _ _).of_start rfl
    · exact .of_eq rfl

/-! ### A last FEED_PERMIT (R141, R157) -/

/-- Outside RUNNING the feed permit can change at most once more, at the next write of a record: the own-frame queue has room for
that FEED_PERMIT behind `k` other frames and the NOTICE of a first lost record. -/
def PermitHasRoom (k : Nat) (s : State) : Prop :=
  s.line.permit = true → s.ring.own.length + k + (if s.log.lost = 0 then 2 else 1) ≤ 32

theorem evalPermit_hasRoom {s : State} (h : s.line.state ≠ .running) (k : Nat) : PermitHasRoom k (evalPermit s) := by
  intro hp
  rw [evalPermit_permit, permitConditions_evalPermit, permitConditions_of_ne_running h] at hp
  exact absurd hp Bool.false_ne_true

/-- The permit touches the stations only where it changes and its frame is dropped. -/
theorem evalPermit_stationsKept {room : Prop} {s : State}
    (hr : room → s.ring.own.length < 32 ∨ (s.line.state ≠ .running ∧ s.line.permit = false)) :
    StationsKept id room s (evalPermit s) := by
  by_cases h : s.line.state ≠ .running ∧ s.line.permit = false
  · obtain ⟨hstate, hpermit⟩ := h
    have hsame : evalPermit s = s := if_pos ((permitConditions_of_ne_running hstate).trans hpermit.symm)
    rw [hsame]
    exact .of_eq rfl rfl
  · exact evalPermit_stations fun hroom => (hr hroom).resolve_right h

theorem PermitHasRoom.lt_or {s : State} (h : PermitHasRoom 0 s) : s.ring.own.length < 32 ∨ s.line.permit = false := by
  cases hp : s.line.permit with
  | false => exact .inr rfl
  | true =>
    have := h hp
    split at this <;> omega

/-! ### Write requests as steps (R141) -/

/-- Where a step has room not to touch the stations: for its own frames, or, outside RUNNING, for the last FEED_PERMIT. -/
def FeedsFreely (n : Nat) (s : State) : Prop :=
  s.ring.own.length + n ≤ 32 ∨ (s.line.state ≠ .running ∧ PermitHasRoom 0 s)

theorem FeedsFreely.lt_or {s : State} (h : FeedsFreely 1 s) :
    s.ring.own.length < 32 ∨ (s.line.state ≠ .running ∧ s.line.permit = false) := by
  obtain hlen | ⟨hstate, hroom⟩ := h
  · exact .inl hlen
  · exact hroom.lt_or.imp_right fun hpermit => ⟨hstate, hpermit⟩

/-- What steps that ask the log for the records `l` do besides: at most `n` frames are queued, FEED_PERMIT and NOTICE only, and
apart from the log, its alert and the permit only the bins and the counters change. -/
structure Wrote (l : List LogBody) (n : Nat) (s t : State) : Prop where
  keeps : KeepsAllBut (closeParts ++ [.counters]) s t
  took : LogTookAll l s t
  queues : Queues [19, 9] s t
  grows : OwnGrows n s t
  hasRoom : s.line.state ≠ .running → ∀ k, PermitHasRoom k s → PermitHasRoom k t
  stations : StationsKept id (FeedsFreely n s) s t
  alerts : AlertsKeptBut [.reserve, .station] s t

section
variable {l m : List LogBody} {n k : Nat} {s t u : State}

theorem Wrote.state_eq (h : Wrote l n s t) : t.line.state = s.line.state := h.keeps.state_eq (by decide)

theorem Wrote.trans (h : Wrote l n s t) (h' : Wrote m k t u) : Wrote (l ++ m) (n + k) s u where
  keeps := h.keeps.trans h'.keeps
  took := h.took.append h'.took
  queues := h.queues.trans h'.queues
  grows := h.grows.trans h'.grows
  hasRoom hs i hi := h'.hasRoom (h.state_eq ▸ hs) i (h.hasRoom hs i hi)
  stations := by
    refine h.stations.trans h'.stations (fun hr => ?_) (fun hr => ?_)
    · exact hr.imp_left fun hlen => by omega
    · refine hr.imp (fun hlen => ?_) fun ⟨hs, hroom⟩ => ⟨h.state_eq ▸ hs, h.hasRoom hs 0 hroom⟩
      have := h.grows.length_le
      omega
  alerts := h.alerts.trans h'.alerts

theorem Wrote.more (hn : n ≤ k) (h : Wrote l n s t) : Wrote l k s t :=
  { h with
    grows := ⟨h.grows.length_le.trans (Nat.add_le_add_left hn _), h.grows.full⟩
    stations := h.stations.trans (q := True) (.of_eq rfl rfl) (fun hr => hr.imp_left fun _ => by omega) fun _ => trivial }

/-- A step that touches the bins and the counters alone asks for nothing. -/
theorem Wrote.of_keeps (h : KeepsAllBut [.bins, .counters] s t) : Wrote [] 0 s t := by
  have hlog : t.log = s.log := h.log_eq (by decide) (by decide) (by decide) (by decide)
  have hown : t.ring.own = s.ring.own := h .own (by decide)
  have hpermit : t.line.permit = s.line.permit := h .permit (by decide)
  have halerts : t.channel.alerts = s.channel.alerts := h .alerts (by decide)
  have hcls : ∀ c, alertOf c t = alertOf c s := fun c => by simp only [alertOf, halerts]
  exact
    { keeps := h.more (by decide)
      took := ⟨hlog, hcls _⟩
      queues := .of_eq hown
      grows := .of_eq hown
      hasRoom := fun _ _ => by simp only [PermitHasRoom, hlog, hown, hpermit, imp_self]
      stations := .of_eq (hcls _) (h .stations (by decide))
      alerts := .of_alerts_eq halerts }

/-- A change of the log after which the permit is evaluated (R144). -/
theorem evalPermit_wrote (h : KeepsAllBut [.logRecords, .logSerial, .logLost] s t) (took : LogTookAll l s (evalPermit t)) :
    Wrote l 1 s (evalPermit t) := by
  have hstate : t.line.state = s.line.state := h.state_eq (by decide)
  have hown : t.ring.own = s.ring.own := h .own (by decide)
  have halerts : t.channel.alerts = s.channel.alerts := h .alerts (by decide)
  have hpermit : t.line.permit = s.line.permit := h .permit (by decide)
  have hbefore : StationsKept id True s t := .of_eq (by simp only [alertOf, halerts]) (h .stations (by decide))
  exact
    { keeps := evalPermit_keeps (by decide) (h.more (by decide))
      took := took
      queues := (Queues.of_eq hown).trans (evalPermit_queues t)
      grows := (evalPermit_grows t).of_start hown
      hasRoom := fun hs k _ => evalPermit_hasRoom (hstate ▸ hs) k
      stations := hbefore.trans (q := FeedsFreely 1 s)
        (evalPermit_stationsKept fun hr => hown ▸ hstate ▸ hpermit ▸ hr.lt_or) (fun _ => trivial) id
      alerts := (AlertsKeptBut.of_alerts_eq halerts).trans (evalPermit_alertsKept (by decide) t) }

/-- A first loss: only the NOTICE of the log's alert is queued. -/
theorem firstLoss_wrote (hlost : s.log.lost = 0) (took : LogTookAll l s (raiseAlert .logOverflow (setLost 1 s))) :
    Wrote l 1 s (raiseAlert .logOverflow (setLost 1 s)) where
  keeps := raiseAlert_keeps (by decide) (setLost_keeps (by decide) (.start _ s) 1) _
  took := took
  queues := (Queues.of_eq rfl).trans ((raiseAlert_queues .logOverflow (setLost 1 s)).mono (by decide))
  grows := (raiseAlert_grows .logOverflow (setLost 1 s)).of_start rfl
  hasRoom _ k hroom hp := by
    have hk := raiseAlert_keeps (List.Subset.refl _) (KeepsAllBut.start _ (setLost 1 s)) .logOverflow
    have hpermit : (raiseAlert .logOverflow (setLost 1 s)).line.permit = s.line.permit := hk .permit (by decide)
    have hone : (raiseAlert .logOverflow (setLost 1 s)).log.lost = 1 := hk .logLost (by decide)
    have hlen : (raiseAlert .logOverflow (setLost 1 s)).ring.own.length ≤ s.ring.own.length + 1 :=
      (raiseAlert_grows .logOverflow (setLost 1 s)).length_le
    have hbefore := hroom (hpermit ▸ hp)
    rw [if_pos hlost] at hbefore
    rw [hone, if_neg Nat.one_ne_zero]
    omega
  stations := .of_eq (raiseAlert_alertsKept (l := [.reserve]) (by decide) _ _ (by decide))
    (raiseAlert_keeps (by decide) (.start [.own, .alerts] _) _ .stations (by decide))
  alerts := raiseAlert_alertsKept (d := .logOverflow) (by decide) (setLost 1 s)

/-- A further loss sends nothing. -/
theorem furtherLoss_wrote {c : Nat} (hlost : s.log.lost ≠ 0) (hc : c ≠ 0) (took : LogTookAll l s (setLost c s)) :
    Wrote l 1 s (setLost c s) where
  keeps := setLost_keeps (by decide) (.start _ s) c
  took := took
  queues := .of_eq rfl
  grows := .of_eq rfl
  hasRoom _ k hroom hp := by simpa [setLost, hlost, hc] using hroom hp
  stations := .of_eq rfl rfl
  alerts := .of_alerts_eq rfl

/-- A write request queues at most one frame: FEED_PERMIT after a record that fits, or the NOTICE of a first loss. -/
theorem writeLog_wrote (b : LogBody) (s : State) : Wrote [b] 1 s (writeLog b s) := by
  have took := LogTookAll.one.mpr (writeLog_took b s)
  unfold writeLog at took ⊢
  split
  case isTrue hlost =>
    rw [if_pos hlost] at took
    split
    case isTrue hfits =>
      rw [if_pos hfits] at took
      exact evalPermit_wrote (appendLog_keeps (by decide) (.start _ s) b) took
    case isFalse hfits =>
      rw [if_neg hfits] at took
      exact firstLoss_wrote hlost took
  case isFalse hlost =>
    rw [if_neg hlost] at took
    split
    case isTrue hfits =>
      rw [if_pos hfits] at took
      exact evalPermit_wrote (appendLog_keeps (by decide) (setLost_keeps (by decide)
        (appendLog_keeps (by decide) (.start _ s) _) 0) b) took
    case isFalse hfits =>
      rw [if_neg hfits] at took
      exact furtherLoss_wrote hlost (by omega) took

end

/-! ### The bundle close (R116) -/

theorem binAt_eq_of_keeps {l : List Part} {s t : State} (h : KeepsAllBut l s t) (hl : Part.bins ∉ l) (c : Nat) :
    binAt c t = binAt c s := by simp only [binAt, h.bins_eq hl]

theorem binAt_writeLog (c : Nat) (b : LogBody) (s : State) : binAt c (writeLog b s) = binAt c s :=
  binAt_eq_of_keeps (writeLog_keeps (List.Subset.refl _) (.start writeParts s) b) (by decide) c

theorem putBin_wrote (b : Nat) (x : Bin) (s : State) : Wrote [] 0 s (putBin b x s) :=
  .of_keeps (putBin_keeps (by decide) (.start _ s) b x)

theorem groupOfBin_eq_of_keeps {l : List Part} {s t : State} (h : KeepsAllBut l s t) (hl : Part.groups ∉ l) (b : Nat) :
    groupOfBin b t = groupOfBin b s := by
  have hgroups : t.sort.groups = s.sort.groups := h .groups hl
  simp only [groupOfBin, groupAt, hgroups]

/-- A BUNDLE record depends on the groups alone. -/
theorem closeRecord_eq_of_keeps {l : List Part} {s t : State} (h : KeepsAllBut l s t) (hl : Part.groups ∉ l) (b : Nat)
    (cause : CloseCause) (u : Option Bundle) : closeRecord b cause u t = closeRecord b cause u s := by
  have hgroups : t.sort.groups = s.sort.groups := h .groups hl
  have hgroup : groupOfBin b t = groupOfBin b s := groupOfBin_eq_of_keeps h hl b
  have hjudging : judgingGroup b t = judgingGroup b s := by simp only [judgingGroup, hgroup, groupAt, hgroups]
  simp only [closeRecord, bundleLog, hgroup, hjudging]

theorem Wrote.closeRecord_eq {l : List LogBody} {n : Nat} {s t : State} (h : Wrote l n s t) (b : Nat) (cause : CloseCause)
    (u : Option Bundle) : closeRecord b cause u t = closeRecord b cause u s :=
  closeRecord_eq_of_keeps h.keeps (by decide) b cause u

theorem Bin.bundleClosed_of_none {x : Bin} (h : x.bundle = none) : x.bundleClosed = x := by
  rw [Bin.bundleClosed, if_pos h, ← h]; rfl

theorem Bin.bundleClosed_of_some {x : Bin} {u : Bundle} (h : x.bundle = some u) :
    x.bundleClosed = { x with bundle := none, trayBundles := x.trayBundles + 1 } := by
  rw [Bin.bundleClosed, if_neg (by simp [h])]

theorem closeBundle_of_none {b : Nat} {cause : CloseCause} {s : State} (h : (binAt b s).bundle = none) :
    closeBundle b cause s = s := by
  simp only [closeBundle, h]

/-- A close without its BUNDLE_MARK: the record, and the bin without its open bundle. -/
def recordClose (b : Nat) (cause : CloseCause) (u : Bundle) (s : State) : State :=
  let s1 := writeLog (.bundle (bundleLog b cause u s)) s
  putBin b (binAt b s1).bundleClosed s1

theorem closeBundle_of_some {b : Nat} {cause : CloseCause} {u : Bundle} {s : State} (h : (binAt b s).bundle = some u) :
    closeBundle b cause s =
      if cause = .full then sendBundleMark b u.count (recordClose b cause u s) else recordClose b cause u s := by
  simp only [closeBundle, h, recordClose, Bin.bundleClosed_of_some ((congrArg Bin.bundle (binAt_writeLog b _ s)).trans h)]

theorem recordClose_wrote {b : Nat} {cause : CloseCause} {u : Bundle} {s : State} :
    Wrote (closeRecord b cause (some u) s) 1 s (recordClose b cause u s) :=
  (writeLog_wrote _ s).trans (putBin_wrote b _ _)

theorem binAt_recordClose {b : Nat} (hb : b < 32) (cause : CloseCause) (u : Bundle) (s : State) (c : Nat) :
    binAt c (recordClose b cause u s) = if c = b then (binAt b s).bundleClosed else binAt c s := by
  rw [recordClose, binAt_putBin _ _ _ _ hb, binAt_writeLog, binAt_writeLog]

/-- A close that sends no BUNDLE_MARK, of a bin with or without an open bundle. -/
theorem closeBundle_wrote {b : Nat} {cause : CloseCause} (hc : cause ≠ .full) (s : State) :
    Wrote (closeRecord b cause (binAt b s).bundle s) 1 s (closeBundle b cause s) := by
  cases h : (binAt b s).bundle with
  | none =>
    rw [closeBundle_of_none h]
    exact (Wrote.of_keeps (.start _ s)).more (Nat.zero_le 1)
  | some u =>
    rw [closeBundle_of_some h, if_neg hc]
    exact recordClose_wrote

theorem binAt_closeBundle {b : Nat} (hb : b < 32) {cause : CloseCause} (hc : cause ≠ .full) (s : State) (c : Nat) :
    binAt c (closeBundle b cause s) = if c = b then (binAt b s).bundleClosed else binAt c s := by
  cases h : (binAt b s).bundle with
  | none =>
    rw [closeBundle_of_none h, Bin.bundleClosed_of_none h]
    split
    · subst_vars; rfl
    · rfl
  | some u => rw [closeBundle_of_some h, if_neg hc, binAt_recordClose hb]

end Sys2Proof.Machine
end

section
/-! BIN_EVENT (R113): what becomes of one that reaches the part, and SWEPT and FULL (R117, R118). -/

namespace Sys2Proof.Machine

/-! ### Events of a bin (R113) -/

section
variable {h : Header} {event : Nat → State → State} {value : Byte} {b : Nat} {s : State}

theorem take_binEvent_of_foreign (hr : Reached h s) (hb : binOfNode h.src.toNat s = none) :
    take (report h 33 [value] (binAction h event)) s =
      .next (forwardFrame { header := h, kind := 33, payload := [value] } s) :=
  take_report_of_none hr (by simp [Config.payloadLimit]) (by simp only [binAction, hb])

theorem take_binEvent_of_bin (hr : Reached h s) (hb : binOfNode h.src.toNat s = some b) :
    take (report h 33 [value] (binAction h event)) s = .next (actedOn h 33 [value] (event b s)) :=
  take_report_of_some hr (by simp [Config.payloadLimit]) (by simp only [binAction, hb])

end

/-! ### SWEPT and FULL (R117, R118) -/

theorem binEventOf_of_other {event : Byte} (h : event = 0 ∨ 3 < event.toNat) (b : Nat) (s : State) :
    binEventOf event b s = s := by
  have hval : event.toNat ≠ 1 ∧ event.toNat ≠ 2 ∧ event.toNat ≠ 3 := by
    rcases h with rfl | h
    · decide
    · omega
  obtain ⟨h1, h2, h3⟩ := hval
  unfold binEventOf
  split
  · next hv => exact absurd hv h1
  · next hv => exact absurd hv h2
  · next hv => exact absurd hv h3
  · rfl

/-- A swept bin starts a new tray. -/
def Bin.swept (x : Bin) : Bin :=
  { x with
    landed := 0, committed := x.flights.length, bundle := none, trayBundles := 0, previousKey := x.bundle.map (·.key)
    state := if x.state = .fullWait ∧ x.flights.length < x.capacity.getD 0 then .open else x.state }

/-- A sweep up to its TRAY record: the open bundle closed, and its key kept. -/
def sweepClose (b : Nat) (s : State) : State :=
  let s1 := closeBundle b .tray s
  putBin b { binAt b s1 with previousKey := (binAt b s).bundle.map (·.key) } s1

/-- A bin after the TRAY record (steps 3 and 4 of R117). -/
def Bin.newTray (x : Bin) : Bin :=
  let y : Bin := { x with landed := 0, committed := x.flights.length, trayBundles := 0 }
  { y with state := y.reopen }

theorem Bin.newTray_eq (x : Bin) : x.newTray =
    { x with
      landed := 0, committed := x.flights.length, trayBundles := 0
      state := if x.state = .fullWait ∧ x.flights.length < x.capacity.getD 0 then .open else x.state } := by
  obtain ⟨_, _, state, _, _, _, _, _, _⟩ := x
  cases state <;> simp [Bin.newTray, Bin.reopen]

theorem sweptAt_eq_newTray (b : Nat) (s : State) :
    let t := sweepClose b s
    let u := writeLog (.tray b (binAt b t).landed (binAt b t).trayBundles) t
    sweptAt b s = putBin b (binAt b u).newTray u := rfl

section
variable {b : Nat} (hb : b < 32) (s : State)
include hb

theorem binAt_sweepClose (c : Nat) : binAt c (sweepClose b s) =
    if c = b then { (binAt b s).bundleClosed with previousKey := (binAt b s).bundle.map (·.key) } else binAt c s := by
  simp only [sweepClose, binAt_putBin _ _ _ _ hb, binAt_closeBundle hb (show CloseCause.tray ≠ .full by decide), if_true]
  split <;> rfl

theorem sweptAt_eq : sweptAt b s =
    putBin b (binAt b s).swept
      (writeLog (.tray b (binAt b s).landed (binAt b s).bundleClosed.trayBundles) (sweepClose b s)) := by
  have hbin := (binAt_sweepClose hb s b).trans (if_pos rfl)
  rw [sweptAt_eq_newTray, binAt_writeLog, hbin, Bin.newTray_eq]
  rfl

theorem sweptAt_wrote : Wrote
    (closeRecord b .tray (binAt b s).bundle s ++ [.tray b (binAt b s).landed (binAt b s).bundleClosed.trayBundles]) 2 s
    (sweptAt b s) := by
  have hclose : Wrote _ 1 s (sweepClose b s) :=
    (closeBundle_wrote (show CloseCause.tray ≠ .full by decide) s).trans (putBin_wrote b _ _)
  rw [sweptAt_eq hb]
  simpa using (hclose.trans (writeLog_wrote _ _)).trans (putBin_wrote b _ _)

theorem binAt_sweptAt (c : Nat) : binAt c (sweptAt b s) = if c = b then (binAt b s).swept else binAt c s := by
  rw [sweptAt_eq hb, binAt_putBin _ _ _ _ hb, binAt_writeLog, binAt_sweepClose hb]
  split <;> rfl

end

/-- Settles O46: a sweep is the close of the bundle and the TRAY record, two write requests one after the other, and then
a bin with a new tray. -/
theorem sweepsAndFullMoveTheBin : Obligations.SweepsAndFullMoveTheBin := by
  intro h event s hr
  refine ⟨fun hb => ⟨take_binEvent_of_foreign hr hb, take_binEvent_of_foreign hr hb, take_binEvent_of_foreign hr hb⟩,
    fun b hb => ?_⟩
  intro x
  obtain ⟨hlt, -⟩ := binOfNode_some hb
  have swept := sweptAt_wrote hlt s
  refine ⟨fun hother => ?_, fun hopen => ?_, fun hopen => ?_, sweptAt b s, take_binEvent_of_bin hr hb, ?_, fun c hc => ?_,
    fun hnone => ?_, fun u g hsome hg => ?_, ?_, swept.alerts, sweptAt_keeps (List.Subset.refl _) (.start _ s) b⟩
  · exact (take_binEvent_of_bin hr hb).trans (by rw [binEventOf_of_other hother])
  · exact (take_binEvent_of_bin hr hb).trans (by rw [fullAt, if_pos hopen])
  · exact (take_binEvent_of_bin hr hb).trans (by rw [fullAt, if_neg hopen])
  · rw [binAt_sweptAt hlt, if_pos rfl]
    rfl
  · rw [binAt_sweptAt hlt, if_neg hc]
  · have took := swept.took
    rw [hnone, Bin.bundleClosed_of_none hnone] at took
    exact LogTookAll.one.mp took
  · have took := swept.took
    rw [hsome, Bin.bundleClosed_of_some hsome] at took
    obtain ⟨w, hbundle, htray⟩ := took
    refine ⟨w, ?_, LogTookAll.one.mp htray⟩
    simpa only [bundleLog, judgingGroup, hg, Option.getD_some] using hbundle
  · exact swept.stations.trans (q := True) (.of_eq rfl rfl) .inl fun _ => trivial

end Sys2Proof.Machine
end

section
/-! The drain completion (R152): when a line is drained, the closes in bin order with the RUN record, and the move to CLOSED. -/

namespace Sys2Proof.Machine

/-! ### When a line is drained -/

theorem forall_flights_iff {s : State} :
    (∀ x ∈ s.sort.bins.toList, x.flights = []) ↔ ∀ c, (binAt c s).flights = [] := by
  simp only [Vector.mem_toList_iff, Vector.mem_iff_getElem]
  refine ⟨fun h c => ?_, fun h x ⟨c, hc, hx⟩ => ?_⟩
  · by_cases hc : c < 32
    · simpa [binAt, hc] using h _ ⟨c, hc, rfl⟩
    · simp [binAt, hc, Bin.powerOn]
  · simpa [binAt, hc, hx] using h c

theorem drained_iff {s : State} : drained s = true ↔
    s.collation.collecting = .empty ∧ s.collation.staging = none ∧ (∀ p ∈ s.track.slots, p = none) ∧
      ∀ c, (binAt c s).flights = [] := by
  simp only [drained, Bool.and_eq_true, beq_iff_eq, List.all_eq_true, Option.isNone_iff_eq_none, List.isEmpty_iff,
    forall_flights_iff, and_assoc]

theorem pocketCount_eq_zero {s : State} :
    pocketCount s = 0 ↔ s.collation.collecting = .empty ∧ s.collation.staging = none := by
  unfold pocketCount
  cases s.collation.collecting <;> cases s.collation.staging <;> simp

/-- R152's condition by the counts of R134: on a drained line only the queue can hold records. -/
theorem drained_iff_recordsHeld {s : State} : drained s = true ↔ recordsHeld s = s.queue.records.length := by
  have hsum : recordsHeld s = s.queue.records.length ↔ pocketCount s = 0 ∧ pieceCount s = 0 ∧ flightTotal s = 0 := by
    unfold recordsHeld
    omega
  have hpieces : pieceCount s = 0 ↔ ∀ p ∈ s.track.slots, p = none := by
    simp [pieceCount, List.countP_eq_zero]
  have hflights : flightTotal s = 0 ↔ ∀ c, (binAt c s).flights = [] := by
    simp only [flightTotal, List.sum_eq_zero_iff, List.forall_mem_map, List.length_eq_zero_iff, forall_flights_iff]
  rw [hsum, pocketCount_eq_zero, hpieces, hflights, drained_iff, and_assoc]

/-! ### The closes of a drain completion -/

theorem binAt_of_le {c : Nat} (h : 32 ≤ c) (s : State) : binAt c s = Bin.powerOn := by
  simp [binAt, Nat.not_lt.mpr h]

theorem binAt_closeBundles {xs : List Nat} (hlt : ∀ b ∈ xs, b < 32) (hnodup : xs.Nodup) (s : State) (c : Nat) :
    binAt c (xs.foldl (fun s b => closeBundle b .runEnd s) s) =
      if c ∈ xs then (binAt c s).bundleClosed else binAt c s := by
  induction xs generalizing s with
  | nil => rfl
  | cons a xs ih =>
    obtain ⟨ha, hlt⟩ := List.forall_mem_cons.mp hlt
    obtain ⟨hnot, hnodup⟩ := List.nodup_cons.mp hnodup
    rw [List.foldl_cons, ih hlt hnodup, binAt_closeBundle ha (by decide)]
    by_cases hc : c = a
    · subst hc; simp [hnot]
    · simp [hc]

/-- A bin's close leaves the other bins' bundles, so the records are those of the bundles open at the start. -/
theorem closeBundles_wrote {xs : List Nat} (hlt : ∀ b ∈ xs, b < 32) (hnodup : xs.Nodup) (s : State) :
    Wrote (xs.flatMap fun b => closeRecord b .runEnd (binAt b s).bundle s) xs.length s
      (xs.foldl (fun s b => closeBundle b .runEnd s) s) := by
  induction xs generalizing s with
  | nil => exact .of_keeps (.start _ s)
  | cons a xs ih =>
    obtain ⟨ha, hlt⟩ := List.forall_mem_cons.mp hlt
    obtain ⟨hnot, hnodup⟩ := List.nodup_cons.mp hnodup
    have hclose := closeBundle_wrote (b := a) (show CloseCause.runEnd ≠ .full by decide) s
    have hrest : (xs.flatMap fun b => closeRecord b .runEnd (binAt b s).bundle s) =
        xs.flatMap fun b => closeRecord b .runEnd (binAt b (closeBundle a .runEnd s)).bundle (closeBundle a .runEnd s) :=
      List.flatMap_congr fun b hb => by
        rw [hclose.closeRecord_eq, binAt_closeBundle ha (by decide), if_neg (ne_of_mem_of_not_mem hb hnot)]
    rw [List.flatMap_cons, hrest, List.length_cons, Nat.add_comm]
    exact hclose.trans (ih hlt hnodup _)

/-- A drain completion up to its RUN record. -/
def drainLog (s : State) : State :=
  let s1 := (List.range 32).foldl (fun s b => closeBundle b .runEnd s) s
  writeLog (.run .closed s1.line.runId (some s1.line.counters)) s1

/-- The end of a drain completion: the run is CLOSED and RUN raised. -/
def finishDrain (s : State) : State := raiseAlert .drainComplete (enterState .closed none s)

theorem completeDrain_eq (s : State) : completeDrain s = finishDrain (drainLog s) := rfl

theorem drainLog_wrote (s : State) :
    Wrote (drainRecords (fun c => (binAt c s).bundle) s.line.counters s) 33 s (drainLog s) := by
  have hclosed := closeBundles_wrote (xs := List.range 32) (fun _ => List.mem_range.mp) List.nodup_range s
  have hkeeps : KeepsAllBut closeParts s ((List.range 32).foldl (fun s b => closeBundle b .runEnd s) s) :=
    .fold (fun _ b h => closeBundle_keeps (List.Subset.refl _) h b .runEnd) _ (.start _ s)
  have hrun := writeLog_wrote (.run .closed s.line.runId (some s.line.counters))
    ((List.range 32).foldl (fun s b => closeBundle b .runEnd s) s)
  have hid : _ = s.line.runId := hkeeps .runId (by decide)
  have hcounters : _ = s.line.counters := hkeeps .counters (by decide)
  rw [drainLog, hid, hcounters]
  exact hclosed.trans hrun

/-! ### The move to CLOSED -/

section
variable (s : State)

theorem finishDrain_keeps : KeepsAllBut stateParts s (finishDrain s) :=
  raiseAlert_keeps (by decide) (enterState_keeps (List.Subset.refl _) (.start _ s) _ _) _

theorem enterState_alertsKept (st : RunState) (reason : Option StopReason) :
    AlertsKeptBut [.station] s (enterState st reason s) :=
  evalPermit_alertsKept (by decide) (s.setLine { s.line with state := st, reason := reason, drive := st.drives })

theorem finishDrain_alertsKept : AlertsKeptBut [.station, .run] s (finishDrain s) :=
  ((enterState_alertsKept s .closed none).more (by decide)).trans (raiseAlert_alertsKept (by decide) _)

theorem finishDrain_runAlert : alertOf .run (finishDrain s) = alertOf .run (raiseAlert .drainComplete s) :=
  alertOf_raiseAlert_of_eq (d := .drainComplete) (enterState_alertsKept s .closed none .run (by decide))

theorem finishDrain_line : (finishDrain s).line.state = .closed ∧ (finishDrain s).line.drive = false := by
  obtain ⟨hstate, -, hdrive, -⟩ := enterState_line .closed none s
  rw [finishDrain, raiseAlert_line]
  exact ⟨hstate, hdrive⟩

theorem finishDrain_queues : Queues [19, 9] s (finishDrain s) := by
  have hentered : Queues [19, 9] s (enterState .closed none s) := (Queues.of_eq rfl).trans (evalPermit_queues _)
  exact hentered.trans ((raiseAlert_queues .drainComplete _).mono (by decide))

theorem finishDrain_grows : OwnGrows 2 s (finishDrain s) := by
  have hentered : OwnGrows 1 s (enterState .closed none s) := (evalPermit_grows _).of_start rfl
  exact hentered.trans (raiseAlert_grows .drainComplete _)

theorem finishDrain_stations {s : State} : StationsKept id (PermitHasRoom 0 s) s (finishDrain s) := by
  have hclosed : StationsKept id (PermitHasRoom 0 s) s (enterState .closed none s) := by
    let t := s.setLine { s.line with state := .closed, reason := none, drive := false }
    have hsame : StationsKept id True s t := .of_eq rfl rfl
    have heval : StationsKept id (PermitHasRoom 0 s) t (evalPermit t) := evalPermit_stationsKept fun hroom =>
      (PermitHasRoom.lt_or hroom).imp_right fun hpermit => ⟨by simp [t], hpermit⟩
    exact hsame.trans heval (fun _ => trivial) id
  have hraised : StationsKept id True (enterState .closed none s) (finishDrain s) :=
    .of_eq (raiseAlert_alertsKept (l := [.run]) (by decide) _ _ (by decide))
      (raiseAlert_keeps (by decide) (.start [.own, .alerts] _) _ .stations (by decide))
  exact hclosed.trans hraised id fun _ => trivial

end

/-! ### What a drain completion does (R152) -/

section
variable (s : State)

theorem binAt_completeDrain (c : Nat) : binAt c (completeDrain s) = (binAt c s).bundleClosed := by
  rw [completeDrain_eq, binAt_eq_of_keeps (finishDrain_keeps _) (by decide), drainLog, binAt_writeLog,
    binAt_closeBundles (fun _ => List.mem_range.mp) List.nodup_range]
  by_cases hc : c < 32
  · rw [if_pos (List.mem_range.mpr hc)]
  · rw [if_neg (by simpa using hc), binAt_of_le (Nat.le_of_not_lt hc), Bin.bundleClosed_of_none rfl]

theorem drained_completeDrain : drained (completeDrain s) = drained s := by
  have hk : KeepsAllBut _ s (completeDrain s) := completeDrain_keeps (List.Subset.refl _) (.start _ s)
  have hcollecting : (completeDrain s).collation.collecting = s.collation.collecting := hk .collecting (by decide)
  have hstaging : (completeDrain s).collation.staging = s.collation.staging := hk .staging (by decide)
  have hslots : (completeDrain s).track.slots = s.track.slots := hk .slots (by decide)
  have hflights : ∀ c, (binAt c (completeDrain s)).flights = (binAt c s).flights := fun c => by
    rw [binAt_completeDrain]; rfl
  rw [Bool.eq_iff_iff, drained_iff, drained_iff]
  simp only [hcollecting, hstaging, hslots, hflights]

theorem completeDrain_took :
    LogTookAll (drainRecords (fun c => (binAt c s).bundle) s.line.counters s) s (completeDrain s) := by
  rw [completeDrain_eq]
  exact (drainLog_wrote s).took.of_log_eq rfl
    ((finishDrain_keeps _).log_eq (by decide) (by decide) (by decide) (by decide)) rfl
    (finishDrain_alertsKept _ _ (by decide))

theorem completeDrain_alertsKept : AlertsKeptBut [.reserve, .station, .run] s (completeDrain s) := by
  rw [completeDrain_eq]
  exact ((drainLog_wrote s).alerts.more (by decide)).trans ((finishDrain_alertsKept _).more (by decide))

theorem completeDrain_runAlert : alertOf .run (completeDrain s) = alertOf .run (raiseAlert .drainComplete s) := by
  rw [completeDrain_eq, finishDrain_runAlert]
  exact alertOf_raiseAlert_of_eq (d := .drainComplete) ((drainLog_wrote s).alerts _ (by decide))

theorem completeDrain_line : (completeDrain s).line.state = .closed ∧ (completeDrain s).line.drive = false := by
  rw [completeDrain_eq]
  exact finishDrain_line _

theorem completeDrain_queues : Queues [19, 9] s (completeDrain s) := by
  rw [completeDrain_eq]
  exact (drainLog_wrote s).queues.trans (finishDrain_queues _)

theorem completeDrain_grows : OwnGrows 35 s (completeDrain s) := by
  rw [completeDrain_eq]
  exact (drainLog_wrote s).grows.trans (finishDrain_grows _)

/-- Outside RUNNING a drain completion sends at most one FEED_PERMIT, for the permit that still stands. -/
theorem completeDrain_stations {s : State} (hs : s.line.state ≠ .running) :
    StationsKept id (PermitHasRoom 0 s) s (completeDrain s) := by
  rw [completeDrain_eq]
  exact (drainLog_wrote s).stations.trans finishDrain_stations (fun hroom => .inr ⟨hs, hroom⟩)
    ((drainLog_wrote s).hasRoom hs 0)

end

/-! ### The drain-completion check (R152) -/

/-- The check completes the drain. -/
abbrev Completes (s : State) : Prop := s.line.state = .draining ∧ drained s = true

section
variable (s : State)

theorem drainCheck_eq : drainCheck s = if Completes s then completeDrain s else s := by
  simp only [drainCheck, Bool.and_eq_true, beq_iff_eq]

theorem drainCheck_of_completes {s : State} (h : Completes s) : drainCheck s = completeDrain s :=
  (drainCheck_eq s).trans (if_pos h)

theorem drainCheck_of_not_completes {s : State} (h : ¬Completes s) : drainCheck s = s :=
  (drainCheck_eq s).trans (if_neg h)

/-- Whether the drain was complete can be read off the state after the check, too. -/
theorem recordsHeld_drainCheck :
    recordsHeld (drainCheck s) = (drainCheck s).queue.records.length ↔ drained s = true := by
  rw [← drained_iff_recordsHeld, drainCheck_eq]
  split
  · rw [drained_completeDrain]
  · rfl

theorem drainCheck_queues : Queues [19, 9] s (drainCheck s) := by
  rw [drainCheck_eq]
  split
  · exact completeDrain_queues s
  · exact .of_eq rfl

theorem drainCheck_grows : OwnGrows 35 s (drainCheck s) := by
  rw [drainCheck_eq]
  split
  · exact completeDrain_grows s
  · exact .of_eq rfl

theorem drainCheck_alertsKept : AlertsKeptBut [.reserve, .station, .run] s (drainCheck s) := by
  rw [drainCheck_eq]
  split
  · exact completeDrain_alertsKept s
  · exact .of_alerts_eq rfl

theorem drainCheck_runAlert :
    alertOf .run (drainCheck s) = alertOf .run (if Completes s then raiseAlert .drainComplete s else s) := by
  rw [drainCheck_eq]
  split
  · exact completeDrain_runAlert s
  · rfl

theorem drainCheck_stations : StationsKept id (s.line.state = .draining → PermitHasRoom 0 s) s (drainCheck s) := by
  rw [drainCheck_eq]
  split
  case isTrue h =>
    obtain ⟨hstate, -⟩ := h
    exact (completeDrain_stations (by simp [hstate])).trans (q := True) (.of_eq rfl rfl) (fun hroom => hroom hstate)
      fun _ => trivial
  case isFalse => exact .of_eq rfl rfl

end

end Sys2Proof.Machine
end

section
/-! LANDED (R114 to R116): the landing as a chain of write requests, then the mark of a full bundle, then the drain-completion
check, and what that leaves. -/

namespace Sys2Proof.Machine

/-! ### A piece and its bundle (R114, R115) -/

/-- A landing piece breaks the open bundle. -/
abbrev Bin.Broken (f : Flight) (x : Bin) : Prop := ∃ u, x.bundle = some u ∧ u.key ≠ f.key

/-- The bundle of a piece after it has landed. -/
def Bin.joined (f : Flight) (x : Bin) : Bundle :=
  let opened : Bundle :=
    { key := f.key, count := 1, first := f.seq, last := f.seq, entry := f.entry, level := f.level
      continued := decide (x.previousKey = some f.key) }
  match x.bundle with
  | some u => if u.key = f.key then { u with count := u.count + 1, last := f.seq } else opened
  | none => opened

/-- A bin with a piece landed, before any further close. -/
def Bin.afterLanding (f : Flight) (rest : List Flight) (x : Bin) : Bin :=
  { x with
    landed := x.landed + 1, flights := rest, bundle := some (x.joined f)
    trayBundles := x.trayBundles + (if x.Broken f then 1 else 0)
    previousKey := if x.bundle = none ∨ x.Broken f then none else x.previousKey }

theorem Bin.breaks_iff {f : Flight} {x : Bin} : x.breaks f = true ↔ x.Broken f := by
  unfold Bin.breaks Bin.Broken
  cases x.bundle with
  | none => simp
  | some u => simp

/-- The close of a broken bundle and the joining give the bin of R115. -/
theorem Bin.afterLanding_eq (f : Flight) (rest : List Flight) (x : Bin) :
    let y : Bin := { x with flights := rest, landed := x.landed + 1 }
    Bin.join f (if y.breaks f then y.bundleClosed else y) = x.afterLanding f rest := by
  obtain ⟨_, _, _, _, _, _, bundle, _, _⟩ := x
  cases bundle with
  | none => simp [Bin.breaks, Bin.join, Bin.afterLanding, Bin.joined, beq_eq_decide]
  | some u =>
    by_cases hkey : u.key = f.key
    · simp [Bin.breaks, Bin.join, Bin.afterLanding, Bin.joined, hkey]
    · simp [Bin.breaks, Bin.join, Bin.afterLanding, Bin.joined, Bin.bundleClosed, hkey, beq_eq_decide]

/-! ### The landing up to the disposition (R114) -/

/-- A disposition that makes no entry is one write request (R124). -/
theorem disposeFlight_wrote (d : Disposition) (b : Nat) (place : Option (Nat × Nat)) (f : Flight) (s : State) :
    Wrote [.piece (f.logOf d b place)] 1 s (disposeFlight d b place f s) := by
  have hkeep : ∀ t, (writeLog (.piece (f.logOf d b place)) t).reprints = t.reprints := fun t =>
    (writeLog_keeps (List.Subset.refl writeParts) (.start _ t) _).reprints_eq (by decide)
  have heq : disposeFlight d b place f s = writeLog (.piece (f.logOf d b place)) (countDisposition d s) :=
    if_pos (congrArg List.length (hkeep (countDisposition d s)))
  rw [heq]
  have hcount : Wrote [] 0 s (countDisposition d s) := .of_keeps (countDisposition_keeps (by decide) (.start _ s) d)
  exact hcount.trans (writeLog_wrote _ _)

theorem binAt_disposeFlight (c : Nat) (d : Disposition) (b : Nat) (place : Option (Nat × Nat)) (f : Flight) (s : State) :
    binAt c (disposeFlight d b place f s) = binAt c s :=
  binAt_eq_of_keeps (disposeFlight_keeps (List.Subset.refl disposeParts) (.start _ s) d b place f) (by decide) c

/-- The head flight has left the in-flight list and is counted (R114). -/
def takeHead (b : Nat) (rest : List Flight) (s : State) : State :=
  putBin b { binAt b s with flights := rest, landed := (binAt b s).landed + 1 } s

/-- The KEY_BREAK close of a landing (R114). -/
def breakKey (b : Nat) (f : Flight) (s : State) : State :=
  if (binAt b s).breaks f then closeBundle b .keyBreak s else s

/-- The landed piece has joined its bundle (R115). -/
def joinPiece (b : Nat) (f : Flight) (rest : List Flight) (s : State) : State :=
  let t := breakKey b f (takeHead b rest s)
  putBin b ((binAt b t).join f) t

/-- The landed piece is disposed (R114). -/
def landPiece (b : Nat) (f : Flight) (rest : List Flight) (s : State) : State :=
  let t := joinPiece b f rest s
  disposeFlight .sorted b (binAt b t).place f t

theorem landedAt_of_cons {b : Nat} {f : Flight} {rest : List Flight} {s : State} (h : (binAt b s).flights = f :: rest) :
    let t := landPiece b f rest s
    landedAt b s = drainCheck (closeIfOff b (if bundleFull b t then closeBundle b .full t else t)) := by
  unfold landedAt
  rw [h]
  rfl

theorem landedAt_of_nil {b : Nat} {s : State} (h : (binAt b s).flights = []) :
    landedAt b s = raiseAlert (.unexpectedLanding b) s := by
  unfold landedAt
  rw [h]

/-- The record of the KEY_BREAK close of a landing, where there is one (R114). -/
def breakRecords (b : Nat) (f : Flight) (s : State) : List LogBody :=
  if (binAt b s).Broken f then closeRecord b .keyBreak (binAt b s).bundle s else []

theorem breakKey_wrote (b : Nat) (f : Flight) (s : State) : Wrote (breakRecords b f s) 1 s (breakKey b f s) := by
  by_cases h : (binAt b s).Broken f
  · rw [breakRecords, breakKey, if_pos h, if_pos (Bin.breaks_iff.mpr h)]
    exact closeBundle_wrote (by decide) s
  · rw [breakRecords, breakKey, if_neg h, if_neg (mt Bin.breaks_iff.mp h)]
    exact (Wrote.of_keeps (.start _ s)).more (Nat.zero_le 1)

section
variable {b : Nat} (hb : b < 32) (f : Flight) (rest : List Flight) (s : State)
include hb

theorem binAt_breakKey (c : Nat) : binAt c (breakKey b f s) =
    if c = b then (if (binAt b s).breaks f then (binAt b s).bundleClosed else binAt b s) else binAt c s := by
  unfold breakKey
  split
  · rw [binAt_closeBundle hb (by decide)]
  · split
    · subst_vars; rfl
    · rfl

theorem binAt_takeHead (c : Nat) : binAt c (takeHead b rest s) =
    if c = b then { binAt b s with flights := rest, landed := (binAt b s).landed + 1 } else binAt c s :=
  binAt_putBin _ _ _ _ hb

theorem binAt_landPiece (c : Nat) : binAt c (landPiece b f rest s) =
    if c = b then (binAt b s).afterLanding f rest else binAt c s := by
  rw [landPiece, binAt_disposeFlight, joinPiece, binAt_putBin _ _ _ _ hb, binAt_breakKey hb, binAt_breakKey hb,
    binAt_takeHead hb, binAt_takeHead hb]
  split
  · rw [if_pos rfl, if_pos rfl, ← Bin.afterLanding_eq]
  · rfl

theorem joinPiece_wrote : Wrote (breakRecords b f s) 1 s (joinPiece b f rest s) := by
  have htaken : Wrote [] 0 s (takeHead b rest s) := putBin_wrote b _ s
  have hbroken : Wrote (breakRecords b f s) 1 (takeHead b rest s) (breakKey b f (takeHead b rest s)) := by
    have := breakKey_wrote b f (takeHead b rest s)
    rwa [breakRecords, htaken.closeRecord_eq, binAt_takeHead hb, if_pos rfl] at this
  have hjoined : Wrote [] 0 (breakKey b f (takeHead b rest s)) (joinPiece b f rest s) := putBin_wrote b _ _
  simpa using (htaken.trans hbroken).trans hjoined

theorem place_joinPiece : (binAt b (joinPiece b f rest s)).place =
    some (((binAt b s).joined f).first, ((binAt b s).joined f).count) := by
  have hbin : binAt b (joinPiece b f rest s) = (binAt b s).afterLanding f rest :=
    (binAt_disposeFlight ..).symm.trans ((binAt_landPiece hb f rest s b).trans (if_pos rfl))
  rw [hbin]
  rfl

theorem landPiece_wrote :
    Wrote (breakRecords b f s ++
        [.piece (f.logOf .sorted b (some (((binAt b s).joined f).first, ((binAt b s).joined f).count)))]) 2 s
      (landPiece b f rest s) := by
  rw [landPiece, place_joinPiece hb]
  exact (joinPiece_wrote hb f rest s).trans (disposeFlight_wrote ..)

end

/-! ### The close after a landing (R114, R116) -/

/-- A bundle has reached the target of its bin's group. -/
abbrev Fills (b : Nat) (u : Bundle) (s : State) : Prop := ∃ g, groupOfBin b s = some g ∧ (groupAt g s).target ≤ u.count

theorem bundleFull_iff {b : Nat} {u : Bundle} {s : State} (h : (binAt b s).bundle = some u) :
    bundleFull b s = true ↔ Fills b u s := by
  unfold bundleFull Fills
  rw [h]
  cases groupOfBin b s with
  | none => simp
  | some g => simp

/-- An OFF bin with nothing in flight (R111). -/
abbrev Bin.Emptied (x : Bin) : Prop := x.state = .off ∧ x.flights = []

theorem closeIfOff_eq (b : Nat) (s : State) :
    closeIfOff b s = if (binAt b s).Emptied then closeBundle b .binOff s else s := by
  simp only [closeIfOff, Bool.and_eq_true, decide_eq_true_eq, List.isEmpty_iff, Bin.Emptied]

theorem closeIfOff_of_none {b : Nat} {s : State} (h : (binAt b s).bundle = none) : closeIfOff b s = s := by
  rw [closeIfOff_eq]
  split
  · exact closeBundle_of_none h
  · rfl

theorem binAt_sendBundleMark (c b n : Nat) (s : State) : binAt c (sendBundleMark b n s) = binAt c s :=
  binAt_eq_of_keeps (sendBundleMark_keeps (List.Subset.refl _) (.start [.own, .alerts] s) b n) (by decide) c

/-- The mark of a full bundle (R116). -/
def markFull (b : Nat) (u : Bundle) (full : Prop) [Decidable full] (s : State) : State :=
  if full then sendBundleMark b u.count s else s

/-- A full bundle closes and is marked; else that of an emptied OFF bin closes. At most one of the two closes does anything, and
the mark is the last thing done. -/
theorem lastClose_steps {b : Nat} (hb : b < 32) {u : Bundle} {t : State} (hu : (binAt b t).bundle = some u)
    {full off : Prop} [Decidable full] [Decidable off] (hfull : bundleFull b t = true ↔ full)
    (hoff : (binAt b t).Emptied ↔ off) : ∃ w,
    closeIfOff b (if bundleFull b t then closeBundle b .full t else t) = markFull b u full w ∧
    Wrote (if full then closeRecord b .full (some u) t
      else if full ∨ off then closeRecord b .binOff (some u) t else []) 1 t w ∧
    ∀ c, binAt c w =
      if c = b then (if full ∨ off then (binAt b t).bundleClosed else binAt b t) else binAt c t := by
  by_cases h : full
  · refine ⟨recordClose b .full u t, ?_, ?_, fun c => ?_⟩
    · rw [if_pos (hfull.mpr h), markFull, if_pos h, closeBundle_of_some hu, if_pos rfl]
      exact closeIfOff_of_none (by rw [binAt_sendBundleMark, binAt_recordClose hb, if_pos rfl]; rfl)
    · rw [if_pos h]
      exact recordClose_wrote
    · rw [binAt_recordClose hb, if_pos (Or.inl h : full ∨ off)]
  rw [if_neg (mt hfull.mp h), closeIfOff_eq, if_neg h]
  by_cases h' : off
  · refine ⟨recordClose b .binOff u t, ?_, ?_, fun c => ?_⟩
    · rw [if_pos (hoff.mpr h'), closeBundle_of_some hu, if_neg (by decide), markFull, if_neg h]
    · rw [if_pos (Or.inr h' : full ∨ off)]
      exact recordClose_wrote
    · rw [binAt_recordClose hb, if_pos (Or.inr h' : full ∨ off)]
  · have hnone : ¬(full ∨ off) := not_or.mpr ⟨h, h'⟩
    refine ⟨t, ?_, ?_, fun c => ?_⟩
    · rw [if_neg (mt hoff.mp h'), markFull, if_neg h]
    · rw [if_neg hnone]
      exact (Wrote.of_keeps (.start _ t)).more (Nat.zero_le 1)
    · rw [if_neg hnone]
      split
      · subst_vars; rfl
      · rfl

/-! ### The steps of a landing -/

/-- The bundle of a piece that lands closes: it is full, or the bin is OFF with nothing left in flight (R111, R114). -/
abbrev LandingCloses (b : Nat) (f : Flight) (rest : List Flight) (s : State) : Prop :=
  Fills b ((binAt b s).joined f) s ∨ ((binAt b s).state = .off ∧ rest = [])

/-- The bin after a landing, without a drain completion. -/
def landedBin (b : Nat) (f : Flight) (rest : List Flight) (s : State) : Bin :=
  if LandingCloses b f rest s then ((binAt b s).afterLanding f rest).bundleClosed else (binAt b s).afterLanding f rest

/-- The records of a landing, without a drain completion. -/
def landingRecords (b : Nat) (f : Flight) (rest : List Flight) (s : State) : List LogBody :=
  breakRecords b f s ++
    [.piece (f.logOf .sorted b (some (((binAt b s).joined f).first, ((binAt b s).joined f).count)))] ++
    (if Fills b ((binAt b s).joined f) s then closeRecord b .full (some ((binAt b s).joined f)) s
      else if LandingCloses b f rest s then closeRecord b .binOff (some ((binAt b s).joined f)) s else [])

/-- A landing is a chain of at most three write requests, then the mark, then the drain-completion check. -/
theorem landedAt_steps {b : Nat} (hb : b < 32) {f : Flight} {rest : List Flight} {s : State}
    (hf : (binAt b s).flights = f :: rest) : ∃ w,
    landedAt b s = drainCheck (markFull b ((binAt b s).joined f) (Fills b ((binAt b s).joined f) s) w) ∧
      Wrote (landingRecords b f rest s) 3 s w ∧
      ∀ c, binAt c w = if c = b then landedBin b f rest s else binAt c s := by
  have hland := landPiece_wrote hb f rest s
  have hbin : binAt b (landPiece b f rest s) = (binAt b s).afterLanding f rest :=
    (binAt_landPiece hb f rest s b).trans (if_pos rfl)
  have hbundle : (binAt b (landPiece b f rest s)).bundle = some ((binAt b s).joined f) := congrArg Bin.bundle hbin
  have hfull : bundleFull b (landPiece b f rest s) = true ↔ Fills b ((binAt b s).joined f) s := by
    have hgroups : (landPiece b f rest s).sort.groups = s.sort.groups := hland.keeps .groups (by decide)
    rw [bundleFull_iff hbundle]
    simp only [Fills, groupOfBin, groupAt, hgroups]
  have hoff : (binAt b (landPiece b f rest s)).Emptied ↔ (binAt b s).state = .off ∧ rest = [] := by
    rw [hbin]
    rfl
  obtain ⟨w, hsteps, hclose, hbins⟩ := lastClose_steps hb hbundle hfull hoff
  refine ⟨w, ?_, ?_, fun c => ?_⟩
  · rw [landedAt_of_cons hf, hsteps]
  · rw [hland.closeRecord_eq, hland.closeRecord_eq] at hclose
    exact hland.trans hclose
  · rw [hbins, hbin, binAt_landPiece hb]
    split <;> rfl

/-! ### The mark (R116) -/

section
variable {b n : Nat} {u : Bundle} {full : Prop} [Decidable full] {s : State}

theorem markFull_of_not (h : ¬full) : markFull b u full s = s := if_neg h

theorem markFull_of_room (h : full) (hn : (binAt b s).node = some n) (hroom : s.ring.own.length < 32) :
    markFull b u full s = pushOwn (nodeOf n) (.bundleMark u.count) s := by
  simp [markFull, h, sendBundleMark, hn, ownFull, Config.ownCapacity, hroom]

theorem markFull_of_full (h : full) (hn : (binAt b s).node = some n) (hroom : 32 ≤ s.ring.own.length) :
    markFull b u full s = raiseAlert (.markUntaken b) s := by
  simp [markFull, h, sendBundleMark, hn, ownFull, Config.ownCapacity, hroom, markUntaken]

theorem markFull_keeps {l : List Part} (hl : [.own, .alerts] ⊆ l) {r : State} (h : KeepsAllBut l r s) :
    KeepsAllBut l r (markFull b u full s) := by
  unfold markFull
  split
  · exact sendBundleMark_keeps hl h b u.count
  · exact h

theorem markFull_alertsKept : AlertsKeptBut [.sorter] s (markFull b u full s) := by
  unfold markFull
  split
  · unfold sendBundleMark
    split
    · split
      · exact raiseAlert_alertsKept (d := .markUntaken b) (List.mem_singleton_self _) s
      · exact .of_alerts_eq rfl
    · exact .of_alerts_eq rfl
  · exact .of_alerts_eq rfl

end

/-! ### The mark and the check after the write requests -/

theorem Queues.bundleMarks_nil {s t : State} (h : Queues [19, 9] s t) : bundleMarks s.ring.own.length t = [] := by
  rw [h.bundleMarks_eq (by decide) le_rfl, bundleMarks, List.drop_length, List.filter_nil]

theorem bundleMarks_pushOwn {since : Nat} {s : State} (hs : since ≤ s.ring.own.length) (dst : Node) (count : Nat) :
    bundleMarks since (pushOwn dst (.bundleMark count) s) = bundleMarks since s ++ [⟨dst, .bundleMark count⟩] := by
  simp only [bundleMarks, pushOwn, State.setRing_ring, List.drop_append_of_le_length hs, List.filter_append]
  rfl

section
variable {b n : Nat} {j : Bundle} {full : Prop} [Decidable full] {l : List LogBody} {s w : State}

theorem markFull_hasRoom (hn : (binAt b w).node = some n) (hroom : PermitHasRoom 1 w) :
    PermitHasRoom 0 (markFull b j full w) := by
  have hkeeps : KeepsAllBut [.own, .alerts] w (markFull b j full w) := markFull_keeps (List.Subset.refl _) (.start _ w)
  have hpermit : (markFull b j full w).line.permit = w.line.permit := hkeeps .permit (by decide)
  have hlost : (markFull b j full w).log.lost = w.log.lost := hkeeps .logLost (by decide)
  intro hp
  have := hroom (hpermit ▸ hp)
  have hlt : w.ring.own.length < 32 := by split at this <;> omega
  have hlen : (markFull b j full w).ring.own.length ≤ w.ring.own.length + 1 := by
    by_cases hf : full
    · rw [markFull_of_room hf hn hlt]
      simp [pushOwn]
    · rw [markFull_of_not hf]
      exact Nat.le_succ _
  rw [hlost]
  omega

theorem markFull_own_of_full (hn : (binAt b w).node = some n) (hfull : 32 ≤ w.ring.own.length) :
    (markFull b j full w).ring.own = w.ring.own := by
  by_cases hf : full
  · rw [markFull_of_full hf hn hfull]
    exact (raiseAlert_grows _ w).full hfull
  · rw [markFull_of_not hf]

theorem length_le_markFull (hn : (binAt b w).node = some n) (hlt : w.ring.own.length < 32) :
    w.ring.own.length ≤ (markFull b j full w).ring.own.length := by
  by_cases hf : full
  · rw [markFull_of_room hf hn hlt]
    simp [pushOwn]
  · rw [markFull_of_not hf]

section
variable (hw : Wrote l 3 s w) (hn : (binAt b w).node = some n)
include hw hn

theorem bundleMarks_landing (hroom : s.ring.own.length + 4 ≤ 32) :
    bundleMarks s.ring.own.length (drainCheck (markFull b j full w)) =
      if full then [⟨nodeOf n, .bundleMark j.count⟩] else [] := by
  have hlt : w.ring.own.length < 32 := by
    have := hw.grows.length_le
    omega
  have hle : s.ring.own.length ≤ w.ring.own.length := by
    obtain ⟨more, hmore, -⟩ := hw.queues
    simp [hmore]
  rw [(drainCheck_queues _).bundleMarks_eq (by decide) (hle.trans (length_le_markFull hn hlt))]
  by_cases hf : full
  · rw [markFull_of_room hf hn hlt, bundleMarks_pushOwn hle, hw.queues.bundleMarks_nil, if_pos hf, List.nil_append]
  · rw [markFull_of_not hf, hw.queues.bundleMarks_nil, if_neg hf]

/-- Outside DRAINING the three write requests have room for their own frames; in DRAINING the last FEED_PERMIT has room, too,
behind the mark. -/
theorem stationsKept_landing :
    StationsKept id (s.ring.own.length + 4 ≤ 32) s (drainCheck (markFull b j full w)) := by
  have hkeeps : KeepsAllBut [.own, .alerts] w (markFull b j full w) := markFull_keeps (List.Subset.refl _) (.start _ w)
  have hmarked : StationsKept id True w (markFull b j full w) :=
    .of_eq (markFull_alertsKept _ (by decide)) (hkeeps .stations (by decide))
  refine (hw.stations.trans hmarked (fun hr => ?_) fun _ => trivial).trans (drainCheck_stations _) id fun hr hstate => ?_
  · exact .inl (by omega)
  · have hne : s.line.state ≠ .running := by
      rw [← hw.state_eq, ← hkeeps.state_eq (by decide), hstate]
      decide
    refine markFull_hasRoom hn (hw.hasRoom hne 1 fun _ => ?_)
    split <;> omega

theorem own_landing_of_full (hfull : 32 ≤ s.ring.own.length) :
    (drainCheck (markFull b j full w)).ring.own = s.ring.own := by
  have hown := hw.grows.full hfull
  have hmarked := (markFull_own_of_full (j := j) (full := full) hn (hown ▸ hfull)).trans hown
  exact ((drainCheck_grows _).full (hmarked ▸ hfull)).trans hmarked

theorem sorterAlert_landing_of_room (h : s.ring.own.length + 4 ≤ 32 ∨ ¬full) :
    alertOf .sorter (drainCheck (markFull b j full w)) = alertOf .sorter s := by
  rw [drainCheck_alertsKept _ .sorter (by decide), ← hw.alerts .sorter (by decide)]
  by_cases hf : full
  · have hlt : w.ring.own.length < 32 := by
      have := hw.grows.length_le
      have := h.resolve_right (not_not.mpr hf)
      omega
    rw [markFull_of_room hf hn hlt]
    rfl
  · rw [markFull_of_not hf]

theorem sorterAlert_landing_of_full (hfull : 32 ≤ s.ring.own.length) (hf : full) :
    alertOf .sorter (drainCheck (markFull b j full w)) = alertOf .sorter (raiseAlert (.markUntaken b) s) := by
  rw [drainCheck_alertsKept _ .sorter (by decide), markFull_of_full hf hn (hw.grows.full hfull ▸ hfull)]
  exact alertOf_raiseAlert_of_eq (d := .markUntaken b) (hw.alerts .sorter (by decide))

end

section
variable (hw : Wrote l 3 s w)
include hw

theorem alertsKept_landing :
    AlertsKeptBut [.sorter, .reserve, .station, .run] s (drainCheck (markFull b j full w)) :=
  ((hw.alerts.more (by decide)).trans (markFull_alertsKept.more (by decide))).trans
    ((drainCheck_alertsKept _).more (by decide))

theorem markFull_took : LogTookAll l s (markFull b j full w) := by
  have hkeeps : KeepsAllBut [.own, .alerts] w (markFull b j full w) := markFull_keeps (List.Subset.refl _) (.start _ w)
  exact hw.took.of_log_eq rfl (hkeeps.log_eq (by decide) (by decide) (by decide) (by decide)) rfl
    (markFull_alertsKept _ (by decide))

theorem runAlert_markFull : alertOf .run (markFull b j full w) = alertOf .run s :=
  (markFull_alertsKept .run (by decide)).trans (hw.alerts .run (by decide))

end
end

theorem binAt_markFull {b : Nat} {j : Bundle} {full : Prop} [Decidable full] (c : Nat) (s : State) :
    binAt c (markFull b j full s) = binAt c s :=
  binAt_eq_of_keeps (markFull_keeps (List.Subset.refl [Part.own, .alerts]) (.start _ s)) (by decide) c

theorem drainRecords_eq_of_keeps {l : List Part} {s t : State} (h : KeepsAllBut l s t) (hg : Part.groups ∉ l)
    (hi : Part.runId ∉ l) (bundle : Nat → Option Bundle) (counters : Counters) :
    drainRecords bundle counters t = drainRecords bundle counters s := by
  have hid : t.line.runId = s.line.runId := h .runId hi
  simp only [drainRecords, closeRecord_eq_of_keeps h hg, hid]

/-- The records of a drain completion after those of the steps before it, by the bundles that these left open. -/
theorem completeDrain_took_of {l : List Part} {r : List LogBody} {s u : State} {bundle : Nat → Option Bundle}
    (hkeeps : KeepsAllBut l s u) (hg : Part.groups ∉ l) (hi : Part.runId ∉ l) (took : LogTookAll r s u)
    (hbundle : ∀ c, (binAt c u).bundle = bundle c) :
    LogTookAll (r ++ drainRecords bundle (completeDrain u).line.counters s) s (completeDrain u) := by
  have hcounters : (completeDrain u).line.counters = u.line.counters :=
    (completeDrain_keeps (List.Subset.refl _) (.start _ u)).counters_eq (by decide)
  rw [hcounters, ← funext hbundle, ← drainRecords_eq_of_keeps hkeeps hg hi]
  exact took.append (completeDrain_took u)

/-! ### The landing as stated -/

theorem landedBin_eq (b : Nat) (f : Flight) (rest : List Flight) (s : State) : landedBin b f rest s =
    { binAt b s with
      landed := (binAt b s).landed + 1, flights := rest
      bundle := if LandingCloses b f rest s then none else some ((binAt b s).joined f)
      trayBundles := (binAt b s).trayBundles + (if (binAt b s).Broken f then 1 else 0) +
        (if LandingCloses b f rest s then 1 else 0)
      previousKey := if (binAt b s).bundle = none ∨ (binAt b s).Broken f then none else (binAt b s).previousKey } := by
  by_cases h : LandingCloses b f rest s
  · have hsome : ((binAt b s).afterLanding f rest).bundle = some ((binAt b s).joined f) := rfl
    rw [landedBin, if_pos h, if_pos h, if_pos h, Bin.bundleClosed_of_some hsome]
    rfl
  · rw [landedBin, if_neg h, if_neg h, if_neg h]
    rfl

/-- The closes, the mark and the check leave the counters as the disposition left them (R133). -/
theorem landedAt_counters {b : Nat} {f : Flight} {rest : List Flight} {s : State} (hf : (binAt b s).flights = f :: rest) :
    (landedAt b s).line.counters = s.line.counters.bump .sorted := by
  have hjoin : KeepsAllBut closeParts s (joinPiece b f rest s) := by
    refine putBin_keeps (by decide) ?_ b _
    have htaken : KeepsAllBut closeParts s (takeHead b rest s) := putBin_keeps (by decide) (.start _ s) b _
    unfold breakKey
    split
    · exact closeBundle_keeps (List.Subset.refl _) htaken b .keyBreak
    · exact htaken
  have hend : KeepsAllBut (closeParts ++ [.runState, .reason, .drive]) (landPiece b f rest s) (landedAt b s) := by
    rw [landedAt_of_cons hf]
    refine drainCheck_keeps (List.Subset.refl _) (closeIfOff_keeps (by decide) ?_ b)
    split
    · exact closeBundle_keeps (by decide) (.start _ _) b .full
    · exact .start _ _
  rw [hend.counters_eq (by decide), landPiece, disposeFlight, dispose_counters, hjoin.counters_eq (by decide)]

/-- Settles O45: a landing is write requests for its records, the mark of a full bundle, and the drain-completion check. -/
theorem landingsFormBundles : Obligations.LandingsFormBundles := by
  intro h s hr
  refine ⟨take_binEvent_of_foreign hr, fun b hb => ?_⟩
  obtain ⟨hlt, hnode⟩ := binOfNode_some hb
  refine ⟨fun hnil => (take_binEvent_of_bin hr hb).trans (by rw [landedAt_of_nil hnil]), fun f rest hf => ?_⟩
  intro opened broken joined full closes now records
  obtain ⟨w, hland, hw, hbins⟩ := landedAt_steps hlt hf
  have hnow : landedBin b f rest s = now := landedBin_eq b f rest s
  have hn : (binAt b w).node = some h.src.toNat := by
    rw [hbins, if_pos rfl, landedBin_eq]
    exact hnode
  have hdst : nodeOf h.src.toNat = h.src := BitVec.ofNat_toNat 6 h.src
  let u := markFull b joined full w
  have hland : landedAt b s = drainCheck u := hland
  have hkeeps : KeepsAllBut (closeParts ++ [.counters]) s u := markFull_keeps (by decide) hw.keeps
  have hstate : u.line.state = s.line.state := hkeeps.state_eq (by decide)
  have hcompletes : Completes u ↔
      s.line.state = .draining ∧ recordsHeld (drainCheck u) = (drainCheck u).queue.records.length := by
    rw [Completes, hstate, recordsHeld_drainCheck]
  have hubins : ∀ c, binAt c u = if c = b then now else binAt c s := fun c => by rw [binAt_markFull, hbins, hnow]
  have hself : binAt b u = now := (hubins b).trans (if_pos rfl)
  have hother : ∀ c, c ≠ b → binAt c u = binAt c s := fun c hc => (hubins c).trans (if_neg hc)
  refine ⟨landedAt b s, take_binEvent_of_bin hr hb, ?_⟩
  rw [hland]
  refine ⟨?_, fun hroom => ?_, sorterAlert_landing_of_room hw hn,
    fun hfull => ⟨own_landing_of_full hw hn hfull, sorterAlert_landing_of_full hw hn hfull⟩, alertsKept_landing hw,
    stationsKept_landing hw hn, ?_, fun hs => ?_, fun hs => ⟨fun hheld => ?_, fun hheld => ?_, ?_⟩⟩
  · rw [← hland]
    exact landedAt_counters hf
  · rw [← hdst]
    exact bundleMarks_landing hw hn hroom
  · rw [drainCheck_runAlert]
    simp only [hcompletes]
    split
    · exact alertOf_raiseAlert_of_eq (d := .drainComplete) (runAlert_markFull hw)
    · exact runAlert_markFull hw
  · rw [drainCheck_of_not_completes fun hc => hs (hcompletes.mp hc).1]
    exact ⟨hself, hother, fun _ => markFull_took hw, hkeeps⟩
  · rw [drainCheck_of_not_completes fun hc => hheld (hcompletes.mp hc).2]
    exact ⟨hstate.trans hs, hself, fun _ => markFull_took hw, hother⟩
  · have hdrained := drainCheck_of_completes (hcompletes.mpr ⟨hs, hheld⟩)
    obtain ⟨hclosed, hdrive⟩ := completeDrain_line u
    rw [hdrained]
    exact ⟨hclosed, hdrive, fun c => by rw [binAt_completeDrain, hubins], fun _ =>
      completeDrain_took_of hkeeps (by decide) (by decide) (markFull_took hw) fun c => by rw [hubins]; split <;> rfl⟩
  · exact drainCheck_keeps (by decide) (hkeeps.more (by decide))

end Sys2Proof.Machine
end

section
/-! What a step can do: each command is taken apart once into the work of its block, the ANSWER to a request and the forwarding of
its frame, so that an invariant is proved work by work. -/

namespace Sys2Proof.Machine

/-! ### The works of the blocks -/

/-- What a pitch advance can touch (R65). -/
abbrev advanceParts : List Part :=
  endParts ++ ([.collecting, .staging, .slots, .position, .boundary, .pitch, .nextSerial, .divertSerials, .pageUse,
    .groups] : List Part)

/-- What a drain completion can touch (R152). -/
abbrev completionParts : List Part :=
  closeParts ++ ([.runState, .reason, .drive] : List Part)

/-- What a loss of signal can touch (R164). -/
abbrev linkParts : List Part :=
  stateParts ++ ([.forward, .linkUp] : List Part)

/-- What a sheet scan can touch (R25). -/
abbrev scanParts : List Part :=
  endParts ++ ([.held, .records, .collecting, .staging, .strays, .stocks, .slots] : List Part)

/-- What a SLOT_REPORT can touch (R75). -/
abbrev slotReportParts : List Part :=
  stateParts ++ ([.slots, .jamSlot] : List Part)

/-- What the result of a feed or of the envelope can touch (R86, R90). -/
abbrev pieceParts : List Part :=
  frameParts ++ ([.slots] : List Part)

/-- What an output read can touch (R92). -/
abbrev readParts : List Part :=
  stateParts ++ ([.slots] : List Part)

/-- What an untaken SHEET_ACTION can touch (R23). -/
abbrev sheetLossParts : List Part :=
  frameParts ++ ([.collecting, .staging, .slots] : List Part)

/-- What an untaken DIVERT_CMD can touch (R126). -/
abbrev divertLossParts : List Part :=
  stateParts ++ ([.freeIndex] : List Part)

/-- What the acceptance of a record can touch (R7). -/
abbrev acceptParts : List Part :=
  permitParts ++ ([.held, .records, .last, .reprints, .counters] : List Part)

/-- What a SKIP_RECORD can touch (R132). -/
abbrev skipParts : List Part :=
  disposeParts ++ ([.held, .records] : List Part)

/-- What a LOG_READ can touch (R143). -/
abbrev logReadParts : List Part :=
  permitParts ++ ([.logRecords] : List Part)

/-- What an OPEN_RUN can touch (R18). -/
abbrev openParts : List Part :=
  stateParts ++ ([.last, .collecting, .staging, .strays, .stocks, .slots, .position, .boundary, .pitch, .encoderErrors,
    .nextSerial, .jamSlot, .logRecords, .logSerial, .logLost, .runId, .locked, .counters] : List Part)

/-- What a START can touch (R148). -/
abbrev startParts : List Part :=
  stateParts ++ ([.logRecords, .logSerial, .logLost] : List Part)

/-- What a FLUSH can touch (R151). -/
abbrev flushParts : List Part :=
  endParts ++ ([.held, .records, .collecting, .staging, .ending] : List Part)

/-- What an ABORT can touch (R153). -/
abbrev abortParts : List Part :=
  endParts ++ ([.held, .records, .collecting, .staging, .slots, .pageUse, .groups, .ending] : List Part)

/-- What a CLOSE_RUN can touch (R154). -/
abbrev closeRunParts : List Part :=
  stateParts ++ ([.last, .reprints, .ending, .runId, .locked, .counters] : List Part)

/-- What a RESET_LINE can touch (R155). -/
abbrev resetLineParts : List Part :=
  endParts ++ ([.held, .records, .last, .collecting, .staging, .strays, .stocks, .slots, .position, .boundary, .pitch,
    .encoderErrors, .nextSerial, .jamSlot, .pageUse, .groups, .ending, .runId, .locked] : List Part)

/-- What a CLEAR_SLOTS can touch (R156). -/
abbrev clearParts : List Part :=
  disposeParts ++ ([.collecting, .staging, .slots, .pageUse, .groups] : List Part)

/-- What a LOAD PROFILE can touch (R166). -/
abbrev profileParts : List Part :=
  permitParts ++ ([.held, .high, .low, .sheetLimit, .strayLimit, .stocks, .allowance, .limit, .letterLimit, .flatLimit,
    .slots, .boundary, .length, .pulses, .window, .reserve] : List Part)

/-- The work of one command, with the parts of State that it can touch: the work of an event, of a report, of a return or of a
request that is carried out, the last with its ANSWER. -/
inductive Work : List Part → State → State → Prop
  | none (s : State) : Work [] s s
  | answer {l : List Part} {s t : State} (tag : Byte) (code : AnswerCode) (content : List Byte) (w : Work l s t) :
      Work (.own :: l) s (sendAnswer tag code content t)
  | free (s : State) : Work [.freeIndex] s (s.setFree (s.freeIndex + 1))
  | alert (d : AlertDetail) (s : State) : Work [.own, .alerts] s (raiseAlert d s)
  | advance {s : State} (hopen : s.line.state ≠ .idle) (hdue : s.track.position + 1 = s.track.boundary) :
      Work advanceParts s (advance (s.setTrack { s.track with position := s.track.position + 1 }))
  | forward {s : State} (hopen : s.line.state ≠ .idle) (hdue : s.track.position + 1 ≠ s.track.boundary) :
      Work [.position] s (s.setTrack { s.track with position := s.track.position + 1 })
  | reverse (s : State) : Work [.position] s (reversePulse s)
  | encoderError (s : State) : Work [.encoderErrors] s (encoderError s)
  | passWindows (s : State) : Work [.slots] s (passAllWindows s)
  | drain (s : State) : Work completionParts s (drainCheck s)
  | send (s : State) : Work [.own, .forward, .out] s (sendNext s)
  | loseLink (s : State) : Work linkParts s (loseLink s)
  | regainLink (s : State) : Work [.own, .linkUp, .alerts] s (regainLink s)
  | scan (x : RawScan) (s : State) : Work scanParts s (takeScan (scanOf x) s)
  | status {i : Nat} {e : StationEntry} (value : Byte) {s : State} (he : stationAt i s = some e) :
      Work frameParts s (statusReport i e value s)
  | slot {i : Nat} {e : StationEntry} (pitch occupancy : Byte) {s : State} (he : stationAt i s = some e) :
      Work slotReportParts s (slotReport i e pitch occupancy s)
  | feed {i : Nat} {e : StationEntry} (tag result : Byte) {s : State} (he : stationAt i s = some e) :
      Work pieceParts s (feedReport i e tag result s)
  | envelope {i : Nat} {e : StationEntry} (tag result : Byte) {s : State} (he : stationAt i s = some e) :
      Work pieceParts s (envReport i e tag result s)
  | address {i : Nat} {e : StationEntry} (tag result : Byte) (seq : BitVec 24) (inc : Byte) {s : State}
      (he : stationAt i s = some e) : Work readParts s (addrReport i e tag result seq inc s)
  | landed {b : Nat} (hb : b < 32) (s : State) : Work endParts s (landedAt b s)
  | swept {b : Nat} (hb : b < 32) (s : State) : Work closeParts s (sweptAt b s)
  | full {b : Nat} (hb : b < 32) (s : State) : Work [.bins] s (fullAt b s)
  | sheetLost (dst : Node) (accept : Bool) (seq inc : Nat) (s : State) :
      Work sheetLossParts s (sheetActionLost dst accept seq inc s)
  | absent (dst : Node) (s : State) : Work frameParts s (nodeAbsent dst s)
  | feedLost (dst : Node) (tag : Nat) (s : State) : Work pieceParts s (feedUntaken dst tag s)
  | envelopeLost (dst : Node) (tag : Nat) (s : State) : Work pieceParts s (envUntaken dst tag s)
  | armLost (dst : Node) (tag : Nat) (s : State) : Work pieceParts s (armUntaken dst tag s)
  | divertLost (dst : Node) (tag : Nat) (s : State) : Work divertLossParts s (divertReturn dst tag s)
  | selectLost {b : Nat} (hb : b < 32) (tag : Nat) (s : State) : Work endParts s (selectUntaken b tag s)
  | accept {body : List Byte} {r : JobRecord} {s : State} (hr : judgeRecord body s = .ok r) :
      Work acceptParts s (acceptRecord r s)
  | skip {s : State} (n : Nat) (hs : s.line.state = .paused ∨ s.line.state = .jammed) :
      Work skipParts s (skipRecords n s).1
  | logRead (n : Nat) (s : State) : Work logReadParts s (evalPermit (s.setLog { s.log with records := s.log.records.drop n }))
  | reprintRead (n : Nat) (s : State) : Work [.reprints] s (s.setReprints (requestEntries n s.reprints))
  | openRun (id : Word) {s : State} (hs : s.line.locked = false) : Work openParts s (openRun id s)
  | start {s : State} (hs : s.line.state = .ready) : Work startParts s (startRun s)
  | pause {s : State} (hs : s.line.state = .running ∨ s.line.state = .draining) :
      Work stateParts s (enterState .paused (some .operator) s)
  | resume {s : State} (hs : s.line.state = .paused ∨ s.line.state = .jammed) :
      Work completionParts s (resumeRun s)
  | flush {s : State} (he : s.line.ending = false) (hs : s.line.state = .running ∨ s.line.state = .paused) :
      Work flushParts s (flushRun s)
  | abort {s : State} (hs : s.line.state ≠ .idle ∧ s.line.state ≠ .closed) :
      Work abortParts s (abortRun s)
  | closeRun {s : State} (hs : s.line.state = .closed) : Work closeRunParts s (closeRun s)
  | resetLine (s : State) : Work resetLineParts s (resetLine s)
  | clearSlots {operands : List Byte} {c : ClearOperands} {s : State} (hs : s.line.state = .jammed)
      (hc : readClear s.track.length operands = some c) :
      Work clearParts s
        (evalPermit (clearNamedSlots c (clearNamedPockets c s)))
  | allModes (m : StationMode) (s : State) : Work [.stations] s (setAllModes m s)
  | mode {i : Nat} {e : StationEntry} (m : StationMode) {s : State} (he : stationAt i s = some e) :
      Work [.stations] s (putStation i (some { e with mode := m }) s)
  | binOn {b : Nat} {s : State} (hb : b < 32) : Work [.bins] s (binOn b s)
  | binOff {b : Nat} {s : State} (hb : b < 32) : Work closeParts s (binOff b s)
  | relearnAll (s : State) : Work [.stocks] s (emptyRings s)
  | relearn {i : Nat} (hi : i < 4) (s : State) : Work [.stocks] s (putStock i (stockAt i s).relearn s)
  | ack (c : AlertClass) (s : State) : Work [.alerts] s (setAlert c Alert.clear s)
  | loadProfile {p : ProfileFields} {s : State} (hs : s.line.state = .idle ∨ s.line.state = .ready)
      (hr : profileInRange p s = true) (hu : profileInUse p s = false) : Work profileParts s (writeProfile p s)
  | loadStations {t : Vector (Option StationEntry) 24} {s : State} (ht : tableOk (tableEntries t) s = true) :
      Work [.stations] s (s.setTrack { s.track with stations := t })
  | loadScheme {page : Nat} (start : Nat) (entries : List SchemeEntry) {s : State} (hp : pageUseAt page s = 0) :
      Work [.scheme] s (writeScheme page start entries s)
  | loadGroup {items : List Byte} {f : GroupFields} {s : State} (hf : readGroup items = some f)
      (hr : groupInRange f s = true) :
      Work [.groups] s (putGroup f.group (f.toGroup (groupAt f.group s).refs) s)
  | loadBin {b node capacity : Nat} {s : State} (hr : binInRange b node capacity s = true) (hb : binBusy b s = false) :
      Work [.bins] s (putBin b { binAt b s with node := some node, capacity := some capacity } s)

theorem skipRecords_keeps {l : List Part} (hl : skipParts ⊆ l) {s : State} :
    ∀ (n : Nat) {t : State}, KeepsAllBut l s t → KeepsAllBut l s (skipRecords n t).1
  | 0, _, h => h
  | n + 1, t, h => by
    unfold skipRecords
    split
    · exact h
    · split
      · exact skipRecords_keeps hl n (skipHead_keeps hl h _)
      · exact h

/-- A work touches no part but those it lists. -/
theorem Work.keeps {l : List Part} {s t : State} (w : Work l s t) : KeepsAllBut l s t := by
  have none {l : List Part} {s : State} : KeepsAllBut l s s := .start l s
  induction w with
  | none => exact none
  | answer tag code content w ih => exact sendAnswer_keeps (by simp) (ih.more (List.subset_cons_self _ _)) _ _ _
  | free => intro p hp; cases p <;> first | rfl | exact absurd (by decide) hp
  | alert => exact raiseAlert_keeps (by decide) none _
  | advance =>
    refine advance_keeps (by decide) ?_
    intro p hp
    cases p <;> first | rfl | exact absurd (by decide) hp
  | forward => intro p hp; cases p <;> first | rfl | exact absurd (by decide) hp
  | reverse => exact reversePulse_keeps (by decide) none
  | encoderError => exact encoderError_keeps (by decide) none
  | passWindows => exact passAllWindows_keeps (by decide) none
  | drain => exact drainCheck_keeps (by decide) none
  | send => exact sendNext_keeps (by decide) none
  | loseLink => exact loseLink_keeps (by decide) none
  | regainLink => exact regainLink_keeps (by decide) none
  | scan => exact takeScan_keeps (by decide) none _
  | status => exact statusReport_keeps (by decide) none _ _ _
  | slot => exact slotReport_keeps (by decide) none _ _ _ _
  | feed => exact feedReport_keeps (by decide) none _ _ _ _
  | envelope => exact envReport_keeps (by decide) none _ _ _ _
  | address => exact addrReport_keeps (by decide) none _ _ _ _ _ _
  | landed => exact landedAt_keeps (by decide) none _
  | swept => exact sweptAt_keeps (by decide) none _
  | full => exact fullAt_keeps (by decide) none _
  | sheetLost => exact sheetActionLost_keeps (by decide) none _ _ _ _
  | absent => exact nodeAbsent_keeps (by decide) none _
  | feedLost => exact feedUntaken_keeps (by decide) none _ _
  | envelopeLost => exact envUntaken_keeps (by decide) none _ _
  | armLost => exact armUntaken_keeps (by decide) none _ _
  | divertLost => exact divertReturn_keeps (by decide) none _ _
  | selectLost => exact selectUntaken_keeps (by decide) none _ _
  | accept => exact acceptRecord_keeps (by decide) none _
  | skip n => exact skipRecords_keeps (by decide) n none
  | logRead =>
    refine evalPermit_keeps (by decide) ?_
    intro p hp
    cases p <;> first | rfl | exact absurd (by decide) hp
  | reprintRead => intro p hp; cases p <;> first | rfl | exact absurd (by decide) hp
  | openRun => exact openRun_keeps (by decide) none _
  | start => exact startRun_keeps (by decide) none
  | pause => exact enterState_keeps (by decide) none _ _
  | resume => exact resumeRun_keeps (by decide) none
  | flush => exact flushRun_keeps (by decide) none
  | abort => exact abortRun_keeps (by decide) none
  | closeRun => exact closeRun_keeps (by decide) none
  | resetLine => exact resetLine_keeps (by decide) none
  | clearSlots =>
    exact evalPermit_keeps (by decide)
      (clearNamedSlots_keeps (by decide) (clearNamedPockets_keeps (by decide) none _) _)
  | allModes => exact setAllModes_keeps (by decide) none _
  | mode => exact putStation_keeps (by decide) none _ _
  | binOn => exact binOn_keeps (by decide) none _
  | binOff => exact binOff_keeps (by decide) none _
  | relearnAll => exact emptyRings_keeps (by decide) none
  | relearn => exact putStock_keeps (by decide) none _ _
  | ack => exact setAlert_keeps (by decide) none _ _
  | loadProfile => exact writeProfile_keeps (by decide) none _
  | loadStations => intro p hp; cases p <;> first | rfl | exact absurd (by decide) hp
  | loadScheme => exact writeScheme_keeps (by decide) none _ _ _
  | loadGroup => exact putGroup_keeps (by decide) none _ _
  | loadBin => exact putBin_keeps (by decide) none _ _

end Sys2Proof.Machine
end

section
/-! Every command is a work, and at most the forwarding of its frame (R161, R165). -/

namespace Sys2Proof.Machine

/-- Some work leads from one state to the other. -/
def Works (s t : State) : Prop := ∃ l, Work l s t

theorem Work.works {l : List Part} {s t : State} (w : Work l s t) : Works s t := ⟨l, w⟩

theorem Works.answer {s t : State} (tag : Byte) (code : AnswerCode) (content : List Byte) (w : Works s t) :
    Works s (sendAnswer tag code content t) := let ⟨_, h⟩ := w; (h.answer tag code content).works

/-- A request that is refused does no work but its ANSWER. -/
theorem refused_works (tag : Byte) (code : AnswerCode) (content : List Byte) (s : State) :
    Works s (sendAnswer tag code content s) := (Work.none s).works.answer ..

/-! ### The requests (R165) -/

section
variable (tag : Byte) (operands : List Byte) (s : State)

theorem recordRequest_works : Works s (recordRequest tag operands s) := by
  unfold recordRequest
  split
  next hr => exact (Work.accept hr).works
  · exact (Work.alert _ s).works.answer ..
  · exact refused_works ..

theorem loadProfileRequest_works : Works s (loadProfileRequest tag operands s) := by
  unfold loadProfileRequest
  split
  next hs =>
    split
    · exact refused_works ..
    · split
      next hr =>
        split
        · exact refused_works ..
        next hu => exact (Work.loadProfile (by simpa using hs) hr (by simpa using hu)).works.answer ..
      · exact refused_works ..
  · exact refused_works ..

theorem loadStationRequest_works : Works s (loadStationRequest tag operands s) := by
  unfold loadStationRequest
  split
  · split
    · exact refused_works ..
    · dsimp only
      split
      next h =>
        simp only [Bool.and_eq_true] at h
        obtain ⟨-, ht⟩ := h
        exact (Work.loadStations ht).works.answer ..
      · exact refused_works ..
  · exact refused_works ..

theorem loadSchemeRequest_works : Works s (loadSchemeRequest tag operands s) := by
  unfold loadSchemeRequest
  split
  · exact refused_works ..
  · split
    · exact refused_works ..
    · split
      next hp => exact (Work.loadScheme _ _ hp).works.answer ..
      · exact refused_works ..

theorem loadGroupRequest_works : Works s (loadGroupRequest tag operands s) := by
  unfold loadGroupRequest
  split
  · exact refused_works ..
  next hf =>
    split
    next hr =>
      split
      · exact refused_works ..
      · exact (Work.loadGroup hf hr).works.answer ..
    · exact refused_works ..

theorem loadBinRequest_works : Works s (loadBinRequest tag operands s) := by
  unfold loadBinRequest
  split
  · exact refused_works ..
  · split
    next hr =>
      split
      next hb =>
        simp only [Bool.and_eq_true, Bool.not_eq_true'] at hb
        exact (Work.loadBin hr hb.2).works.answer ..
      · exact refused_works ..
    · exact refused_works ..

theorem loadRequest_works (table : Byte) : Works s (loadRequest tag table operands s) := by
  unfold loadRequest
  split
  · exact loadProfileRequest_works ..
  · exact loadStationRequest_works ..
  · exact loadSchemeRequest_works ..
  · exact loadGroupRequest_works ..
  · exact loadBinRequest_works ..
  · exact refused_works ..

theorem queryRequest_works (bound : Nat) (content : Nat → State → List Byte) :
    Works s (queryRequest bound content tag operands s) := by
  unfold queryRequest
  split <;> exact refused_works ..

theorem querySubject_works (subject : Byte) : Works s (querySubject tag subject operands s) := by
  unfold querySubject
  split
  case h_13 => exact refused_works ..
  all_goals exact queryRequest_works ..

theorem plainRequest_works {taken : Bool} {work : State → State} (h : taken = true → Works s (work s)) :
    Works s (plainRequest taken work tag operands s) := by
  unfold plainRequest
  split
  next ht =>
    split
    · exact (h ht).answer ..
    · exact refused_works ..
  · exact refused_works ..

theorem openRunRequest_works : Works s (openRunRequest tag operands s) := by
  unfold openRunRequest
  split
  · exact refused_works ..
  next hl =>
    split
    · exact (Work.openRun _ (by simpa using hl)).works.answer ..
    · exact refused_works ..

theorem startRequest_works : Works s (startRequest tag operands s) :=
  plainRequest_works _ _ _ fun h => (Work.start (by simpa using h)).works

theorem pauseRequest_works : Works s (pauseRequest tag operands s) :=
  plainRequest_works _ _ _ fun h => (Work.pause (by simpa using h)).works

theorem resumeRequest_works : Works s (resumeRequest tag operands s) :=
  plainRequest_works _ _ _ fun h => by
    simp only [Bool.or_eq_true, Bool.and_eq_true, beq_iff_eq] at h
    exact (Work.resume (h.imp_right And.left)).works

theorem flushRequest_works : Works s (flushRequest tag operands s) := by
  unfold flushRequest
  split
  · exact refused_works ..
  next he => exact plainRequest_works _ _ _ fun h => (Work.flush (by simpa using he) (by simpa using h)).works

theorem abortRequest_works : Works s (abortRequest tag operands s) :=
  plainRequest_works _ _ _ fun h => (Work.abort (by simpa using h)).works

theorem closeRunRequest_works : Works s (closeRunRequest tag operands s) :=
  plainRequest_works _ _ _ fun h => (Work.closeRun (by simpa using h)).works

theorem resetLineRequest_works : Works s (resetLineRequest tag operands s) :=
  plainRequest_works _ _ _ fun _ => (Work.resetLine s).works

theorem clearSlotsRequest_works : Works s (clearSlotsRequest tag operands s) := by
  unfold clearSlotsRequest
  split
  next hs =>
    split
    next hc => exact (Work.clearSlots hs hc).works.answer ..
    · exact refused_works ..
  · exact refused_works ..

theorem skipRequest_works : Works s (skipRequest tag operands s) := by
  unfold skipRequest
  split
  next hs =>
    split
    · exact (Work.skip _ (by simpa using hs)).works.answer ..
    · exact refused_works ..
  · exact refused_works ..

theorem stationModeRequest_works : Works s (stationModeRequest tag operands s) := by
  unfold stationModeRequest
  dsimp only
  split
  · exact refused_works ..
  · split
    · exact refused_works ..
    · split
      · exact (Work.allModes _ s).works.answer ..
      · split
        next he => exact (Work.mode _ he).works.answer ..
        · exact refused_works ..

theorem lt_of_binLoaded {b : Nat} {s : State} (h : binLoaded b s = true) : b < 32 := by
  simp only [binLoaded, Bool.and_eq_true, decide_eq_true_eq] at h
  omega

theorem binOnRequest_works (bin : Byte) : Works s (binOnRequest tag bin s) := by
  unfold binOnRequest
  split
  next hb => exact (Work.binOn (lt_of_binLoaded hb)).works.answer ..
  · exact refused_works ..

theorem binOffRequest_works (bin : Byte) : Works s (binOffRequest tag bin s) := by
  unfold binOffRequest
  split
  next hb => exact (Work.binOff (lt_of_binLoaded hb)).works.answer ..
  · exact refused_works ..

theorem binModeRequest_works : Works s (binModeRequest tag operands s) := by
  unfold binModeRequest
  split
  · split
    · exact binOnRequest_works ..
    · split
      · exact binOffRequest_works ..
      · exact refused_works ..
  · exact refused_works ..

theorem relearnRequest_works : Works s (relearnRequest tag operands s) := by
  unfold relearnRequest
  dsimp only
  split
  · exact refused_works ..
  · split
    · exact (Work.relearnAll s).works.answer ..
    · split
      next hi => exact (Work.relearn (Nat.lt_succ_of_le hi) s).works.answer ..
      · exact refused_works ..

theorem ackRequest_works : Works s (ackRequest tag operands s) := by
  unfold ackRequest
  split
  · split
    · exact (Work.ack _ s).works.answer ..
    · exact refused_works ..
  · exact refused_works ..

theorem controlRequest_works (operation : Byte) : Works s (controlRequest tag operation operands s) := by
  unfold controlRequest
  split
  · exact openRunRequest_works ..
  · exact startRequest_works ..
  · exact pauseRequest_works ..
  · exact resumeRequest_works ..
  · exact flushRequest_works ..
  · exact abortRequest_works ..
  · exact closeRunRequest_works ..
  · exact resetLineRequest_works ..
  · exact clearSlotsRequest_works ..
  · exact skipRequest_works ..
  · exact stationModeRequest_works ..
  · exact binModeRequest_works ..
  · exact relearnRequest_works ..
  · exact ackRequest_works ..
  · exact refused_works ..

theorem logReadRequest_works : Works s (logReadRequest tag operands s) := by
  unfold logReadRequest
  split
  · dsimp only
    refine Works.answer _ _ _ ?_
    split
    next h => rw [List.isEmpty_iff.mp h]; exact (Work.none s).works
    · exact (Work.logRead _ s).works
  · exact refused_works ..

theorem reprintReadRequest_works : Works s (reprintReadRequest tag operands s) := by
  unfold reprintReadRequest
  split
  · exact (Work.reprintRead _ s).works.answer ..
  · exact refused_works ..

theorem managementWork_works (kind : Byte) (payload : List Byte) : Works s (managementWork kind payload s) := by
  unfold managementWork
  split
  · exact (Work.free s).works.answer ..
  · split
    · exact recordRequest_works ..
    · exact loadRequest_works ..
    · exact querySubject_works ..
    · exact controlRequest_works ..
    · exact logReadRequest_works ..
    · exact reprintReadRequest_works ..
    · exact refused_works ..

end

/-! ### The reports -/

theorem stationFor_some {k : StationKind} {src : Node} {s : State} {i : Nat} {e : StationEntry}
    (h : stationFor k src s = some (i, e)) : stationAt i s = some e ∧ e.node = src.toNat ∧ e.kind = k := by
  unfold stationFor at h
  split at h
  next hn =>
    split at h
    next hk =>
      obtain ⟨rfl, rfl⟩ : _ = i ∧ _ = e := by simpa using h
      obtain ⟨-, he, hnode⟩ := stationOfNode_some hn
      exact ⟨he, hnode, hk⟩
    · exact absurd h (by simp)
  · exact absurd h (by simp)

section
variable {h : Header} {s t : State}

theorem scanAction_works {x : RawScan} (ha : scanAction h x s = some t) : Works s t := by
  unfold scanAction at ha
  split at ha
  · obtain rfl := Option.some.inj ha
    exact (Work.scan x s).works
  · exact absurd ha (by simp)

theorem statusAction_works {value : Byte} (ha : statusAction h value s = some t) : Works s t := by
  unfold statusAction at ha
  split at ha
  next he =>
    obtain rfl := Option.some.inj ha
    exact (Work.status value (stationOfNode_some he).2.1).works
  · exact absurd ha (by simp)

theorem slotAction_works {pitch occupancy : Byte} (ha : slotAction h pitch occupancy s = some t) : Works s t := by
  unfold slotAction at ha
  split at ha
  next he =>
    obtain rfl := Option.some.inj ha
    exact (Work.slot pitch occupancy (stationFor_some he).1).works
  · exact absurd ha (by simp)

theorem feedAction_works {tag result : Byte} (ha : feedAction h tag result s = some t) : Works s t := by
  unfold feedAction at ha
  split at ha
  next he =>
    obtain rfl := Option.some.inj ha
    exact (Work.feed tag result (stationFor_some he).1).works
  · exact absurd ha (by simp)

theorem envAction_works {tag result : Byte} (ha : envAction h tag result s = some t) : Works s t := by
  unfold envAction at ha
  split at ha
  next he =>
    obtain rfl := Option.some.inj ha
    exact (Work.envelope tag result (stationFor_some he).1).works
  · exact absurd ha (by simp)

theorem addrAction_works {tag result : Byte} {seq : BitVec 24} {inc : Byte}
    (ha : addrAction h tag result seq inc s = some t) : Works s t := by
  unfold addrAction at ha
  split at ha
  next he =>
    obtain rfl := Option.some.inj ha
    exact (Work.address tag result seq inc (stationFor_some he).1).works
  · exact absurd ha (by simp)

theorem binAction_works {event : Nat → State → State} (hw : ∀ b, b < 32 → Works s (event b s))
    (ha : binAction h event s = some t) : Works s t := by
  unfold binAction at ha
  split at ha
  next hb =>
    obtain rfl := Option.some.inj ha
    exact hw _ (binOfNode_some hb).1
  · exact absurd ha (by simp)

theorem binEventOf_works (value : Byte) {b : Nat} (hb : b < 32) (s : State) : Works s (binEventOf value b s) := by
  unfold binEventOf
  split
  · exact (Work.landed hb s).works
  · exact (Work.swept hb s).works
  · exact (Work.full hb s).works
  · exact (Work.none s).works

theorem reportAction_works {kind : Byte} {payload : List Byte} (ha : reportAction h kind payload s = some t) :
    Works s t := by
  unfold reportAction at ha
  split at ha
  · split at ha
    · exact scanAction_works ha
    · exact absurd ha (by simp)
  · exact feedAction_works ha
  · exact envAction_works ha
  · exact addrAction_works ha
  · exact slotAction_works ha
  · exact statusAction_works ha
  · exact binAction_works (fun _ hb => binEventOf_works _ hb s) ha
  · exact absurd ha (by simp)

theorem manage_works {work : State → State} (hw : Works s (work s)) (ha : manage h work s = some t) : Works s t := by
  unfold manage at ha
  split at ha
  · obtain rfl := Option.some.inj ha
    exact hw
  · exact absurd ha (by simp)

theorem frameAction_works {f : RingFrame} (ha : frameAction f s = some t) : Works s t := by
  unfold frameAction at ha
  split at ha
  · exact manage_works (managementWork_works ..) ha
  · exact reportAction_works ha

end

/-! ### The returns (R162) -/

theorem selectReturn_works (dst : Node) (tag : Nat) (s : State) : Works s (selectReturn dst tag s) := by
  unfold selectReturn
  split
  next hb => exact (Work.selectLost (binOfNode_some hb).1 tag s).works
  · exact (Work.none s).works

theorem markReturn_works (dst : Node) (s : State) : Works s (markReturn dst s) := by
  unfold markReturn
  split
  · exact (Work.alert _ s).works
  · exact (Work.none s).works

theorem untakenReturn_works (dst : Node) (kind : Byte) (payload : List Byte) (s : State) :
    Works s (untakenReturn dst kind payload s) := by
  unfold untakenReturn
  split
  · exact (Work.sheetLost ..).works
  · exact (Work.absent dst s).works
  · exact (Work.absent dst s).works
  · exact (Work.feedLost ..).works
  · exact (Work.envelopeLost ..).works
  · exact (Work.armLost ..).works
  · exact (Work.divertLost ..).works
  · exact selectReturn_works ..
  · exact markReturn_works ..
  · exact (Work.none s).works

/-! ### The commands -/

/-- A command's work, after which its frame may go on. -/
def Ran (s t : State) : Prop := ∃ u, Works s u ∧ (t = u ∨ ∃ f, t = forwardFrame f u)

theorem Works.ran {s t : State} (w : Works s t) : Ran s t := ⟨t, w, .inl rfl⟩

theorem deliver_ran {f : RingFrame} {action : State → Option State} {s : State}
    (hw : ∀ t, action s = some t → Works s t) : Ran s (deliver f action s) := by
  have idle : Works s s := (Work.none s).works
  unfold deliver
  split
  · exact idle.ran
  · split
    · split
      next ha => exact ⟨_, hw _ ha, .inr ⟨_, rfl⟩⟩
      · exact ⟨s, idle, .inr ⟨_, rfl⟩⟩
    · split
      · refine ⟨(action s).getD s, ?_, .inr ⟨_, rfl⟩⟩
        cases ha : action s with
        | none => exact idle
        | some t => exact hw t ha
      · exact ⟨s, idle, .inr ⟨_, rfl⟩⟩

theorem request_ran {h : Header} {kind : Byte} {payload : List Byte} {work : State → State} {s : State}
    (hw : Works s (work s)) : Ran s (request h kind payload work s) :=
  deliver_ran fun _ ha => manage_works hw ha

theorem receive_ran (f : RingFrame) (s : State) : Ran s (receive f s) := by
  unfold receive
  split
  · split
    · unfold takeReturn
      split
      · exact (Work.none s).works.ran
      · exact (untakenReturn_works ..).ran
    · exact (Work.none s).works.ran
  · exact deliver_ran fun _ ha => frameAction_works ha

theorem onReturn_ran {rule : State → State} {s : State} (hw : Works s (rule s)) : Ran s (onReturn rule s) := by
  unfold onReturn
  split
  · exact hw.ran
  · exact (Work.none s).works.ran

/-- A forward pulse of an open run is an advance, or one pulse more (R59, R60). -/
theorem forwardPulse_works {s : State} (hopen : s.line.state ≠ .idle) : Works s (forwardPulse s) := by
  unfold forwardPulse
  dsimp only
  split
  next hdue => exact (Work.advance hopen hdue).works
  next hdue => exact (Work.forward hopen hdue).works

theorem runOpen_iff {s : State} : runOpen s = true ↔ s.line.state ≠ .idle := by simp [runOpen]

theorem encoderStep_works (e : EncoderStep) (s : State) : Works s (encoderStep e s) := by
  unfold encoderStep
  split
  · split
    next h => exact forwardPulse_works (runOpen_iff.mp h)
    · exact (Work.none s).works
  · split
    · exact (Work.reverse s).works
    · exact (Work.none s).works
  · exact (Work.encoderError s).works

/-- A pulse that stands for an event happens in an open run, or not at all. -/
theorem advanceDue_works {c : Bool} {s : State} (h : c = true → advanceDue s = true) :
    Works s (if c then forwardPulse s else s) := by
  split
  next hc =>
    have hdue := h hc
    simp only [advanceDue, Bool.and_eq_true] at hdue
    exact forwardPulse_works (runOpen_iff.mp hdue.1)
  · exact (Work.none s).works

/-- What a command taken while RESET_N is high answers. -/
theorem take_ran {work : State → State} {s t : State} (h : take work s = .next t) (hr : Ran s (work s)) : Ran s t := by
  obtain rfl : whileHigh work s = t := by simpa [take] using h
  unfold whileHigh
  split
  · exact hr
  · exact (Work.none s).works.ran

/-- A command but a change of RESET_N does the work of its block, and its frame may go on. -/
theorem exec_ran {c : Instr} {s t : State} (hlow : c ≠ .resetNLow) (hhigh : ∀ straps signal, c ≠ .resetNHigh straps signal)
    (h : exec c s = .next t) : Ran s t := by
  cases c with
  | resetNLow => exact absurd rfl hlow
  | resetNHigh straps signal => exact absurd rfl (hhigh straps signal)
  | encoderPulse e => exact take_ran h (encoderStep_works e s).ran
  | pitchAdvance => exact take_ran h (advanceDue_works id).ran
  | windowCloseByPassing =>
    refine take_ran h ?_
    split
    · exact (Work.passWindows s).works.ran
    · exact (Work.none s).works.ran
  | sorterTimeout =>
    exact take_ran h (advanceDue_works fun hc => (Bool.and_eq_true_iff.mp hc).1).ran
  | drainComplete => exact take_ran h (Work.drain s).works.ran
  | frameCheckFail bytes =>
    refine take_ran h ?_
    split
    · exact (Work.none s).works.ran
    · exact receive_ran ..
  | forwardFrame f => exact take_ran h (receive_ran f s)
  | ringOutSend => exact take_ran h (Work.send s).works.ran
  | linkLoss =>
    refine take_ran h ?_
    split
    · exact (Work.loseLink s).works.ran
    · exact (Work.none s).works.ran
  | linkReturn =>
    refine take_ran h ?_
    split
    · exact (Work.none s).works.ran
    · exact (Work.regainLink s).works.ran
  | record => exact take_ran h (request_ran (recordRequest_works ..))
  | loadProfile => exact take_ran h (request_ran (loadProfileRequest_works ..))
  | loadStation => exact take_ran h (request_ran (loadStationRequest_works ..))
  | loadScheme => exact take_ran h (request_ran (loadSchemeRequest_works ..))
  | loadGroup => exact take_ran h (request_ran (loadGroupRequest_works ..))
  | loadBin => exact take_ran h (request_ran (loadBinRequest_works ..))
  | queryRun | queryQueue | queryTrack | queryPiece | queryStation | queryBin | queryGroup | queryScheme | queryStock
  | queryLog | queryReprint | queryAlerts => exact take_ran h (request_ran (queryRequest_works ..))
  | openRun => exact take_ran h (request_ran (openRunRequest_works ..))
  | start => exact take_ran h (request_ran (startRequest_works ..))
  | pause => exact take_ran h (request_ran (pauseRequest_works ..))
  | resume => exact take_ran h (request_ran (resumeRequest_works ..))
  | flush => exact take_ran h (request_ran (flushRequest_works ..))
  | abort => exact take_ran h (request_ran (abortRequest_works ..))
  | closeRun => exact take_ran h (request_ran (closeRunRequest_works ..))
  | resetLine => exact take_ran h (request_ran (resetLineRequest_works ..))
  | clearSlots => exact take_ran h (request_ran (clearSlotsRequest_works ..))
  | skipRecord => exact take_ran h (request_ran (skipRequest_works ..))
  | stationMode => exact take_ran h (request_ran (stationModeRequest_works ..))
  | binModeOn => exact take_ran h (request_ran (binOnRequest_works ..))
  | binModeOff => exact take_ran h (request_ran (binOffRequest_works ..))
  | relearn => exact take_ran h (request_ran (relearnRequest_works ..))
  | ackAlert => exact take_ran h (request_ran (ackRequest_works ..))
  | logRead => exact take_ran h (request_ran (logReadRequest_works ..))
  | reprintRead => exact take_ran h (request_ran (reprintReadRequest_works ..))
  | unknownManagementRequest => exact take_ran h (request_ran (managementWork_works ..))
  | sheetScan => exact take_ran h (deliver_ran fun _ ha => scanAction_works ha)
  | stationStatus => exact take_ran h (deliver_ran fun _ ha => statusAction_works ha)
  | slotReport => exact take_ran h (deliver_ran fun _ ha => slotAction_works ha)
  | feedResult => exact take_ran h (deliver_ran fun _ ha => feedAction_works ha)
  | envResult => exact take_ran h (deliver_ran fun _ ha => envAction_works ha)
  | addrScan => exact take_ran h (deliver_ran fun _ ha => addrAction_works ha)
  | landed => exact take_ran h (deliver_ran fun _ ha => binAction_works (fun _ hb => (Work.landed hb s).works) ha)
  | swept => exact take_ran h (deliver_ran fun _ ha => binAction_works (fun _ hb => (Work.swept hb s).works) ha)
  | full => exact take_ran h (deliver_ran fun _ ha => binAction_works (fun _ hb => (Work.full hb s).works) ha)
  | otherBinEvent =>
    exact take_ran h (deliver_ran fun _ ha => binAction_works (fun _ hb => binEventOf_works _ hb s) ha)
  | frameReturn => exact take_ran h (receive_ran ..)
  | sheetActionUntaken => exact take_ran h (onReturn_ran (Work.sheetLost ..).works)
  | foldSetUntaken | feedPermitUntaken => exact take_ran h (onReturn_ran (Work.absent ..).works)
  | feedCmdUntaken => exact take_ran h (onReturn_ran (Work.feedLost ..).works)
  | envCmdUntaken => exact take_ran h (onReturn_ran (Work.envelopeLost ..).works)
  | scanArmUntaken => exact take_ran h (onReturn_ran (Work.armLost ..).works)
  | divertCmdUntaken => exact take_ran h (onReturn_ran (Work.divertLost ..).works)
  | binSelectUntaken => exact take_ran h (onReturn_ran (selectReturn_works ..))
  | bundleMarkUntaken => exact take_ran h (onReturn_ran (markReturn_works ..))
  | flowFrameUntaken => exact take_ran h (onReturn_ran (untakenReturn_works ..))

/-- An invariant that survives the works, the forwarding of a frame, a change of RESET_N and a change of the queue of commands
survives every step. -/
theorem step_keeps {P : State → Prop} {s t : State} (hpending : ∀ s l, P s → P (s.setPending l))
    (hreset : ∀ high straps signal s, P s → P (powerOnKeeping high straps signal s))
    (hforward : ∀ f s, P s → P (forwardFrame f s)) (hwork : ∀ l s t, Work l s t → P s → P t) (hs : P s)
    (h : step s = .next t) : P t := by
  unfold step at h
  split at h
  · obtain rfl : s = t := by simpa using h
    exact hs
  next c rest hc =>
    have hq := hpending s rest hs
    by_cases hlow : c = .resetNLow
    · subst hlow
      obtain rfl : holdReset (s.setPending rest) = t := by simpa [exec, execResetNLow] using h
      exact hreset _ _ _ _ hq
    by_cases hhigh : ∀ straps signal, c ≠ .resetNHigh straps signal
    · obtain ⟨u, ⟨l, hu⟩, rfl | ⟨f, rfl⟩⟩ := exec_ran hlow hhigh h
      · exact hwork _ _ _ hu hq
      · exact hforward _ _ (hwork _ _ _ hu hq)
    · push Not at hhigh
      obtain ⟨straps, signal, rfl⟩ := hhigh
      obtain rfl : releaseReset straps signal (s.setPending rest) = t := by simpa [exec, execResetNHigh] using h
      unfold releaseReset
      split
      · exact hq
      · exact hreset _ _ _ _ hq

end Sys2Proof.Machine
end

section
/-! The moves that the works are made of. Each operation is a chain of moves of a few kinds, and an invariant is proved once for
each kind. Between two operations the part may hold one record that it has taken off the line and neither disposed nor placed yet,
and the feed permit may be due for its re-evaluation (R124, R134, R157). -/

namespace Sys2Proof.Machine

/-! ### Operations that touch nothing an invariant counts -/

/-- The parts that no invariant but the bounds of the two queues of RING OUT and the station addresses reads. -/
abbrev quietParts : List Part :=
  [.own, .forward, .linkUp, .out, .held, .alerts, .strays, .position, .boundary, .pitch, .encoderErrors, .stocks, .stations,
    .nextSerial, .jamSlot, .divertSerials, .logLost, .freeIndex]

/-- Nothing is changed but frames, alerts, the entries of stations at their nodes and the like. -/
structure Quiet (s t : State) : Prop where
  keeps : KeepsAllBut quietParts s t
  own : s.ring.own.length ≤ 32 → t.ring.own.length ≤ 32
  forward : s.ring.forward.length ≤ 8 → t.ring.forward.length ≤ 8
  nodes : ∀ i, (stationAt i t).map (·.node) = (stationAt i s).map (·.node)

theorem Quiet.refl (s : State) : Quiet s s := ⟨.start _ s, id, id, fun _ => rfl⟩

theorem Quiet.trans {s t u : State} (h : Quiet s t) (k : Quiet t u) : Quiet s u :=
  ⟨h.keeps.trans k.keeps, k.own ∘ h.own, k.forward ∘ h.forward, fun i => (k.nodes i).trans (h.nodes i)⟩

/-- A step that touches quiet parts only, and neither queue nor the station table. -/
theorem Quiet.of_keeps {l : List Part} {s t : State} (h : KeepsAllBut l s t) (hl : l ⊆ quietParts) (ho : Part.own ∉ l)
    (hf : Part.forward ∉ l) (hs : Part.stations ∉ l) : Quiet s t where
  keeps := h.more hl
  own := by rw [(h .own ho : t.ring.own = s.ring.own)]; exact id
  forward := by rw [(h .forward hf : t.ring.forward = s.ring.forward)]; exact id
  nodes i := by
    have e : t.track.stations = s.track.stations := h .stations hs
    simp only [stationAt, e]

theorem Quiet.fold {α : Type} {f : State → α → State} (hf : ∀ s a, Quiet s (f s a)) :
    ∀ (xs : List α) (s : State), Quiet s (xs.foldl f s)
  | [], s => .refl s
  | a :: xs, s => (hf s a).trans (Quiet.fold hf xs (f s a))

section
variable (s : State)

theorem pushOwn_quiet (dst : Node) (body : OwnBody) (h : ownFull s = false) : Quiet s (pushOwn dst body s) where
  keeps := pushOwn_keeps (by decide) (.start _ s) _ _
  own _ := by
    simp only [ownFull, Config.ownCapacity, decide_eq_false_iff_not, not_le] at h
    simpa [pushOwn] using h
  forward := id
  nodes _ := rfl

theorem sendPlain_quiet (dst : Node) (body : OwnBody) : Quiet s (sendPlain dst body s) := by
  unfold sendPlain
  split
  · exact .refl s
  next h => exact pushOwn_quiet s dst body (by simpa using h)

theorem sendSupervisor_quiet (body : OwnBody) : Quiet s (sendSupervisor body s) := by
  unfold sendSupervisor
  split
  · exact sendPlain_quiet ..
  · exact .refl s

theorem sendAnswer_quiet (tag : Byte) (code : AnswerCode) (content : List Byte) : Quiet s (sendAnswer tag code content s) :=
  Quiet.fold (fun s b => sendSupervisor_quiet s b) _ s

theorem setAlert_quiet (c : AlertClass) (a : Alert) : Quiet s (setAlert c a s) :=
  .of_keeps (setAlert_keeps (List.Subset.refl _) (.start _ s) c a) (by decide) (by decide) (by decide) (by decide)

theorem raiseAlert_quiet (d : AlertDetail) : Quiet s (raiseAlert d s) := by
  unfold raiseAlert
  dsimp only
  split
  · exact setAlert_quiet ..
  · exact (setAlert_quiet ..).trans (sendSupervisor_quiet ..)

theorem forwardFrame_quiet (f : RingFrame) : Quiet s (forwardFrame f s) := by
  unfold forwardFrame
  split
  · exact raiseAlert_quiet ..
  next h =>
    refine ⟨?_, id, fun _ => ?_, fun _ => rfl⟩
    · intro p hp
      cases p <;> first | rfl | exact absurd (by decide) hp
    · simp only [Config.forwardCapacity, not_le] at h
      simpa using h

/-- An entry of the station table changes, but for its node address. -/
theorem putStation_quiet {s : State} {i : Nat} {e x : StationEntry} (he : stationAt i s = some e) (hx : x.node = e.node) :
    Quiet s (putStation i (some x) s) where
  keeps := putStation_keeps (by decide) (.start _ s) _ _
  own := id
  forward := id
  nodes j := by
    rw [stationAt_putStation _ _ _ _ (stationAt_lt he)]
    split
    next hj => simp [hj, he, hx]
    · rfl

theorem markAbsent_quiet {s : State} {i : Nat} {e : StationEntry} (he : stationAt i s = some e) : Quiet s (markAbsent i e s) := by
  unfold markAbsent
  dsimp only
  split
  · exact putStation_quiet he rfl
  · refine Quiet.trans ?_ (raiseAlert_quiet ..)
    exact putStation_quiet he rfl

theorem nodeAbsent_quiet (dst : Node) : Quiet s (nodeAbsent dst s) := by
  unfold nodeAbsent
  split
  next he => exact markAbsent_quiet (stationOfNode_some he).2.1
  · exact .refl s

theorem sendStation_quiet (dst : Node) (body : OwnBody) : Quiet s (sendStation dst body s) := by
  unfold sendStation
  split
  · exact nodeAbsent_quiet ..
  next h => exact pushOwn_quiet s dst body (by simpa using h)

theorem lateReport_quiet {s : State} {i : Nat} {e : StationEntry} (he : stationAt i s = some e) : Quiet s (lateReport i e s) := by
  unfold lateReport
  dsimp only
  split
  · split
    · exact putStation_quiet he rfl
    · refine Quiet.trans ?_ (raiseAlert_quiet ..)
      exact putStation_quiet he rfl
  · exact putStation_quiet he rfl

theorem statusReport_quiet {s : State} {i : Nat} {e : StationEntry} (value : Byte) (he : stationAt i s = some e) :
    Quiet s (statusReport i e value s) := by
  unfold statusReport
  split
  · exact .refl s
  · exact putStation_quiet he rfl
  · dsimp only
    split
    · exact putStation_quiet he rfl
    · refine Quiet.trans ?_ (raiseAlert_quiet ..)
      exact putStation_quiet he rfl

theorem setHeld_quiet (b : Bool) : Quiet s (s.setChannel { s.channel with held := b }) := by
  refine .of_keeps (l := [.held]) ?_ (by decide) (by decide) (by decide) (by decide)
  intro p hp
  cases p <;> first | rfl | exact absurd (by decide) hp

theorem holdFlow_quiet : Quiet s (holdFlow s) := (setHeld_quiet s true).trans (sendSupervisor_quiet ..)

theorem releaseFlow_quiet : Quiet s (releaseFlow s) := (setHeld_quiet s false).trans (sendSupervisor_quiet ..)

theorem checkHold_quiet : Quiet s (checkHold s) := by
  unfold checkHold
  split
  · exact holdFlow_quiet s
  · exact .refl s

theorem checkGo_quiet : Quiet s (checkGo s) := by
  unfold checkGo
  split
  · exact releaseFlow_quiet s
  · exact .refl s

theorem checkMarks_quiet : Quiet s (checkMarks s) := by
  unfold checkMarks
  split
  · exact holdFlow_quiet s
  · exact checkGo_quiet s

theorem setLost_quiet (n : Nat) : Quiet s (setLost n s) :=
  .of_keeps (setLost_keeps (List.Subset.refl _) (.start _ s) n) (by decide) (by decide) (by decide) (by decide)

theorem noteDivert_quiet (serial : Nat) : Quiet s (noteDivert serial s) :=
  .of_keeps (noteDivert_keeps (List.Subset.refl _) (.start _ s) serial) (by decide) (by decide) (by decide) (by decide)

theorem sendBundleMark_quiet (b count : Nat) : Quiet s (sendBundleMark b count s) := by
  unfold sendBundleMark
  split
  · split
    · exact raiseAlert_quiet ..
    next h => exact pushOwn_quiet s _ _ (by simpa using h)
  · exact .refl s

theorem sendFold_quiet (panels : Nat) : Quiet s (sendFold panels s) := by
  unfold sendFold
  split
  · exact sendStation_quiet ..
  · exact .refl s

theorem putStock_quiet (i : Nat) (x : Stock) : Quiet s (putStock i x s) :=
  .of_keeps (putStock_keeps (List.Subset.refl _) (.start _ s) i x) (by decide) (by decide) (by decide) (by decide)

theorem emptyRings_quiet : Quiet s (emptyRings s) :=
  .of_keeps (emptyRings_keeps (List.Subset.refl _) (.start _ s)) (by decide) (by decide) (by decide) (by decide)

theorem setFree_quiet (n : Nat) : Quiet s (s.setFree n) := by
  refine .of_keeps (l := [.freeIndex]) ?_ (by decide) (by decide) (by decide) (by decide)
  intro p hp
  cases p <;> first | rfl | exact absurd (by decide) hp

theorem setStrays_quiet (n : Nat) : Quiet s (s.setCollation { s.collation with strays := n }) := by
  refine .of_keeps (l := [.strays]) ?_ (by decide) (by decide) (by decide) (by decide)
  intro p hp
  cases p <;> first | rfl | exact absurd (by decide) hp

theorem setPosition_quiet (n : Int) : Quiet s (s.setTrack { s.track with position := n }) := by
  refine .of_keeps (l := [.position]) ?_ (by decide) (by decide) (by decide) (by decide)
  intro p hp
  cases p <;> first | rfl | exact absurd (by decide) hp

theorem setJamSlot_quiet (n : Option Nat) : Quiet s (s.setTrack { s.track with jamSlot := n }) := by
  refine .of_keeps (l := [.jamSlot]) ?_ (by decide) (by decide) (by decide) (by decide)
  intro p hp
  cases p <;> first | rfl | exact absurd (by decide) hp

end

/-! ### The moves -/

/-- A record that the part has taken off the line: its sequence, the reprint entries that the reserve gate keeps for it (R27), and
whether its QUEUED entry still stands in the Reprint List. -/
structure Item where
  seq : Nat
  weight : Nat
  queued : Bool

/-- A record taken from a pocket or from the track, for which one reprint entry is kept. -/
abbrev Item.loose (seq : Nat) : Item := ⟨seq, 1, false⟩

/-- The effect on the Reprint List with which a record may be disposed (R123, R128). -/
def Item.Takes (x : Item) : EntryEffect → Prop
  | .none => x.queued = false
  | .create seq _ _ => seq = x.seq ∧ x.queued = false ∧ x.weight = 1
  | .reopen seq _ => seq = x.seq ∧ x.queued = true

/-- What a move on the track keeps of a piece. -/
def Piece.mark (p : Piece) : Nat × SchemeMatch := (p.job.seq, p.scheme)

/-- The pieces on the track by their marks, in slot order. -/
def trackMarks (s : State) : List (Nat × SchemeMatch) := s.track.slots.filterMap (·.map Piece.mark)

/-- The counts and the node of a bin are the same in both, as are its flights. -/
structure Bin.Alike (x y : Bin) : Prop where
  node : y.node = x.node
  capacity : y.capacity = x.capacity
  landed : y.landed = x.landed
  committed : y.committed = x.committed
  flights : y.flights = x.flights

theorem Bin.Alike.refl (x : Bin) : x.Alike x := ⟨rfl, rfl, rfl, rfl, rfl⟩

/-- One move: the record held before and after it, and whether the feed permit is due before and after it. -/
inductive Move : Option Item → Bool → State → Option Item → Bool → State → Prop
  | quiet {i : Option Item} {d : Bool} {s t : State} (h : Quiet s t) : Move i d s i d t
  | due {i : Option Item} {d : Bool} {s : State} : Move i d s i true s
  | permit {i : Option Item} {d : Bool} {s : State} :
      Move i d s i false (s.setLine { s.line with permit := permitConditions s })
  | stop {i : Option Item} {d : Bool} {s : State} (r : StopReason) (h : r.takenIn s.line.state = true) :
      Move i d s i true (s.setLine { s.line with state := r.target, reason := some r, drive := r.target.drives })
  | close {d : Bool} {s : State} (hs : s.line.state = .draining ∨ (s.line.state ≠ .idle ∧ s.line.ending = true))
      (h : drained s = true) :
      Move none d s none true
        (s.setLine { s.line with state := .closed, reason := none, drive := RunState.closed.drives })
  | log {i : Option Item} {d : Bool} {s : State} (b : LogBody) (h : b.length ≤ logFree s) : Move i d s i true (appendLog b s)
  | bin {i : Option Item} {d : Bool} {s : State} {b : Nat} {x : Bin} (hb : b < 32) (h : (binAt b s).Alike x) :
      Move i d s i d (putBin b x s)
  | sweep {i : Option Item} {d : Bool} {s : State} {b : Nat} {x : Bin} (hb : b < 32)
      (h : ({ binAt b s with landed := 0, committed := (binAt b s).flights.length } : Bin).Alike x) :
      Move i d s i d (putBin b x s)
  | drop {d : Bool} {s : State} {b : Nat} {f : Flight} (hb : b < 32) (h : f ∈ (binAt b s).flights) :
      Move none d s (some ⟨f.seq, 0, false⟩) d (dropFlight b f s)
  | land {d : Bool} {s : State} {b : Nat} {f : Flight} {rest : List Flight} (hb : b < 32)
      (h : (binAt b s).flights = f :: rest) :
      Move none d s (some ⟨f.seq, 0, false⟩) d
        (putBin b { binAt b s with flights := rest, landed := (binAt b s).landed + 1 } s)
  | select {d : Bool} {s : State} {b : Nat} {f : Flight} (hb : b < 32) (h : (binAt b s).accepts = true) :
      Move (some (.loose f.seq)) d s none d (putBin b ((binAt b s).select f) s)
  | head {d : Bool} {s : State} {r : JobRecord} {w : Nat} (h : s.queue.records.head? = some r)
      (hw : w = 0 ∨ (w = 1 ∧ r.reprint = false ∧ inFlightCount s < reprintFree s)) :
      Move none d s (some ⟨r.seq, w, r.reprint⟩) (d || s.queue.records.tail.isEmpty)
        (s.setQueue { s.queue with records := s.queue.records.tail })
  | dispose {d : Bool} {s : State} {x : Item} (c : Disposition) {e : EntryEffect} (h : x.Takes e) :
      Move (some x) d s none (d || (applyEntry e (countDisposition c s)).reprints.length != s.reprints.length)
        (applyEntry e (countDisposition c s))
  | release {d : Bool} {s : State} {seq : Nat} :
      Move (some ⟨seq, 0, true⟩) d s (some (.loose seq)) true
        (s.setReprints (s.reprints.eraseP (ReprintEntry.isQueued seq)))
  | collecting {i : Option Item} {d : Bool} {s : State} (x : Collecting)
      (h : x.held.map (·.job.seq) = s.collation.collecting.held.map (·.job.seq)) : Move i d s i d (setCollecting x s)
  | takeCollecting {d : Bool} {s : State} {c : Collation} (h : s.collation.collecting.held = [c]) :
      Move none d s (some (.loose c.job.seq)) d (setCollecting .empty s)
  | putCollecting {d : Bool} {s : State} (c : Collation) (h : s.collation.collecting = .empty) :
      Move (some (.loose c.job.seq)) d s none d (setCollecting (.collecting c) s)
  | staging {i : Option Item} {d : Bool} {s : State} (x : Option Collation)
      (h : x.map (·.job.seq) = s.collation.staging.map (·.job.seq)) : Move i d s i d (setStaging x s)
  | takeStaging {d : Bool} {s : State} {c : Collation} (h : s.collation.staging = some c) :
      Move none d s (some (.loose c.job.seq)) d (setStaging none s)
  | putStaging {d : Bool} {s : State} (c : Collation) (h : s.collation.staging = none) :
      Move (some (.loose c.job.seq)) d s none d (setStaging (some c) s)
  | slots {i : Option Item} {d : Bool} {s t : State} (h : KeepsAllBut [.slots] s t) (hm : trackMarks t = trackMarks s)
      (hlen : s.track.slots ≠ [] → t.track.slots.length = s.track.slots.length) : Move i d s i d t
  | leave {d : Bool} {s : State} {n : Nat} {p : Piece} (h : pieceAt n s = some p) :
      Move none d s (some (.loose p.job.seq)) d (lowerMatchCounts p.scheme (putSlot n none s))
  | enter {d : Bool} {s : State} {p : Piece} (h : s.track.slots[0]? = some none) :
      Move (some (.loose p.job.seq)) d s none d
        (raiseMatchCounts p.scheme (s.setTrack { s.track with slots := s.track.slots.set 0 (some p) }))

/-- A chain of moves. -/
inductive Moves (i : Option Item) (d : Bool) (s : State) : Option Item → Bool → State → Prop
  | start : Moves i d s i d s
  | step {i₁ i₂ : Option Item} {d₁ d₂ : Bool} {t u : State} (h : Moves i d s i₁ d₁ t) (m : Move i₁ d₁ t i₂ d₂ u) :
      Moves i d s i₂ d₂ u

theorem Moves.trans {i i₁ i₂ : Option Item} {d d₁ d₂ : Bool} {s t u : State} (h : Moves i d s i₁ d₁ t)
    (k : Moves i₁ d₁ t i₂ d₂ u) : Moves i d s i₂ d₂ u := by
  induction k with
  | start => exact h
  | step _ m ih => exact ih.step m

end Sys2Proof.Machine
end

section
/-! Every operation is a chain of moves. Each lemma continues a chain that led to the state the operation starts from. -/

namespace Sys2Proof.Machine

section
variable {a i : Option Item} {c d : Bool} {r s : State}

theorem Moves.quiet {t : State} (m : Moves a c r i d s) (h : Quiet s t) : Moves a c r i d t := m.step (.quiet h)

/-- A permit that is not due counts as due, too. -/
theorem Moves.relax (m : Moves a c r i false s) : Moves a c r i d s := by
  cases d with
  | false => exact m
  | true => exact m.step .due

theorem Moves.fold {α : Type} {f : State → α → State} {j : Option Item} {e : Bool}
    (hf : ∀ s x, Moves a c r j e s → Moves a c r j e (f s x)) :
    ∀ (xs : List α) {s : State}, Moves a c r j e s → Moves a c r j e (xs.foldl f s)
  | [], _, m => m
  | x :: xs, _, m => Moves.fold hf xs (hf _ x m)

/-! ### The line and the log -/

theorem evalPermit_clears (m : Moves a c r i d s) : Moves a c r i false (evalPermit s) := by
  have k : Moves a c r i false (s.setLine { s.line with permit := permitConditions s }) := m.step .permit
  unfold evalPermit
  split
  next h =>
    rw [h] at k
    exact k
  · dsimp only
    split
    · exact k.quiet (sendStation_quiet ..)
    · exact k

theorem evalPermit_moves (m : Moves a c r i d s) : Moves a c r i d (evalPermit s) := (evalPermit_clears m).relax

theorem requestStop_moves (reason : StopReason) (m : Moves a c r i d s) : Moves a c r i d (requestStop reason s) := by
  unfold requestStop
  split
  next h => exact (evalPermit_clears (m.step (.stop reason h))).relax
  · exact m

theorem length_setLost (n : Nat) (s : State) : logFree (setLost n s) = logFree s := rfl

theorem logFree_appendLog (b : LogBody) (s : State) : logFree (appendLog b s) = logFree s - b.length := by
  simp only [logFree, logUsed, appendLog, State.setLog_log, List.map_append, List.map_cons, List.map_nil,
    List.sum_append, List.sum_cons, List.sum_nil, LogRecord.length]
  omega

theorem writeLog_moves (b : LogBody) (m : Moves a c r i d s) : Moves a c r i d (writeLog b s) := by
  unfold writeLog
  split
  · split
    next h => exact (evalPermit_clears (m.step (.log b h))).relax
    · exact (m.quiet (setLost_quiet ..)).quiet (raiseAlert_quiet ..)
  · split
    next h =>
      have k : Moves a c r i true (setLost 0 (appendLog (.overflow s.log.lost) s)) :=
        (m.step (.log (.overflow s.log.lost) (by simp only [LogBody.length]; omega))).quiet (setLost_quiet ..)
      refine (evalPermit_clears (k.step (.log b ?_))).relax
      rw [length_setLost, logFree_appendLog]
      have hlen : (LogBody.overflow s.log.lost).length = 2 := rfl
      omega
    · exact m.quiet (setLost_quiet ..)

/-! ### Dispositions -/

/-- A disposition disposes the record held (R124). -/
theorem dispose_moves {x : Item} (k : Disposition) {e : EntryEffect} (b : LogBody) (hx : x.Takes e)
    (m : Moves a c r (some x) d s) : Moves a c r none d (dispose k e b s) := by
  have m1 := writeLog_moves b (m.step (.dispose k hx))
  have hr : (writeLog b (applyEntry e (countDisposition k s))).reprints = (applyEntry e (countDisposition k s)).reprints :=
    (writeLog_keeps (List.Subset.refl writeParts) (.start _ _) b).reprints_eq (by decide)
  unfold dispose
  dsimp only
  split
  next hlen =>
    rw [hr] at hlen
    simpa [hlen] using m1
  · exact (evalPermit_clears m1).relax

theorem disposePiece_moves (k : Disposition) (cls : Option CaliperClass) (p : Piece)
    (m : Moves a c r (some (.loose p.job.seq)) d s) : Moves a c r none d (disposePiece k cls p s) := by
  refine dispose_moves k _ ?_ m
  split
  · rfl
  · exact ⟨rfl, rfl, rfl⟩

theorem disposeCollation_moves (k : Disposition) (x : Collation) (m : Moves a c r (some (.loose x.job.seq)) d s) :
    Moves a c r none d (disposeCollation k x s) := by
  refine dispose_moves k _ ?_ m
  split
  · rfl
  · exact ⟨rfl, rfl, rfl⟩

theorem disposeFlight_moves (k : Disposition) (b : Nat) (place : Option (Nat × Nat)) (f : Flight) {w : Nat}
    (m : Moves a c r (some ⟨f.seq, w, false⟩) d s) : Moves a c r none d (disposeFlight k b place f s) :=
  dispose_moves (x := ⟨f.seq, w, false⟩) (e := .none) k _ rfl m

/-! ### Bundles and the drain -/

theorem closeBundle_moves {b : Nat} (hb : b < 32) (cause : CloseCause) (m : Moves a c r i d s) :
    Moves a c r i d (closeBundle b cause s) := by
  unfold closeBundle
  split
  · exact m
  next u _ =>
    have k := (writeLog_moves (.bundle (bundleLog b cause u s)) m).step (Move.bin hb
      (x := { binAt b (writeLog (.bundle (bundleLog b cause u s)) s) with
        bundle := none, trayBundles := (binAt b (writeLog (.bundle (bundleLog b cause u s)) s)).trayBundles + 1 })
      ⟨rfl, rfl, rfl, rfl, rfl⟩)
    dsimp only
    split
    · exact k.quiet (sendBundleMark_quiet ..)
    · exact k

theorem closeIfOff_moves {b : Nat} (hb : b < 32) (m : Moves a c r i d s) : Moves a c r i d (closeIfOff b s) := by
  unfold closeIfOff
  split
  · exact closeBundle_moves hb _ m
  · exact m

theorem Moves.foldRange {f : State → Nat → State} {n : Nat}
    (hf : ∀ s x, x < n → Moves a c r i d s → Moves a c r i d (f s x)) (m : Moves a c r i d s) :
    Moves a c r i d ((List.range n).foldl f s) := by
  suffices h : ∀ (xs : List Nat), (∀ x ∈ xs, x < n) → ∀ {s}, Moves a c r i d s → Moves a c r i d (xs.foldl f s) from
    h _ (fun _ hx => List.mem_range.mp hx) m
  intro xs
  induction xs with
  | nil => exact fun _ _ m => m
  | cons x xs ih => exact fun h _ m => ih (fun y hy => h y (.tail _ hy)) (hf _ _ (h x (.head _)) m)

theorem closeBundles_moves (cause : CloseCause) (m : Moves a c r i d s) :
    Moves a c r i d ((List.range 32).foldl (fun s b => closeBundle b cause s) s) :=
  Moves.foldRange (fun _ _ hb m => closeBundle_moves hb cause m) m

/-- A drain completion of an ending run on which nothing is left (R152). -/
theorem completeDrain_moves (hs : s.line.state = .draining ∨ (s.line.state ≠ .idle ∧ s.line.ending = true))
    (hd : drained s = true) (m : Moves a c r none d s) : Moves a c r none d (completeDrain s) := by
  have hw := drainLog_wrote s
  have hd' : drained (drainLog s) = true := by
    rw [drained_iff] at hd ⊢
    obtain ⟨h1, h2, h3, h4⟩ := hd
    refine ⟨?_, ?_, ?_, fun b => ?_⟩
    · rw [(hw.keeps .collecting (by decide) : _ = s.collation.collecting)]; exact h1
    · rw [(hw.keeps .staging (by decide) : _ = s.collation.staging)]; exact h2
    · rw [(hw.keeps .slots (by decide) : _ = s.track.slots)]; exact h3
    · have hbins : binAt b (drainLog s) = (binAt b s).bundleClosed := by
        rw [← binAt_completeDrain, completeDrain_eq, binAt_eq_of_keeps (finishDrain_keeps _) (by decide)]
      rw [hbins]; exact h4 b
  have hs' : (drainLog s).line.state = .draining ∨
      ((drainLog s).line.state ≠ .idle ∧ (drainLog s).line.ending = true) := by
    rw [hw.state_eq, hw.keeps.ending_eq (by decide)]
    exact hs
  have k : Moves a c r none d (drainLog s) := writeLog_moves _ (closeBundles_moves .runEnd m)
  have k2 : Moves a c r none d (enterState .closed none (drainLog s)) :=
    (evalPermit_clears (k.step (.close hs' hd'))).relax
  rw [completeDrain_eq]
  exact k2.quiet (raiseAlert_quiet ..)

theorem drainCheck_moves (m : Moves a c r none d s) : Moves a c r none d (drainCheck s) := by
  rw [drainCheck_eq]
  split
  next h => exact completeDrain_moves (.inl h.1) h.2 m
  · exact m

/-! ### The record queue -/

/-- The head record is taken off the queue (R10). -/
theorem removeHead_moves {x : JobRecord} {w : Nat} (hx : s.queue.records.head? = some x)
    (hw : w = 0 ∨ (w = 1 ∧ x.reprint = false ∧ inFlightCount s < reprintFree s)) (m : Moves a c r none d s) :
    Moves a c r (some ⟨x.seq, w, x.reprint⟩) d (removeHead s) := by
  have k := (m.step (.head hx hw)).quiet (checkGo_quiet _)
  have hr : (checkGo (s.setQueue { s.queue with records := s.queue.records.tail })).queue.records = s.queue.records.tail :=
    (checkGo_keeps (l := [.own, .held]) (by decide) (.start _ _)).records_eq (by decide)
  unfold removeHead
  dsimp only
  split
  · exact (evalPermit_clears k).relax
  next h =>
    rw [hr] at h
    simpa [h] using k

/-- The effect of a record's UNFED disposition on the Reprint List (R12). -/
theorem unfedRecord_moves {x : JobRecord} (hx : s.queue.records.head? = some x) (m : Moves a c r none d s) :
    Moves a c r none d (unfedRecord x s) := by
  refine dispose_moves .unfed _ ?_ (removeHead_moves hx (.inl rfl) m)
  split
  next h => exact ⟨rfl, h⟩
  next h => simpa [Item.Takes] using h

theorem unfedRecord_records (x : JobRecord) (s : State) : (unfedRecord x s).queue.records = s.queue.records.tail := by
  unfold unfedRecord
  rw [(dispose_keeps (List.Subset.refl disposeParts) (.start _ _) _ _ _).records_eq (by decide), removeHead_records]

/-- The records of the queue are disposed UNFED from its head (R12). -/
theorem unfedRecords_moves : ∀ (l : List JobRecord) {s : State}, s.queue.records = l → Moves a c r none d s →
    Moves a c r none d (l.foldl (fun s x => unfedRecord x s) s)
  | [], _, _, m => m
  | x :: l, s, hs, m =>
    unfedRecords_moves l (by rw [unfedRecord_records, hs, List.tail_cons]) (unfedRecord_moves (by rw [hs]; rfl) m)

theorem unfedAll_moves (m : Moves a c r none d s) : Moves a c r none d (unfedAll s) :=
  evalPermit_moves (unfedRecords_moves _ rfl m)

theorem skipHead_moves {x : JobRecord} (hx : s.queue.records.head? = some x)
    (hg : x.reprint = true ∨ inFlightCount s < reprintFree s) (m : Moves a c r none d s) :
    Moves a c r none d (skipHead x s) := by
  have hw : (bif x.reprint then 0 else 1) = 0 ∨
      ((bif x.reprint then 0 else 1) = 1 ∧ x.reprint = false ∧ inFlightCount s < reprintFree s) := by
    cases hr : x.reprint <;> simp_all
  refine dispose_moves .skipped _ ?_ (removeHead_moves hx hw m)
  cases hr : x.reprint
  · exact ⟨rfl, rfl, rfl⟩
  · exact ⟨rfl, rfl⟩

theorem skipRecords_moves : ∀ (n : Nat) {s : State}, Moves a c r none d s → Moves a c r none d (skipRecords n s).1
  | 0, _, m => m
  | n + 1, s, m => by
    unfold skipRecords
    split
    · exact m
    next x hx =>
      split
      next hg =>
        rw [Bool.or_eq_true, decide_eq_true_eq] at hg
        exact skipRecords_moves n (skipHead_moves hx hg m)
      · exact m

/-! ### The exit and the sorter -/

theorem divertUntaken_moves (dst : Node) (serial : Nat) (m : Moves a c r i d s) :
    Moves a c r i d (divertUntaken dst serial s) :=
  requestStop_moves _ ((m.quiet (nodeAbsent_quiet ..)).quiet (raiseAlert_quiet ..))

theorem divertPiece_moves (k : Disposition) (cls : Option CaliperClass) (p : Piece)
    (m : Moves a c r (some (.loose p.job.seq)) d s) : Moves a c r none d (divertPiece k cls p s) := by
  unfold divertPiece
  dsimp only
  split
  · split
    · exact divertUntaken_moves _ _ (drainCheck_moves (disposePiece_moves k cls p m))
    next h =>
      refine drainCheck_moves (disposePiece_moves k cls p ((m.quiet (noteDivert_quiet s p.serial)).quiet
        (pushOwn_quiet _ _ _ ?_)))
      change ownFull s = false
      simpa using h
  · exact drainCheck_moves (disposePiece_moves k cls p m)

theorem setOff_moves {b : Nat} (hb : b < 32) (st : BinState) (m : Moves a c r i d s) :
    Moves a c r i d (putBin b { binAt b s with state := st } s) := m.step (.bin hb ⟨rfl, rfl, rfl, rfl, rfl⟩)

/-- A flight is taken off a bin and disposed LOST (R119, R120). -/
theorem loseFlight_moves {b : Nat} (hb : b < 32) {f : Flight} (hf : f ∈ (binAt b s).flights) (m : Moves a c r none d s) :
    Moves a c r none d (disposeFlight .lost b none f (dropFlight b f s)) :=
  disposeFlight_moves .lost b none f (m.step (.drop hb hf))

theorem selectUntaken_moves {b : Nat} (hb : b < 32) (tag : Nat) (m : Moves a c r none d s) :
    Moves a c r none d (selectUntaken b tag s) := by
  have k := setOff_moves hb .off m
  refine drainCheck_moves (closeIfOff_moves hb (Moves.quiet ?_ (raiseAlert_quiet ..)))
  split
  next f hf => exact loseFlight_moves hb (List.mem_of_find?_eq_some hf) k
  · exact k

theorem timeoutFlight_moves {b : Nat} (hb : b < 32) {f : Flight} (hf : f ∈ (binAt b s).flights) (m : Moves a c r none d s) :
    Moves a c r none d (timeoutFlight b f s) :=
  drainCheck_moves (closeIfOff_moves hb (requestStop_moves _ ((loseFlight_moves hb hf m).quiet (raiseAlert_quiet ..))))

theorem binAt_dropFlight {b : Nat} (hb : b < 32) (f : Flight) (s : State) (k : Nat) :
    binAt k (dropFlight b f s) = if k = b then
      { binAt b s with flights := (binAt b s).flights.erase f, committed := (binAt b s).committed - 1 } else binAt k s :=
  binAt_putBin b k _ s hb

theorem flights_closeIfOff {b : Nat} (hb : b < 32) (k : Nat) (s : State) :
    (binAt k (closeIfOff b s)).flights = (binAt k s).flights := by
  rw [closeIfOff_eq]
  split
  · rw [binAt_closeBundle hb (by decide)]
    split
    next h => rw [h]; rfl
    · rfl
  · rfl

theorem flights_drainCheck (k : Nat) (s : State) : (binAt k (drainCheck s)).flights = (binAt k s).flights := by
  rw [drainCheck_eq]
  split
  · rw [binAt_completeDrain]; rfl
  · rfl

/-- A timed-out flight leaves its bin's list, and no list changes besides (R119). -/
theorem flights_timeoutFlight {b : Nat} (hb : b < 32) (f : Flight) (k : Nat) (s : State) :
    (binAt k (timeoutFlight b f s)).flights = if k = b then (binAt b s).flights.erase f else (binAt k s).flights := by
  unfold timeoutFlight
  dsimp only
  have hstop (t : State) : binAt k (requestStop .sorter (raiseAlert (.timeout b) t)) = binAt k t :=
    binAt_eq_of_keeps (requestStop_keeps (List.Subset.refl stateParts) (raiseAlert_keeps (by decide) (.start _ t) _) _)
      (by decide) k
  rw [flights_drainCheck, flights_closeIfOff hb, hstop, binAt_disposeFlight, binAt_dropFlight hb]
  split <;> rfl

/-- Flights that stand in a list one by one are taken off it one by one. -/
theorem loseFlights_moves {b : Nat} {f : State → Flight → State}
    (hf : ∀ s x, x ∈ (binAt b s).flights → Moves a c r none d s → Moves a c r none d (f s x))
    (he : ∀ s x, (binAt b (f s x)).flights = (binAt b s).flights.erase x) :
    ∀ (l : List Flight) {s : State}, l.Subperm (binAt b s).flights → Moves a c r none d s → Moves a c r none d (l.foldl f s)
  | [], _, _, m => m
  | x :: l, s, hl, m => by
    refine loseFlights_moves hf he l ?_ (hf s x (hl.subset (.head _)) m)
    rw [he]
    simpa using hl.erase x

theorem timeoutBin_moves {b : Nat} (hb : b < 32) (m : Moves a c r none d s) : Moves a c r none d (timeoutBin b s) :=
  loseFlights_moves (fun _ _ hx m => timeoutFlight_moves hb hx m)
    (fun s x => by rw [flights_timeoutFlight hb, if_pos rfl]) _ (List.filter_sublist.subperm) m

theorem sorterTimeouts_moves (m : Moves a c r none d s) : Moves a c r none d (sorterTimeouts s) :=
  Moves.foldRange (fun _ _ hb m => timeoutBin_moves hb m) m

theorem lt_of_accepts {b : Nat} {s : State} (h : (binAt b s).accepts = true) : b < 32 := by
  by_contra hb
  rw [binAt_of_le (not_lt.mp hb)] at h
  exact absurd h (by decide)

theorem searchChain_some {g b : Nat} {s : State} (h : searchChain g s = some b) : (binAt b s).accepts = true :=
  List.find?_some (p := fun b => (binAt b s).accepts) h

theorem selectInto_moves {b : Nat} {f : Flight} (h : (binAt b s).accepts = true)
    (m : Moves a c r (some (.loose f.seq)) d s) : Moves a c r none d (selectInto b f s) := by
  have hb := lt_of_accepts h
  have k := m.step (.select hb h)
  unfold selectInto
  dsimp only
  split
  · split
    · exact selectUntaken_moves hb _ k
    next hroom => exact k.quiet (pushOwn_quiet _ _ _ (by simpa using hroom))
  · exact k

theorem selectBin_moves (p : Piece) (m : Moves a c r (some (.loose p.job.seq)) d s) : Moves a c r none d (selectBin p s) := by
  unfold selectBin
  dsimp only
  split
  next hb => exact selectInto_moves (searchChain_some hb) m
  · split
    next hb => exact selectInto_moves (searchChain_some hb) m
    · refine Moves.quiet ?_ (raiseAlert_quiet ..)
      exact divertPiece_moves _ _ _ m

theorem exitPiece_moves (p : Piece) (m : Moves a c r (some (.loose p.job.seq)) d s) : Moves a c r none d (exitPiece p s) := by
  unfold exitPiece
  split
  · exact divertPiece_moves _ _ _ m
  · exact selectBin_moves p m

/-! ### Landing, sweeps and BIN_MODE -/

theorem join_alike (f : Flight) (x : Bin) : x.Alike (x.join f) := by
  unfold Bin.join
  split <;> exact ⟨rfl, rfl, rfl, rfl, rfl⟩

theorem landPiece_moves {b : Nat} (hb : b < 32) {f : Flight} {rest : List Flight} (h : (binAt b s).flights = f :: rest)
    (m : Moves a c r none d s) : Moves a c r none d (landPiece b f rest s) := by
  have k : Moves a c r (some ⟨f.seq, 0, false⟩) d (takeHead b rest s) := m.step (.land hb h)
  have k2 : Moves a c r (some ⟨f.seq, 0, false⟩) d (breakKey b f (takeHead b rest s)) := by
    unfold breakKey
    split
    · exact closeBundle_moves hb _ k
    · exact k
  exact disposeFlight_moves .sorted b _ f (k2.step (.bin hb (join_alike f _)))

theorem landedAt_moves {b : Nat} (hb : b < 32) (m : Moves a c r none d s) : Moves a c r none d (landedAt b s) := by
  cases hf : (binAt b s).flights with
  | nil =>
    rw [landedAt_of_nil hf]
    exact m.quiet (raiseAlert_quiet ..)
  | cons f rest =>
    rw [landedAt_of_cons hf]
    have k := landPiece_moves hb hf m
    refine drainCheck_moves (closeIfOff_moves hb ?_)
    split
    · exact closeBundle_moves hb _ k
    · exact k

theorem sweptAt_moves {b : Nat} (hb : b < 32) (m : Moves a c r i d s) : Moves a c r i d (sweptAt b s) := by
  have k : Moves a c r i d (sweepClose b s) :=
    (closeBundle_moves hb .tray m).step (.bin hb ⟨rfl, rfl, rfl, rfl, rfl⟩)
  unfold sweptAt
  exact (writeLog_moves _ k).step (.sweep hb ⟨rfl, rfl, rfl, rfl, rfl⟩)

theorem fullAt_moves {b : Nat} (hb : b < 32) (m : Moves a c r i d s) : Moves a c r i d (fullAt b s) := by
  unfold fullAt
  split
  · exact setOff_moves hb _ m
  · exact m

theorem binOff_moves {b : Nat} (hb : b < 32) (m : Moves a c r i d s) : Moves a c r i d (binOff b s) :=
  closeIfOff_moves hb (setOff_moves hb .off m)

theorem binAt_loseFlight {b : Nat} (hb : b < 32) (f : Flight) (s : State) (k : Nat) :
    binAt k (disposeFlight .lost b none f (dropFlight b f s)) = if k = b then
      { binAt b s with flights := (binAt b s).flights.erase f, committed := (binAt b s).committed - 1 } else binAt k s := by
  rw [binAt_disposeFlight, binAt_dropFlight hb]

theorem abortBin_moves {b : Nat} (hb : b < 32) (m : Moves a c r none d s) : Moves a c r none d (abortBin b s) :=
  closeBundle_moves hb _ (loseFlights_moves (fun _ _ hx m => loseFlight_moves hb hx m)
    (fun s x => by rw [binAt_loseFlight hb, if_pos rfl]) _ (List.Subperm.refl _) m)

theorem abortBins_moves (m : Moves a c r none d s) : Moves a c r none d (abortBins s) :=
  Moves.foldRange (fun _ _ hb m => abortBin_moves hb m) m

end

end Sys2Proof.Machine
end

section
/-! The collations, the track and the reports as chains of moves. -/

namespace Sys2Proof.Machine

/-! ### What the changes of a piece keep of it -/

section
variable (p : Piece)

@[simp] theorem Piece.mark_addFault (f : FaultName) : (p.addFault f).mark = p.mark := rfl
@[simp] theorem Piece.mark_addCaliper (n : Nat) : (p.addCaliper n).mark = p.mark := rfl
@[simp] theorem Piece.mark_subCaliper (n : Nat) : (p.subCaliper n).mark = p.mark := rfl
@[simp] theorem Piece.mark_openWindow (w : Window) : (p.openWindow w).mark = p.mark := rfl
@[simp] theorem Piece.mark_closeWindow (n : Nat) : (p.closeWindow n).mark = p.mark := rfl
@[simp] theorem Piece.mark_missPage : p.missPage.mark = p.mark := rfl

@[simp] theorem Piece.mark_failedRead : p.failedRead.mark = p.mark := by
  unfold Piece.failedRead
  split <;> rfl

@[simp] theorem Piece.mark_feedResult (n cal : Nat) (k : FeedKind) (r : FeedOutcome) :
    (p.feedResult n cal k r).mark = p.mark := by
  unfold Piece.feedResult
  split <;> rfl

@[simp] theorem Piece.mark_unanswered (w : Window) : (p.unanswered w).mark = p.mark := by
  unfold Piece.unanswered
  split
  · rfl
  · rfl
  · rfl
  · exact p.mark_failedRead

theorem Piece.mark_foldl_unanswered (l : List Window) (p : Piece) : (l.foldl (fun p w => p.unanswered w) p).mark = p.mark := by
  induction l generalizing p with
  | nil => rfl
  | cons w l ih => rw [List.foldl_cons, ih, mark_unanswered]

@[simp] theorem Piece.mark_expireWhere (test : Window → Bool) : (p.expireWhere test).mark = p.mark :=
  Piece.mark_foldl_unanswered _ _

@[simp] theorem Piece.mark_passWindows (n : Nat) : (p.passWindows n).mark = p.mark := p.mark_expireWhere _

@[simp] theorem Piece.mark_leaveWindows : p.leaveWindows.mark = p.mark := p.mark_expireWhere _

@[simp] theorem takeFeed_mark (n cal : Nat) (r : FeedOutcome) : (takeFeed n cal r p).mark = p.mark := by
  unfold takeFeed
  split
  · rw [Piece.mark_feedResult, Piece.mark_closeWindow]
  · rfl

end

/-! ### The track by its marks -/

theorem filterMap_mapIdx {α β γ : Type} {f : β → Option γ} {h : α → Option γ} :
    ∀ (l : List α) {g : Nat → α → β}, (∀ n x, f (g n x) = h x) → (l.mapIdx g).filterMap f = l.filterMap h
  | [], _, _ => rfl
  | x :: l, g, hg => by
    rw [List.mapIdx_cons, List.filterMap_cons, List.filterMap_cons, hg, filterMap_mapIdx l (fun n x => hg (n + 1) x)]

/-- The slots before and after one slot. -/
theorem slots_split {n : Nat} {l : List (Option Piece)} {x : Option Piece} (h : l[n]? = some x) :
    l = l.take n ++ x :: l.drop (n + 1) ∧ ∀ y, l.set n y = l.take n ++ y :: l.drop (n + 1) := by
  obtain ⟨hn, rfl⟩ := List.getElem?_eq_some_iff.mp h
  refine ⟨?_, fun y => List.set_eq_take_append_cons_drop.trans (if_pos hn)⟩
  rw [List.getElem_cons_drop, List.take_append_drop]

theorem pieceAt_eq_some {n : Nat} {p : Piece} {s : State} : pieceAt n s = some p ↔ s.track.slots[n]? = some (some p) := by
  unfold pieceAt
  cases s.track.slots[n]? <;> simp

theorem trackMarks_putSlot {n : Nat} {p q : Piece} {s : State} (h : pieceAt n s = some p) (hm : q.mark = p.mark) :
    trackMarks (putSlot n (some q) s) = trackMarks s := by
  obtain ⟨hl, hset⟩ := slots_split (pieceAt_eq_some.mp h)
  have e : (putSlot n (some q) s).track.slots = s.track.slots.set n (some q) := rfl
  unfold trackMarks
  rw [e, hset (some q)]
  conv_rhs => rw [hl]
  simp [List.filterMap_append, hm]

section
variable {a i : Option Item} {c d : Bool} {r s : State}

theorem putSlot_moves {n : Nat} {p q : Piece} (h : pieceAt n s = some p) (hm : q.mark = p.mark) (m : Moves a c r i d s) :
    Moves a c r i d (putSlot n (some q) s) :=
  m.step (.slots (putSlot_keeps (List.Subset.refl _) (.start _ s) _ _) (trackMarks_putSlot h hm) fun _ => List.length_set)

theorem updatePiece_moves (n : Nat) {f : Piece → Piece} (hf : ∀ p, (f p).mark = p.mark) (m : Moves a c r i d s) :
    Moves a c r i d (updatePiece n f s) := by
  unfold updatePiece
  split
  next hp => exact putSlot_moves hp (hf _) m
  · exact m

theorem passAllWindows_moves (m : Moves a c r i d s) : Moves a c r i d (passAllWindows s) := by
  refine m.step (.slots (passAllWindows_keeps (List.Subset.refl _) (.start _ s)) ?_ fun _ => List.length_mapIdx)
  exact filterMap_mapIdx _ fun n x => by cases x <;> simp

/-! ### Arrivals -/

theorem feedOutcomeAt_moves (k cal tag : Nat) (o : FeedOutcome) (m : Moves a c r i d s) :
    Moves a c r i d (feedOutcomeAt k cal tag o s) := by
  unfold feedOutcomeAt
  split
  · exact updatePiece_moves _ (fun p => takeFeed_mark p ..) m
  · exact m

theorem envelopeFaultAt_moves (k tag : Nat) (m : Moves a c r i d s) : Moves a c r i d (envelopeFaultAt k tag s) := by
  unfold envelopeFaultAt
  split
  · exact updatePiece_moves _ (fun p => by simp) m
  · exact m

theorem failedReadAt_moves (k tag : Nat) (m : Moves a c r i d s) : Moves a c r i d (failedReadAt k tag s) := by
  unfold failedReadAt
  split
  · exact updatePiece_moves _ (fun p => by simp) m
  · exact m

theorem feedUntaken_moves (dst : Node) (tag : Nat) (m : Moves a c r i d s) : Moves a c r i d (feedUntaken dst tag s) := by
  unfold feedUntaken
  split
  next he => exact feedOutcomeAt_moves _ _ _ _ (m.quiet (markAbsent_quiet (stationOfNode_some he).2.1))
  · exact m

theorem envUntaken_moves (dst : Node) (tag : Nat) (m : Moves a c r i d s) : Moves a c r i d (envUntaken dst tag s) := by
  unfold envUntaken
  split
  next he => exact envelopeFaultAt_moves _ _ (m.quiet (markAbsent_quiet (stationOfNode_some he).2.1))
  · exact m

theorem armUntaken_moves (dst : Node) (tag : Nat) (m : Moves a c r i d s) : Moves a c r i d (armUntaken dst tag s) := by
  unfold armUntaken
  split
  next he => exact failedReadAt_moves _ _ (m.quiet (markAbsent_quiet (stationOfNode_some he).2.1))
  · exact m

theorem sendFeed_moves {n : Nat} {p q : Piece} (k : Nat) (e : StationEntry) (kind : FeedKind) (hp : pieceAt n s = some p)
    (hq : q.mark = p.mark) (m : Moves a c r i d s) : Moves a c r i d (sendFeed k n e q kind s) := by
  have m1 := putSlot_moves (q := q.openWindow (e.windowOf k (.feed kind))) hp (by rw [Piece.mark_openWindow, hq]) m
  unfold sendFeed
  dsimp only
  split
  · exact feedUntaken_moves _ _ m1
  next h => exact m1.quiet (pushOwn_quiet _ _ _ (by simpa using h))

theorem forcedAtArrival_moves {n : Nat} {p : Piece} (k : Nat) (e : StationEntry) (hp : pieceAt n s = some p)
    (m : Moves a c r i d s) : Moves a c r i d (forcedAtArrival k n e p s) := by
  unfold forcedAtArrival
  split
  · exact sendFeed_moves _ _ _ hp (Piece.mark_addCaliper ..) m
  · exact putSlot_moves hp rfl m

theorem insertArrival_moves {n : Nat} {p : Piece} (k : Nat) (e : StationEntry) (hp : pieceAt n s = some p)
    (m : Moves a c r i d s) : Moves a c r i d (insertArrival k n e p s) := by
  unfold insertArrival
  split
  · exact sendFeed_moves _ _ _ hp rfl m
  · exact putSlot_moves hp rfl m
  · exact sendFeed_moves _ _ _ hp rfl m
  · exact putSlot_moves hp rfl m
  · exact sendFeed_moves _ _ _ hp rfl m
  · exact putSlot_moves hp rfl m
  · split
    · exact m
    · exact forcedAtArrival_moves _ _ hp m
  · exact m

theorem envelopeArrival_moves {n : Nat} {p : Piece} (k : Nat) (e : StationEntry) (hp : pieceAt n s = some p)
    (m : Moves a c r i d s) : Moves a c r i d (envelopeArrival k n e p s) := by
  unfold envelopeArrival
  split
  · have m1 := putSlot_moves (q := p.openWindow (e.windowOf k .envelope)) hp rfl m
    dsimp only
    split
    · exact envUntaken_moves _ _ m1
    next h => exact m1.quiet (pushOwn_quiet _ _ _ (by simpa using h))
  · exact putSlot_moves hp rfl m

theorem scanArrival_moves {n : Nat} {p : Piece} (k : Nat) (e : StationEntry) (hp : pieceAt n s = some p)
    (m : Moves a c r i d s) : Moves a c r i d (scanArrival k n e p s) := by
  unfold scanArrival
  split
  · have m1 := putSlot_moves (q := p.openWindow (e.windowOf k .scan)) hp rfl m
    dsimp only
    split
    · exact armUntaken_moves _ _ m1
    next h => exact m1.quiet (pushOwn_quiet _ _ _ (by simpa using h))
  · exact putSlot_moves hp p.mark_failedRead m

theorem arriveAt_moves (n k : Nat) (m : Moves a c r i d s) : Moves a c r i d (arriveAt n k s) := by
  unfold arriveAt
  split
  next hp _ =>
    split
    · exact m
    · split
      · exact insertArrival_moves _ _ hp m
      · exact envelopeArrival_moves _ _ hp m
      · exact scanArrival_moves _ _ hp m
      · exact m
  · exact m

theorem slotArrivals_moves (n : Nat) (m : Moves a c r i d s) : Moves a c r i d (slotArrivals n s) := by
  unfold slotArrivals
  split
  · exact Moves.fold (fun _ k m => arriveAt_moves n k m) _ m
  · exact m

theorem arrivals_moves (m : Moves a c r i d s) : Moves a c r i d (arrivals s) :=
  Moves.fold (fun _ n m => slotArrivals_moves n m) _ m

/-! ### Sheets and collations -/

theorem missPageOnTrack_moves (seq inc : Nat) (m : Moves a c r i d s) : Moves a c r i d (missPageOnTrack seq inc s) := by
  unfold missPageOnTrack
  split
  · exact updatePiece_moves _ (fun p => p.mark_missPage) m
  · exact m

theorem missPageBehind_moves (seq inc : Nat) (m : Moves a c r i d s) : Moves a c r i d (missPageBehind seq inc s) := by
  unfold missPageBehind
  split
  next h =>
    split
    · exact m.step (.staging _ (by rw [h]; rfl))
    · exact missPageOnTrack_moves _ _ m
  · exact missPageOnTrack_moves _ _ m

theorem missPage_moves (seq inc : Nat) (m : Moves a c r i d s) : Moves a c r i d (missPage seq inc s) := by
  unfold missPage
  split
  next h =>
    split
    · exact m.step (.collecting _ (by rw [h]; rfl))
    · exact missPageBehind_moves _ _ m
  next h =>
    split
    · exact m.step (.collecting _ (by rw [h]; rfl))
    · exact missPageBehind_moves _ _ m
  · exact missPageBehind_moves _ _ m

theorem sheetActionLost_moves (dst : Node) (accept : Bool) (seq inc : Nat) (m : Moves a c r i d s) :
    Moves a c r i d (sheetActionLost dst accept seq inc s) := by
  unfold sheetActionLost
  dsimp only
  split
  · exact missPage_moves _ _ (m.quiet (nodeAbsent_quiet ..))
  · exact m.quiet (nodeAbsent_quiet ..)

theorem answerSheet_moves (serial : Nat) (v : SheetVerdict) (seq inc : Nat) (m : Moves a c r i d s) :
    Moves a c r i d (answerSheet serial v seq inc s) := by
  unfold answerSheet
  split
  · split
    · exact sheetActionLost_moves _ _ _ _ m
    next h => exact m.quiet (pushOwn_quiet _ _ _ (by simpa using h))
  · exact m

theorem divertSheet_moves (x : Scan) (v : DivertReason) (m : Moves a c r i d s) : Moves a c r i d (divertSheet x v s) :=
  answerSheet_moves _ _ _ _ m

theorem moveToStaging_moves (m : Moves a c r none d s) : Moves a c r none d (moveToStaging s) := by
  unfold moveToStaging
  split
  next h hs => exact (m.step (.takeCollecting (by rw [h]; rfl))).step (.putStaging _ hs)
  · exact m

/-- The collecting pocket holds a collation of the sequence of the one given. -/
abbrev Collects (x : Collation) (s : State) : Prop := s.collation.collecting.held.map (·.job.seq) = [x.job.seq]

theorem endCollation_moves {x : Collation} (h : Collects x s) (m : Moves a c r none d s) :
    Moves a c r none d (endCollation x s) := by
  unfold endCollation
  split
  · obtain ⟨y, hy, hseq⟩ := List.map_eq_singleton_iff.mp h
    refine drainCheck_moves (disposeCollation_moves _ _ ?_)
    rw [← hseq]
    exact m.step (.takeCollecting hy)
  · exact moveToStaging_moves (m.step (.collecting (.complete x) h.symm))

theorem closeCollation_moves {x : Collation} (h : Collects x s) (m : Moves a c r none d s) :
    Moves a c r none d (closeCollation x s) := endCollation_moves (x := x.addFault .missingPage) h m

theorem closeAtLimit_moves {x : Collation} (h : Collects x s) (m : Moves a c r none d s) :
    Moves a c r none d (closeAtLimit x s) := by
  unfold closeAtLimit
  split
  · exact endCollation_moves h m
  · exact closeCollation_moves h m

theorem checkCompletion_moves (page : Nat) (cls : SheetClass) (m : Moves a c r none d s) :
    Moves a c r none d (checkCompletion page cls s) := by
  unfold checkCompletion
  split
  next x hx =>
    have h : Collects x s := by rw [Collects, hx]; rfl
    split
    · exact endCollation_moves h m
    · split
      · exact closeAtLimit_moves h m
      · exact m
  · exact m

theorem answerAdded_moves (x : Scan) (y : Collation) (m : Moves a c r i d s) : Moves a c r i d (answerAdded x y s) := by
  unfold answerAdded
  split
  · exact divertSheet_moves _ _ m
  · exact answerSheet_moves _ _ _ _ m

theorem addSheet_moves (x : Scan) (page pages : Nat) {y : Collation} (h : Collects y s) (m : Moves a c r none d s) :
    Moves a c r none d (addSheet x page pages y s) := by
  have m1 := m.quiet (putStock_quiet s x.stock
    ((stockAt x.stock s).learn x.caliper ((stockAt x.stock s).classify x.caliper).1))
  have m2 := (m1.step (.collecting (.collecting
    (y.addSheet page pages x.caliper ((stockAt x.stock s).classify x.caliper))) h.symm)).quiet (setStrays_quiet _ 0)
  exact checkCompletion_moves _ _ (answerAdded_moves _ _ m2)

theorem straySheet_moves (x : Scan) (m : Moves a c r i d s) : Moves a c r i d (straySheet x s) := by
  have m1 := divertSheet_moves x .stray (m.quiet (setStrays_quiet s (min 15 (s.collation.strays + 1))))
  unfold straySheet
  dsimp only
  split
  · exact requestStop_moves _ (m1.quiet (raiseAlert_quiet ..))
  · exact m1

theorem overrunSheet_moves (x : Scan) (m : Moves a c r i d s) : Moves a c r i d (overrunSheet x s) :=
  requestStop_moves _ ((divertSheet_moves x _ m).quiet (raiseAlert_quiet ..))

theorem reserveSheet_moves (x : Scan) (m : Moves a c r i d s) : Moves a c r i d (reserveSheet x s) :=
  (divertSheet_moves x _ m).quiet (raiseAlert_quiet ..)

theorem openCollation_moves (x : Scan) (page pages : Nat) {y : JobRecord} (hy : s.queue.records.head? = some y)
    (hg : y.reprint = true ∨ inFlightCount s < reprintFree s) (he : s.collation.collecting = .empty)
    (m : Moves a c r none d s) : Moves a c r none d (openCollation x page pages y s) := by
  have hh : (removeHead s).collation.collecting = .empty :=
    (removeHead_keeps (l := .records :: .held :: permitParts) (by decide) (.start _ s) .collecting (by decide)).trans he
  unfold openCollation
  dsimp only
  refine addSheet_moves x page pages rfl ?_
  split
  next hr =>
    have m1 := removeHead_moves hy (.inl rfl) m
    rw [hr] at m1
    have m2 : Moves a c r (some (.loose y.seq)) d (removeEntry y.seq (removeHead s)) :=
      (evalPermit_clears (m1.step .release)).relax
    refine m2.step (.putCollecting (Collation.start y) ?_)
    exact (removeEntry_keeps (l := .reprints :: permitParts) (by decide) (.start _ _) _ .collecting (by decide)).trans hh
  next hr =>
    rw [Bool.not_eq_true] at hr
    have m1 := removeHead_moves (w := 1) hy (.inr ⟨rfl, hr, hg.resolve_left (by simp [hr])⟩) m
    rw [hr] at m1
    exact m1.step (.putCollecting (Collation.start y) hh)

theorem judgeHead_moves (x : Scan) (m : Moves a c r none d s) : Moves a c r none d (judgeHead x s) := by
  unfold judgeHead
  split
  next hy =>
    split
    · split
      next he =>
        split
        next hg =>
          rw [Bool.or_eq_true, gateOpen, decide_eq_true_eq] at hg
          exact openCollation_moves _ _ _ hy hg he m
        · exact reserveSheet_moves _ m
      · exact overrunSheet_moves _ m
    · exact straySheet_moves _ m
  · exact straySheet_moves _ m

theorem judgeCollecting_moves (x : Scan) {y : Collation} (h : Collects y s) (m : Moves a c r none d s) :
    Moves a c r none d (judgeCollecting x y s) := by
  unfold judgeCollecting
  split
  · exact divertSheet_moves _ _ (m.step (.collecting (.collecting (y.addFault .unreadSheet)) h.symm))
  · split
    · exact addSheet_moves _ _ _ h m
    · exact judgeHead_moves _ (closeCollation_moves h m)

theorem takeScan_moves (x : Scan) (m : Moves a c r none d s) : Moves a c r none d (takeScan x s) := by
  unfold takeScan
  split
  · exact divertSheet_moves _ _ m
  · split
    · exact divertSheet_moves _ _ m
    · split
      next hy => exact judgeCollecting_moves x (by rw [Collects, hy]; rfl) m
      · exact judgeHead_moves x m

theorem flushPocket_moves (m : Moves a c r none d s) : Moves a c r none d (flushPocket s) := by
  unfold flushPocket
  split
  next hy => exact closeCollation_moves (by rw [Collects, hy]; rfl) m
  · exact m

theorem disposeStaging_moves (k : Disposition) (m : Moves a c r none d s) : Moves a c r none d (disposeStaging k s) := by
  unfold disposeStaging
  split
  next h => exact disposeCollation_moves _ _ (m.step (.takeStaging h))
  · exact m

theorem disposeCollecting_moves (k : Disposition) (m : Moves a c r none d s) : Moves a c r none d (disposeCollecting k s) := by
  unfold disposeCollecting
  split
  next h => exact disposeCollation_moves _ _ (m.step (.takeCollecting (by rw [h]; rfl)))
  next h => exact disposeCollation_moves _ _ (m.step (.takeCollecting (by rw [h]; rfl)))
  · exact m

/-! ### The pitch advance -/

theorem markPitch_quiet (s : State) : Quiet s (markPitch s) := by
  unfold markPitch
  dsimp only
  refine Quiet.trans ?_ (sendPlain_quiet ..)
  refine .of_keeps (l := [.position, .boundary, .pitch]) ?_ (by decide) (by decide) (by decide) (by decide)
  intro p hp
  split
  · cases p <;> first | rfl | exact absurd (by decide) hp
  · cases p <;> first | rfl | exact absurd (by decide) hp

theorem exitSlot_moves (m : Moves a c r none d s) : Moves a c r none d (exitSlot s) := by
  unfold exitSlot
  dsimp only
  split
  next p hp =>
    obtain ⟨hseq, hscheme⟩ := Prod.mk.inj p.mark_leaveWindows
    rw [hscheme]
    refine exitPiece_moves _ ?_
    rw [hseq]
    exact m.step (.leave hp)
  · exact m

/-- What the exit leaves of the slots: the last one empty, the others as they were (R68). -/
theorem slots_exitSlot (s : State) : (exitSlot s).track.slots = s.track.slots.set (s.track.slots.length - 1) none := by
  unfold exitSlot
  dsimp only
  split
  next p _ =>
    rw [(exitPiece_keeps (l := .divertSerials :: endParts) (by decide) (.start _ _) _ .slots (by decide) :
      (exitPiece p.leaveWindows _).track.slots = _)]
    exact lowerMatchCounts_keeps (l := [.pageUse, .groups]) (by decide) (.start _ _) _ .slots (by decide)
  next h =>
    cases hn : s.track.slots[s.track.slots.length - 1]? with
    | none => exact (List.set_eq_of_length_le (List.getElem?_eq_none_iff.mp hn)).symm
    | some x =>
      unfold pieceAt at h
      rw [hn] at h
      obtain rfl : x = none := h
      obtain ⟨hlt, hget⟩ := List.getElem?_eq_some_iff.mp hn
      conv_lhs => rw [← List.set_getElem_self hlt, hget]

theorem trackMarks_moveSlots {s : State} (h : s.track.slots = [] ∨ s.track.slots.getLast? = some none) :
    trackMarks (moveSlots s) = trackMarks s := by
  have e : (moveSlots s).track.slots = movedSlots s.track.slots := rfl
  unfold trackMarks
  rw [e, movedSlots, filterMap_mapIdx (h := fun x => x.map Piece.mark) _ fun n x => by cases x <;> simp]
  obtain h | h := h
  · rw [h]; rfl
  · obtain ⟨l, hl⟩ := List.getLast?_eq_some_iff.mp h
    rw [hl]
    simp

theorem length_movedSlots {l : List (Option Piece)} (h : l ≠ []) : (movedSlots l).length = l.length := by
  have := List.length_pos_iff.mpr h
  rw [movedSlots, List.length_mapIdx, List.length_cons, List.length_dropLast]
  omega

theorem moveSlots_moves (h : s.track.slots = [] ∨ s.track.slots.getLast? = some none) (m : Moves a c r i d s) :
    Moves a c r i d (moveSlots s) :=
  m.step (.slots (moveSlots_keeps (List.Subset.refl _) (.start _ s)) (trackMarks_moveSlots h) length_movedSlots)

theorem movedSlots_head (l : List (Option Piece)) : (movedSlots l)[0]? = some none := by
  simp [movedSlots]

theorem setNextSerial_quiet (s : State) (n : Nat) : Quiet s (s.setTrack { s.track with nextSerial := n }) := by
  refine .of_keeps (l := [.nextSerial]) ?_ (by decide) (by decide) (by decide) (by decide)
  intro p hp
  cases p <;> first | rfl | exact absurd (by decide) hp

theorem commit_moves {x : Collation} (h : s.track.slots[0]? = some none) (m : Moves a c r (some (.loose x.job.seq)) d s) :
    Moves a c r none d (commit x s) :=
  (m.quiet (setNextSerial_quiet s ((s.track.nextSerial + 1) % 65536))).step (.enter (p := buildPiece x s) h)

theorem releaseStaging_moves (h : s.track.slots[0]? = some none) (m : Moves a c r none d s) :
    Moves a c r none d (releaseStaging s) := by
  unfold releaseStaging
  split
  next x hx =>
    exact moveToStaging_moves ((commit_moves (s := setStaging none s) h (m.step (.takeStaging hx))).quiet (sendFold_quiet ..))
  · exact m

theorem advance_moves (m : Moves a c r none d s) : Moves a c r none d (advance s) := by
  refine sorterTimeouts_moves (arrivals_moves (releaseStaging_moves (movedSlots_head _) (moveSlots_moves ?_
    (exitSlot_moves (m.quiet (markPitch_quiet s))))))
  rw [slots_exitSlot]
  cases hl : (markPitch s).track.slots with
  | nil => exact .inl rfl
  | cons x l =>
    right
    simp [List.getLast?_eq_getElem?]

/-! ### Pieces removed, reports and returns -/

theorem removePiece_moves (k : Disposition) (n : Nat) (m : Moves a c r none d s) : Moves a c r none d (removePiece k n s) := by
  unfold removePiece
  split
  next hp => exact disposePiece_moves _ _ _ (m.step (.leave hp))
  · exact m

theorem abortTrack_moves (m : Moves a c r none d s) : Moves a c r none d (abortTrack s) :=
  Moves.fold (fun _ n m => removePiece_moves .aborted n m) _ m

theorem clearNamedSlots_moves (x : ClearOperands) (m : Moves a c r none d s) : Moves a c r none d (clearNamedSlots x s) := by
  unfold clearNamedSlots
  split
  · exact Moves.fold (fun _ n m => removePiece_moves .cleared n m) _ m
  · exact m

theorem clearNamedPockets_moves (x : ClearOperands) (m : Moves a c r none d s) :
    Moves a c r none d (clearNamedPockets x s) := by
  have m1 : Moves a c r none d (if x.staging then disposeStaging .cleared s else s) := by
    split
    · exact disposeStaging_moves _ m
    · exact m
  have m2 : Moves a c r none d (if x.collecting then
      disposeCollecting .cleared (if x.staging then disposeStaging .cleared s else s)
      else if x.staging then disposeStaging .cleared s else s) := by
    split
    · exact disposeCollecting_moves _ m1
    · exact m1
  unfold clearNamedPockets
  dsimp only
  split
  · exact moveToStaging_moves m2
  · exact m2

theorem occupancyFault_moves (n : Nat) (m : Moves a c r i d s) : Moves a c r i d (occupancyFault n s) :=
  updatePiece_moves _ (fun _ => rfl)
    (requestStop_moves _ ((m.quiet (setJamSlot_quiet s (some n))).quiet (raiseAlert_quiet ..)))

theorem slotReport_moves {k : Nat} {e : StationEntry} (pitch occupancy : Byte) (he : stationAt k s = some e)
    (m : Moves a c r i d s) : Moves a c r i d (slotReport k e pitch occupancy s) := by
  unfold slotReport
  split
  · exact m
  · split
    · exact m.quiet (lateReport_quiet he)
    · split
      · exact m
      · exact occupancyFault_moves _ m

theorem feedReport_moves {k : Nat} {e : StationEntry} (tag result : Byte) (he : stationAt k s = some e)
    (m : Moves a c r i d s) : Moves a c r i d (feedReport k e tag result s) := by
  unfold feedReport
  split
  · exact m
  · split
    · exact m
    · split
      · exact feedOutcomeAt_moves _ _ _ _ m
      · exact m.quiet (lateReport_quiet he)

theorem envReport_moves {k : Nat} {e : StationEntry} (tag result : Byte) (he : stationAt k s = some e)
    (m : Moves a c r i d s) : Moves a c r i d (envReport k e tag result s) := by
  unfold envReport
  split
  · exact m
  · split
    · exact m.quiet (lateReport_quiet he)
    · exact updatePiece_moves _ (fun p => by split <;> rfl) m

theorem mismatchAt_moves {n : Nat} {p : Piece} (k seq inc : Nat) (hp : pieceAt n s = some p) (m : Moves a c r i d s) :
    Moves a c r i d (mismatchAt n k seq inc p s) := by
  refine requestStop_moves _ (Moves.quiet ?_ (raiseAlert_quiet ..))
  exact putSlot_moves hp rfl m

theorem readAt_moves (n k : Nat) (value : Option (Nat × Nat)) (m : Moves a c r i d s) : Moves a c r i d (readAt n k value s) := by
  unfold readAt
  split
  next hp =>
    split
    · exact putSlot_moves hp rfl m
    · exact mismatchAt_moves _ _ _ hp m
  next hp => exact putSlot_moves hp (Piece.mark_failedRead _) m
  · exact m

theorem addrReport_moves {k : Nat} {e : StationEntry} (tag result : Byte) (seq : BitVec 24) (inc : Byte)
    (he : stationAt k s = some e) (m : Moves a c r i d s) : Moves a c r i d (addrReport k e tag result seq inc s) := by
  unfold addrReport
  split
  · exact m
  · split
    · exact m.quiet (lateReport_quiet he)
    · exact readAt_moves _ _ _ m

theorem divertReturn_moves (dst : Node) (tag : Nat) (m : Moves a c r i d s) : Moves a c r i d (divertReturn dst tag s) := by
  unfold divertReturn
  split
  · exact divertUntaken_moves _ _ m
  · exact divertUntaken_moves _ _ (m.quiet (setFree_quiet ..))

theorem loseLink_moves (m : Moves a c r i d s) : Moves a c r i d (loseLink s) := by
  refine requestStop_moves _ (Moves.quiet (m.quiet ?_) (raiseAlert_quiet ..))
  refine ⟨?_, id, fun _ => Nat.zero_le _, fun _ => rfl⟩
  intro p hp
  cases p <;> first | rfl | exact absurd (by decide) hp

end

theorem regainLink_quiet (s : State) : Quiet s (regainLink s) := by
  refine Quiet.trans (t := s.setRing { s.ring with linkUp := true }) ?_ (raiseAlert_quiet ..)
  refine .of_keeps (l := [.linkUp]) ?_ (by decide) (by decide) (by decide) (by decide)
  intro p hp
  cases p <;> first | rfl | exact absurd (by decide) hp

theorem sendNext_quiet (s : State) : Quiet s (sendNext s) := by
  refine ⟨sendNext_keeps (by decide) (.start _ s), ?_, ?_, fun _ => ?_⟩
  · unfold sendNext
    split
    · exact id
    next h => intro ho; simp only [h, List.length_cons] at ho; exact Nat.le_of_succ_le ho
    · exact id
  · unfold sendNext
    split
    next h => intro ho; simp only [h, List.length_cons] at ho; exact Nat.le_of_succ_le ho
    · exact id
    · exact id
  · unfold sendNext
    split <;> rfl

theorem setAllModes_quiet (mode : StationMode) (s : State) : Quiet s (setAllModes mode s) := by
  refine ⟨setAllModes_keeps (by decide) (.start _ s) _, id, id, fun k => ?_⟩
  simp only [stationAt, setAllModes, State.setTrack_track, Vector.getElem?_map]
  cases s.track.stations[k]? with
  | none => rfl
  | some x => cases x <;> rfl

theorem reversePulse_quiet (s : State) : Quiet s (reversePulse s) := by
  unfold reversePulse
  split
  · exact .refl s
  · exact setPosition_quiet ..

theorem encoderError_quiet (s : State) : Quiet s (encoderError s) :=
  .of_keeps (encoderError_keeps (List.Subset.refl _) (.start _ s)) (by decide) (by decide) (by decide) (by decide)

end Sys2Proof.Machine
end

section
/-! The works as chains of moves, and the invariants that every move keeps (R109, R136, R157, R163). -/

namespace Sys2Proof.Machine

/-! ### The works -/

/-- The requests whose work is no chain of moves: they open, end or reset the run, or load a table. -/
inductive Request : State → State → Prop
  | accept {body : List Byte} {x : JobRecord} {s : State} (hr : judgeRecord body s = .ok x) : Request s (acceptRecord x s)
  | logRead (n : Nat) (s : State) : Request s (evalPermit (s.setLog { s.log with records := s.log.records.drop n }))
  | reprintRead (n : Nat) (s : State) : Request s (s.setReprints (requestEntries n s.reprints))
  | openRun (id : Word) {s : State} (hs : s.line.locked = false) : Request s (openRun id s)
  | start {s : State} (hs : s.line.state = .ready) : Request s (startRun s)
  | pause {s : State} (hs : s.line.state = .running ∨ s.line.state = .draining) :
      Request s (enterState .paused (some .operator) s)
  | resume {s : State} (hs : s.line.state = .paused ∨ s.line.state = .jammed) : Request s (resumeRun s)
  | flush {s : State} (he : s.line.ending = false) (hs : s.line.state = .running ∨ s.line.state = .paused) :
      Request s (flushRun s)
  | abort {s : State} (hs : s.line.state ≠ .idle ∧ s.line.state ≠ .closed) : Request s (abortRun s)
  | closeRun {s : State} (hs : s.line.state = .closed) : Request s (closeRun s)
  | resetLine (s : State) : Request s (resetLine s)
  | loadProfile {p : ProfileFields} {s : State} (hs : s.line.state = .idle ∨ s.line.state = .ready)
      (hr : profileInRange p s = true) (hu : profileInUse p s = false) : Request s (writeProfile p s)
  | loadStations {t : Vector (Option StationEntry) 24} {s : State} (ht : tableOk (tableEntries t) s = true) :
      Request s (s.setTrack { s.track with stations := t })
  | loadScheme {page : Nat} (start : Nat) (entries : List SchemeEntry) {s : State} (hp : pageUseAt page s = 0) :
      Request s (writeScheme page start entries s)
  | loadGroup {items : List Byte} {f : GroupFields} {s : State} (hf : readGroup items = some f)
      (hr : groupInRange f s = true) :
      Request s (putGroup f.group (f.toGroup (groupAt f.group s).refs) s)
  | loadBin {b node capacity : Nat} {s : State} (hr : binInRange b node capacity s = true) (hb : binBusy b s = false) :
      Request s (putBin b { binAt b s with node := some node, capacity := some capacity } s)

/-- A chain of moves that begins and ends with nothing held. -/
abbrev Course (s t : State) : Prop := ∀ d, Moves none d s none d t

/-- A work is a chain of moves, or one of the requests above with its ANSWER. -/
theorem Work.course {l : List Part} {s t : State} (w : Work l s t) : Course s t ∨ ∃ u, Request s u ∧ Course u t := by
  have ofRequest {s t : State} (q : Request s t) : Course s t ∨ ∃ u, Request s u ∧ Course u t :=
    .inr ⟨t, q, fun _ => .start⟩
  induction w with
  | none => exact .inl fun _ => .start
  | answer tag code content _ ih =>
    obtain h | ⟨u, q, h⟩ := ih
    · exact .inl fun d => (h d).quiet (sendAnswer_quiet ..)
    · exact .inr ⟨u, q, fun d => (h d).quiet (sendAnswer_quiet ..)⟩
  | free => exact .inl fun _ => Moves.start.quiet (setFree_quiet ..)
  | alert => exact .inl fun _ => Moves.start.quiet (raiseAlert_quiet ..)
  | advance => exact .inl fun _ => advance_moves (Moves.start.quiet (setPosition_quiet ..))
  | forward => exact .inl fun _ => Moves.start.quiet (setPosition_quiet ..)
  | reverse => exact .inl fun _ => Moves.start.quiet (reversePulse_quiet _)
  | encoderError => exact .inl fun _ => Moves.start.quiet (encoderError_quiet _)
  | passWindows => exact .inl fun _ => passAllWindows_moves .start
  | drain => exact .inl fun _ => drainCheck_moves .start
  | send => exact .inl fun _ => Moves.start.quiet (sendNext_quiet _)
  | loseLink => exact .inl fun _ => loseLink_moves .start
  | regainLink => exact .inl fun _ => Moves.start.quiet (regainLink_quiet _)
  | scan => exact .inl fun _ => takeScan_moves _ .start
  | status value he => exact .inl fun _ => Moves.start.quiet (statusReport_quiet value he)
  | slot pitch occupancy he => exact .inl fun _ => slotReport_moves pitch occupancy he .start
  | feed tag result he => exact .inl fun _ => feedReport_moves tag result he .start
  | envelope tag result he => exact .inl fun _ => envReport_moves tag result he .start
  | address tag result seq inc he => exact .inl fun _ => addrReport_moves tag result seq inc he .start
  | landed hb => exact .inl fun _ => landedAt_moves hb .start
  | swept hb => exact .inl fun _ => sweptAt_moves hb .start
  | full hb => exact .inl fun _ => fullAt_moves hb .start
  | sheetLost => exact .inl fun _ => sheetActionLost_moves _ _ _ _ .start
  | absent => exact .inl fun _ => Moves.start.quiet (nodeAbsent_quiet ..)
  | feedLost => exact .inl fun _ => feedUntaken_moves _ _ .start
  | envelopeLost => exact .inl fun _ => envUntaken_moves _ _ .start
  | armLost => exact .inl fun _ => armUntaken_moves _ _ .start
  | divertLost => exact .inl fun _ => divertReturn_moves _ _ .start
  | selectLost hb => exact .inl fun _ => selectUntaken_moves hb _ .start
  | accept hr => exact ofRequest (.accept hr)
  | skip => exact .inl fun _ => skipRecords_moves _ .start
  | logRead => exact ofRequest (.logRead ..)
  | reprintRead => exact ofRequest (.reprintRead ..)
  | openRun id hs => exact ofRequest (.openRun id hs)
  | start hs => exact ofRequest (.start hs)
  | pause hs => exact ofRequest (.pause hs)
  | resume hs => exact ofRequest (.resume hs)
  | flush he hs => exact ofRequest (.flush he hs)
  | abort hs => exact ofRequest (.abort hs)
  | closeRun hs => exact ofRequest (.closeRun hs)
  | resetLine => exact ofRequest (.resetLine _)
  | clearSlots => exact .inl fun _ => evalPermit_moves (clearNamedSlots_moves _ (clearNamedPockets_moves _ .start))
  | allModes => exact .inl fun _ => Moves.start.quiet (setAllModes_quiet ..)
  | mode _ he => exact .inl fun _ => Moves.start.quiet (putStation_quiet he rfl)
  | binOn hb => exact .inl fun _ => setOff_moves hb _ .start
  | binOff hb => exact .inl fun _ => binOff_moves hb .start
  | relearnAll => exact .inl fun _ => Moves.start.quiet (emptyRings_quiet _)
  | relearn => exact .inl fun _ => Moves.start.quiet (putStock_quiet ..)
  | ack => exact .inl fun _ => Moves.start.quiet (setAlert_quiet ..)
  | loadProfile hs hr hu => exact ofRequest (.loadProfile hs hr hu)
  | loadStations ht => exact ofRequest (.loadStations ht)
  | loadScheme start entries hp => exact ofRequest (.loadScheme start entries hp)
  | loadGroup hf hr => exact ofRequest (.loadGroup hf hr)
  | loadBin hr hb => exact ofRequest (.loadBin hr hb)

/-- An invariant that the moves, the requests and a change of RESET_N keep survives every step. -/
theorem course_keeps {P : State → Prop} {s t : State} (hpending : ∀ s l, P s → P (s.setPending l))
    (hreset : ∀ high straps signal s, P s → P (powerOnKeeping high straps signal s))
    (hcourse : ∀ s t, Course s t → P s → P t) (hrequest : ∀ s t, Request s t → P s → P t) (hs : P s)
    (h : step s = .next t) : P t := by
  refine step_keeps hpending hreset ?_ ?_ hs h
  · exact fun f s => hcourse _ _ fun d => Moves.start.quiet (forwardFrame_quiet s f)
  · intro l s t w hP
    obtain hc | ⟨u, q, hc⟩ := w.course
    · exact hcourse _ _ hc hP
    · exact hcourse _ _ hc (hrequest _ _ q hP)

/-- What every move keeps, every chain of moves keeps. -/
theorem Moves.induct {P : Option Item → Bool → State → Prop}
    (hmove : ∀ {i d s i' d' t}, Move i d s i' d' t → P i d s → P i' d' t) {i i' : Option Item} {d d' : Bool} {s t : State}
    (m : Moves i d s i' d' t) (h : P i d s) : P i' d' t := by
  induction m with
  | start => exact h
  | step _ m ih => exact hmove m ih

/-! ### What a move touches -/

theorem raiseMatchCounts_eq (m : SchemeMatch) (s : State) :
    raiseMatchCounts m s = s.setSort (raiseMatchCounts m s).sort := by
  unfold raiseMatchCounts
  cases m.entry <;> rfl

theorem lowerMatchCounts_eq (m : SchemeMatch) (s : State) :
    lowerMatchCounts m s = s.setSort (lowerMatchCounts m s).sort := by
  unfold lowerMatchCounts
  cases m.entry <;> rfl

theorem applyEntry_eq (e : EntryEffect) (s : State) : applyEntry e s = s.setReprints (applyEntry e s).reprints := by
  cases e with
  | none => rfl
  | create seq inc reason =>
    change createEntry seq inc reason s = s.setReprints (createEntry seq inc reason s).reprints
    unfold createEntry
    split <;> rfl
  | reopen => rfl

theorem raiseMatchCounts_bins (m : SchemeMatch) (s : State) : (raiseMatchCounts m s).sort.bins = s.sort.bins :=
  (raiseMatchCounts_keeps (List.Subset.refl _) (.start _ s) m).bins_eq (by decide)

theorem lowerMatchCounts_bins (m : SchemeMatch) (s : State) : (lowerMatchCounts m s).sort.bins = s.sort.bins :=
  (lowerMatchCounts_keeps (List.Subset.refl _) (.start _ s) m).bins_eq (by decide)

/-- The parts that some move touches. -/
abbrev moveParts : List Part :=
  quietParts ++ ([.held, .records, .collecting, .staging, .slots, .pageUse, .groups, .bins, .reprints, .logRecords, .logSerial,
    .runState, .reason, .counters, .permit, .drive] : List Part)

section
variable {i i' : Option Item} {d d' : Bool} {s t : State}

theorem Move.keeps (m : Move i d s i' d' t) : KeepsAllBut moveParts s t := by
  have ofBin {b : Nat} {x : Bin} : KeepsAllBut moveParts s (putBin b x s) := putBin_keeps (by decide) (.start _ s) _ _
  cases m with
  | quiet h => exact h.keeps.more (List.subset_append_left _ _)
  | slots h => exact h.more (by decide)
  | leave => exact lowerMatchCounts_keeps (by decide) (putSlot_keeps (by decide) (.start _ s) _ _) _
  | enter =>
    refine raiseMatchCounts_keeps (by decide) ?_ _
    intro p hp
    cases p <;> first | rfl | exact absurd (by decide) hp
  | dispose => exact applyEntry_keeps (by decide) (countDisposition_keeps (by decide) (.start _ s) _) _
  | bin => exact ofBin
  | sweep => exact ofBin
  | drop => exact ofBin
  | land => exact ofBin
  | select => exact ofBin
  | due => exact .start _ s
  | collecting => exact setCollecting_keeps (by decide) (.start _ s) _
  | takeCollecting => exact setCollecting_keeps (by decide) (.start _ s) _
  | putCollecting => exact setCollecting_keeps (by decide) (.start _ s) _
  | staging => exact setStaging_keeps (by decide) (.start _ s) _
  | takeStaging => exact setStaging_keeps (by decide) (.start _ s) _
  | putStaging => exact setStaging_keeps (by decide) (.start _ s) _
  | log => exact appendLog_keeps (by decide) (.start _ s) _
  | permit =>
    intro p hp
    cases p <;> first | rfl | exact absurd (by decide) hp
  | stop =>
    intro p hp
    cases p <;> first | rfl | exact absurd (by decide) hp
  | close =>
    intro p hp
    cases p <;> first | rfl | exact absurd (by decide) hp
  | head =>
    intro p hp
    cases p <;> first | rfl | exact absurd (by decide) hp
  | release =>
    intro p hp
    cases p <;> first | rfl | exact absurd (by decide) hp

/-- A move writes the log by one record that fits, or leaves it but for the lost count. -/
theorem Move.log_cases (m : Move i d s i' d' t) :
    (t.log.records = s.log.records ∧ t.log.serial = s.log.serial) ∨
    (d' = true ∧ ∃ b, b.length ≤ logFree s ∧ t = appendLog b s) := by
  cases m with
  | log b h => exact .inr ⟨rfl, b, h, rfl⟩
  | quiet h => exact .inl ⟨h.keeps .logRecords (by decide), h.keeps .logSerial (by decide)⟩
  | slots h => exact .inl ⟨h .logRecords (by decide), h .logSerial (by decide)⟩
  | leave => rw [lowerMatchCounts_eq]; exact .inl ⟨rfl, rfl⟩
  | enter => rw [raiseMatchCounts_eq]; exact .inl ⟨rfl, rfl⟩
  | dispose => rw [applyEntry_eq]; exact .inl ⟨rfl, rfl⟩
  | _ => exact .inl ⟨rfl, rfl⟩

/-- A move takes the head record off the queue, or leaves the queue as it is. -/
theorem Move.records_cases (m : Move i d s i' d' t) :
    t.queue.records = s.queue.records ∨
    (t.queue.records = s.queue.records.tail ∧ d' = (d || s.queue.records.tail.isEmpty) ∧
      ∃ x, s.queue.records.head? = some x) := by
  cases m with
  | head h => exact .inr ⟨rfl, rfl, _, h⟩
  | quiet h => exact .inl (h.keeps .records (by decide))
  | slots h => exact .inl (h .records (by decide))
  | leave => rw [lowerMatchCounts_eq]; exact .inl rfl
  | enter => rw [raiseMatchCounts_eq]; exact .inl rfl
  | dispose => rw [applyEntry_eq]; exact .inl rfl
  | _ => exact .inl rfl

/-- A move disposes the record held, takes the entry of a reprint record off the Reprint List, or leaves the list as it is. -/
theorem Move.reprints_cases (m : Move i d s i' d' t) :
    t.reprints = s.reprints ∨
    (∃ x k e, Item.Takes x e ∧ i = some x ∧ t = applyEntry e (countDisposition k s) ∧
      d' = (d || t.reprints.length != s.reprints.length)) ∨
    (∃ seq, d' = true ∧ t.reprints = s.reprints.eraseP (ReprintEntry.isQueued seq)) := by
  cases m with
  | dispose k h => exact .inr (.inl ⟨_, k, _, h, rfl, rfl, rfl⟩)
  | release => exact .inr (.inr ⟨_, rfl, rfl⟩)
  | quiet h => exact .inl (h.keeps .reprints (by decide))
  | slots h => exact .inl (h .reprints (by decide))
  | leave => rw [lowerMatchCounts_eq]; exact .inl rfl
  | enter => rw [raiseMatchCounts_eq]; exact .inl rfl
  | _ => exact .inl rfl

/-- What a move does to the two queues of RING OUT. -/
theorem Move.ring_cases (m : Move i d s i' d' t) : Quiet s t ∨ t.ring = s.ring := by
  cases m with
  | quiet h => exact .inl h
  | slots h =>
    refine .inr ?_
    have e1 : t.ring.own = s.ring.own := h .own (by decide)
    have e2 : t.ring.forward = s.ring.forward := h .forward (by decide)
    have e3 : t.ring.linkUp = s.ring.linkUp := h .linkUp (by decide)
    have e4 : t.ring.out = s.ring.out := h .out (by decide)
    cases ht : t.ring
    cases hs : s.ring
    simp_all
  | leave => rw [lowerMatchCounts_eq]; exact .inr rfl
  | enter => rw [raiseMatchCounts_eq]; exact .inr rfl
  | dispose => rw [applyEntry_eq]; exact .inr rfl
  | _ => exact .inr rfl

/-- What a move does to the line: nothing, the permit, a stop or the close of a run. -/
inductive LineMove (i : Option Item) (d : Bool) (s : State) (i' : Option Item) (d' : Bool) (t : State) : Prop
  | kept (hs : t.line.state = s.line.state) (hd : t.line.drive = s.line.drive) (hp : t.line.permit = s.line.permit)
      (h : d = true → d' = true)
  | permit (h : d' = false) (ht : t = s.setLine { s.line with permit := permitConditions s })
  | stop (h : d' = true) (reason : StopReason) (hr : reason.takenIn s.line.state = true)
      (ht : t = s.setLine { s.line with state := reason.target, reason := some reason, drive := reason.target.drives })
  | close (h : d' = true) (hi : i = none) (hi' : i' = none)
      (hs : s.line.state = .draining ∨ (s.line.state ≠ .idle ∧ s.line.ending = true)) (hd : drained s = true)
      (ht : t = s.setLine { s.line with state := .closed, reason := none, drive := RunState.closed.drives })

theorem Move.line_cases (m : Move i d s i' d' t) : LineMove i d s i' d' t := by
  cases m with
  | permit => exact .permit rfl rfl
  | stop reason h => exact .stop rfl reason h rfl
  | close hs h => exact .close rfl rfl rfl hs h rfl
  | quiet h => exact .kept (h.keeps .runState (by decide)) (h.keeps .drive (by decide)) (h.keeps .permit (by decide)) id
  | slots h => exact .kept (h .runState (by decide)) (h .drive (by decide)) (h .permit (by decide)) id
  | leave => rw [lowerMatchCounts_eq]; exact .kept rfl rfl rfl id
  | enter => rw [raiseMatchCounts_eq]; exact .kept rfl rfl rfl id
  | dispose => rw [applyEntry_eq]; exact .kept rfl rfl rfl fun h => by rw [h, Bool.true_or]
  | head => exact .kept rfl rfl rfl fun h => by rw [h, Bool.true_or]
  | due => exact .kept rfl rfl rfl fun _ => rfl
  | log => exact .kept rfl rfl rfl fun _ => rfl
  | release => exact .kept rfl rfl rfl fun _ => rfl
  | _ => exact .kept rfl rfl rfl id

end

end Sys2Proof.Machine
end

section
/-! Capacities, log serials, bin counts, groups and node addresses (R8, R107, R109, R110, R127, R136, R163): kept by every move and
by every request. -/

namespace Sys2Proof.Machine

/-! ### Each invariant reads its own parts only -/

theorem LogSerialsConsecutive.of_eq {s t : State} (hr : t.log.records = s.log.records) (hs : t.log.serial = s.log.serial)
    (h : LogSerialsConsecutive s) : LogSerialsConsecutive t := by
  unfold LogSerialsConsecutive
  rw [hr, hs]
  exact h

theorem BinsSound.of_eq {s t : State} (hb : t.sort.bins = s.sort.bins) (h : BinsSound s) : BinsSound t := by
  intro b hlt
  have e : binAt b t = binAt b s := by unfold binAt; rw [hb]
  rw [e]
  exact h b hlt

/-- The groups of a state but for their reference counts. -/
abbrev GroupsAlike (s t : State) : Prop := ∀ g, { groupAt g t with refs := 0 } = { groupAt g s with refs := 0 }

theorem GroupsAlike.of_eq {s t : State} (h : t.sort.groups = s.sort.groups) : GroupsAlike s t := by
  intro g
  unfold groupAt
  rw [h]

theorem GroupsSound.of_alike {s t : State} (ha : GroupsAlike s t) (h : GroupsSound s) : GroupsSound t := by
  have e (g : Nat) : (groupAt g t).chain = (groupAt g s).chain ∧ (groupAt g t).target = (groupAt g s).target ∧
      (groupAt g t).minimum = (groupAt g s).minimum ∧ (groupAt g t).demote = (groupAt g s).demote := by
    have hg := Group.mk.injEq .. ▸ ha g
    obtain ⟨h1, h2, h3, h4, -⟩ := hg
    exact ⟨h1, h2, h3, h4⟩
  obtain ⟨h1, h2⟩ := h
  refine ⟨fun g hg => ?_, fun g hg k hk b => ?_⟩
  · obtain ⟨e1, e2, e3, e4⟩ := e g
    rw [e1, e2, e3, e4]
    exact h1 g hg
  · rw [(e g).1, (e k).1]
    exact h2 g hg k hk b

/-- The stations and the bins stand at the same nodes in both states. -/
abbrev NodesAlike (s t : State) : Prop :=
  (∀ i, (stationAt i t).map (·.node) = (stationAt i s).map (·.node)) ∧ ∀ b, (binAt b t).node = (binAt b s).node

theorem NodesDistinct.of_alike {s t : State} (ha : NodesAlike s t) (h : NodesDistinct s) : NodesDistinct t := by
  obtain ⟨hs, hb⟩ := ha
  obtain ⟨h1, h2, h3⟩ := h
  have back {i : Nat} {e : StationEntry} (he : stationAt i t = some e) : ∃ x, stationAt i s = some x ∧ x.node = e.node := by
    have hi := hs i
    rw [he] at hi
    obtain ⟨x, hx, hn⟩ := Option.map_eq_some_iff.mp hi.symm
    exact ⟨x, hx, hn⟩
  refine ⟨fun i hi e he j hj f hf hn => ?_, fun b hlt n hn c hc => ?_, fun i hi e he b hlt => ?_⟩
  · obtain ⟨x, hx, ex⟩ := back he
    obtain ⟨y, hy, ey⟩ := back hf
    exact h1 i hi x hx j hj y hy (by rw [ex, ey, hn])
  · rw [hb] at hn ⊢
    exact h2 b hlt n hn c hc
  · obtain ⟨x, hx, ex⟩ := back he
    rw [hb, ← ex]
    exact h3 i hi x hx b hlt

/-! ### The moves -/

theorem applyEntry_length {e : EntryEffect} {s : State} (h : s.reprints.length ≤ 256) :
    (applyEntry e s).reprints.length ≤ 256 := by
  cases e with
  | none => exact h
  | create seq inc reason =>
    change (createEntry seq inc reason s).reprints.length ≤ 256
    rw [createEntry_entered, entered]
    split
    · rw [List.length_append, List.length_singleton]
      omega
    · exact h
  | reopen seq reason =>
    change (updateEntry _ _ s.reprints).length ≤ 256
    rw [updateEntry_length]
    exact h

theorem logUsed_appendLog (b : LogBody) (s : State) : logUsed (appendLog b s) = logUsed s + b.length := by
  simp [logUsed, appendLog, LogRecord.length]

theorem WithinCapacity.move {i i' : Option Item} {d d' : Bool} {s t : State} (m : Move i d s i' d' t) (h : WithinCapacity s) :
    WithinCapacity t := by
  obtain ⟨h1, h2, h3, h4, h5⟩ := h
  refine ⟨?_, ?_, ?_, ?_, ?_⟩
  · obtain q | e := m.ring_cases
    · exact q.own h1
    · rw [e]; exact h1
  · obtain q | e := m.ring_cases
    · exact q.forward h2
    · rw [e]; exact h2
  · obtain e | ⟨e, -, -⟩ := m.records_cases
    · rw [e]; exact h3
    · rw [e, List.length_tail]; omega
  · obtain e | ⟨_, _, _, _, _, e, -⟩ | ⟨_, -, e⟩ := m.reprints_cases
    · rw [e]; exact h4
    · rw [e]; exact applyEntry_length h4
    · rw [e]; exact List.length_eraseP_le.trans h4
  · obtain ⟨e, -⟩ | ⟨-, b, hb, rfl⟩ := m.log_cases
    · unfold logUsed; rw [e]; exact h5
    · rw [logUsed_appendLog]
      unfold logFree Config.logCapacity at hb
      omega

theorem LogSerialsConsecutive.append {b : LogBody} {s : State} (h : LogSerialsConsecutive s) :
    LogSerialsConsecutive (appendLog b s) := by
  obtain ⟨h1, h2⟩ := h
  refine ⟨Nat.mod_lt _ (by decide), fun k hk x hx => ?_⟩
  simp only [appendLog, State.setLog_log, List.length_append, List.length_singleton] at hk hx ⊢
  obtain hlt | rfl : k < s.log.records.length ∨ k = s.log.records.length := by omega
  · rw [List.getElem?_append_left hlt] at hx
    have hs := h2 k hlt x hx
    omega
  · rw [List.getElem?_append_right (Nat.le_refl _), Nat.sub_self] at hx
    obtain rfl : _ = x := Option.some.inj hx
    dsimp only
    omega

theorem LogSerialsConsecutive.move {i i' : Option Item} {d d' : Bool} {s t : State} (m : Move i d s i' d' t)
    (h : LogSerialsConsecutive s) : LogSerialsConsecutive t := by
  obtain ⟨e1, e2⟩ | ⟨-, b, -, rfl⟩ := m.log_cases
  · exact h.of_eq e1 e2
  · exact h.append

theorem BinsSound.put {b : Nat} {x : Bin} {s : State} (hb : b < 32) (h : BinsSound s) (hx : x.sound) :
    BinsSound (putBin b x s) := by
  intro k hk
  rw [binAt_putBin _ _ _ _ hb]
  split
  · exact hx
  · exact h k hk

theorem Bin.Alike.sound {x y : Bin} (ha : x.Alike y) (h : x.sound) : y.sound := by
  obtain ⟨-, h2, h3, h4, h5⟩ := ha
  unfold Bin.sound
  rw [h2, h3, h4, h5]
  exact h

theorem Bin.accepts_iff {x : Bin} :
    x.accepts = true ↔ x.state = .open ∧ x.committed < x.capacity.getD 0 ∧ x.flights.length < 8 := by
  simp [Bin.accepts, Config.flightCapacity, and_assoc]

theorem BinsSound.move {i i' : Option Item} {d d' : Bool} {s t : State} (m : Move i d s i' d' t) (h : BinsSound s) :
    BinsSound t := by
  cases m with
  | bin hb ha => exact h.put hb (ha.sound (h _ hb))
  | sweep hb ha =>
    refine h.put hb (ha.sound ?_)
    have hx := h _ hb
    exact ⟨by simp, by dsimp only; omega, hx.2.2⟩
  | drop hb hf =>
    refine h.put hb ?_
    have hx := h _ hb
    have hlen := List.length_erase_of_mem hf
    have hpos := List.length_pos_of_mem hf
    dsimp only [Bin.sound]
    omega
  | land hb hf =>
    refine h.put hb ?_
    have hx := h _ hb
    rw [Bin.sound, hf, List.length_cons] at hx
    dsimp only [Bin.sound]
    omega
  | select hb ha =>
    refine h.put hb ?_
    obtain ⟨-, h1, h2⟩ := Bin.accepts_iff.mp ha
    have hx := h _ hb
    dsimp only [Bin.sound, Bin.select]
    rw [List.length_append, List.length_singleton]
    omega
  | quiet hq => exact h.of_eq (hq.keeps.bins_eq (by decide))
  | slots hk => exact h.of_eq (hk.bins_eq (by decide))
  | leave => exact h.of_eq (lowerMatchCounts_bins ..)
  | enter => exact h.of_eq (raiseMatchCounts_bins ..)
  | dispose => rw [applyEntry_eq]; exact h
  | _ => exact h

theorem putGroup_of_le {g : Nat} (h : 16 ≤ g) (x : Group) (s : State) : putGroup g x s = s := by
  have e : s.sort.groups.setIfInBounds g x = s.sort.groups := by
    ext i hi
    rw [Vector.getElem_setIfInBounds hi, if_neg (by omega)]
  unfold putGroup
  rw [e]
  rfl

theorem putRefs_alike (g n : Nat) (s : State) : GroupsAlike s (putGroup g { groupAt g s with refs := n } s) := by
  intro k
  by_cases hg : g < 16
  · rw [groupAt_putGroup _ _ _ _ hg]
    split
    next h => rw [h]
    · rfl
  · rw [putGroup_of_le (not_lt.mp hg)]

theorem raiseMatchCounts_alike (m : SchemeMatch) (s : State) : GroupsAlike s (raiseMatchCounts m s) := by
  unfold raiseMatchCounts
  cases m.entry <;> exact putRefs_alike _ _ _

theorem lowerMatchCounts_alike (m : SchemeMatch) (s : State) : GroupsAlike s (lowerMatchCounts m s) := by
  unfold lowerMatchCounts
  cases m.entry <;> exact putRefs_alike _ _ _

theorem GroupsSound.move {i i' : Option Item} {d d' : Bool} {s t : State} (m : Move i d s i' d' t) (h : GroupsSound s) :
    GroupsSound t := by
  cases m with
  | quiet hq => exact h.of_alike (.of_eq (hq.keeps .groups (by decide)))
  | slots hk => exact h.of_alike (.of_eq (hk .groups (by decide)))
  | leave => exact GroupsSound.of_alike (lowerMatchCounts_alike _ _) h
  | enter => exact GroupsSound.of_alike (raiseMatchCounts_alike _ _) h
  | dispose => rw [applyEntry_eq]; exact h
  | _ => exact h

theorem NodesAlike.putBin {b : Nat} {x : Bin} {s : State} (hx : x.node = (binAt b s).node) : NodesAlike s (putBin b x s) := by
  refine ⟨fun _ => rfl, fun k => ?_⟩
  by_cases hb : b < 32
  · rw [binAt_putBin _ _ _ _ hb]
    split
    next h => rw [h, hx]
    · rfl
  · have e : s.sort.bins.setIfInBounds b x = s.sort.bins := by
      ext i hi : 2
      rw [Vector.getElem_setIfInBounds hi, if_neg (by omega)]
    unfold Machine.putBin binAt
    rw [State.setSort_sort, e]

theorem NodesAlike.of_eq {s t : State} (hs : t.track.stations = s.track.stations) (hb : t.sort.bins = s.sort.bins) :
    NodesAlike s t := by
  refine ⟨fun i => ?_, fun b => ?_⟩
  · unfold stationAt; rw [hs]
  · unfold binAt; rw [hb]

theorem Move.nodes {i i' : Option Item} {d d' : Bool} {s t : State} (m : Move i d s i' d' t) : NodesAlike s t := by
  cases m with
  | bin hb ha => exact .putBin ha.node
  | sweep hb ha => exact .putBin ha.node
  | drop => exact .putBin rfl
  | land => exact .putBin rfl
  | select => exact .putBin rfl
  | quiet hq =>
    refine ⟨hq.nodes, fun b => ?_⟩
    rw [binAt_eq_of_keeps hq.keeps (by decide)]
  | slots hk => exact .of_eq (hk .stations (by decide)) (hk .bins (by decide))
  | leave => rw [lowerMatchCounts_eq]; exact .of_eq rfl (lowerMatchCounts_bins ..)
  | enter => rw [raiseMatchCounts_eq]; exact .of_eq rfl (raiseMatchCounts_bins ..)
  | dispose => rw [applyEntry_eq]; exact .of_eq rfl rfl
  | _ => exact .of_eq rfl rfl

/-! ### What keeps all five -/

/-- The step keeps the five invariants. -/
structure Safe (s t : State) : Prop where
  capacity : WithinCapacity s → WithinCapacity t
  serials : LogSerialsConsecutive s → LogSerialsConsecutive t
  bins : BinsSound s → BinsSound t
  groups : GroupsSound s → GroupsSound t
  nodes : NodesDistinct s → NodesDistinct t

theorem Safe.refl (s : State) : Safe s s := ⟨id, id, id, id, id⟩

theorem Safe.trans {s t u : State} (h : Safe s t) (k : Safe t u) : Safe s u :=
  ⟨k.capacity ∘ h.capacity, k.serials ∘ h.serials, k.bins ∘ h.bins, k.groups ∘ h.groups, k.nodes ∘ h.nodes⟩

theorem Moves.safe {i i' : Option Item} {d d' : Bool} {s t : State} (m : Moves i d s i' d' t) : Safe s t where
  capacity := m.induct (P := fun _ _ => WithinCapacity) fun m h => WithinCapacity.move m h
  serials := m.induct (P := fun _ _ => LogSerialsConsecutive) fun m h => LogSerialsConsecutive.move m h
  bins := m.induct (P := fun _ _ => BinsSound) fun m h => BinsSound.move m h
  groups := m.induct (P := fun _ _ => GroupsSound) fun m h => GroupsSound.move m h
  nodes := m.induct (P := fun _ _ => NodesDistinct) fun m h => NodesDistinct.of_alike m.nodes h

/-- Chains of moves with nothing held and the feed permit never due. -/
abbrev Course.moves {s t : State} (h : Course s t) : Moves none true s none true t := h true

/-- The parts that the five invariants read. -/
abbrev safeParts : List Part :=
  [.own, .forward, .records, .reprints, .logRecords, .logSerial, .bins, .groups, .stations]

theorem Safe.of_keeps {l : List Part} {s t : State} (h : KeepsAllBut l s t) (hl : ∀ p ∈ safeParts, p ∉ l) : Safe s t := by
  have e1 : t.ring.own = s.ring.own := h .own (hl _ (by decide))
  have e2 : t.ring.forward = s.ring.forward := h .forward (hl _ (by decide))
  have e3 : t.queue.records = s.queue.records := h .records (hl _ (by decide))
  have e4 : t.reprints = s.reprints := h .reprints (hl _ (by decide))
  have e5 : t.log.records = s.log.records := h .logRecords (hl _ (by decide))
  have e6 : t.log.serial = s.log.serial := h .logSerial (hl _ (by decide))
  have e7 : t.sort.bins = s.sort.bins := h .bins (hl _ (by decide))
  have e8 : t.sort.groups = s.sort.groups := h .groups (hl _ (by decide))
  have e9 : t.track.stations = s.track.stations := h .stations (hl _ (by decide))
  refine ⟨fun hc => ?_, fun hc => hc.of_eq e5 e6, fun hc => hc.of_eq e7, fun hc => hc.of_alike (.of_eq e8),
    fun hc => hc.of_alike (.of_eq e9 e7)⟩
  unfold WithinCapacity logUsed
  rw [e1, e2, e3, e4, e5]
  exact hc

/-- The step keeps the parts of the other four, and the capacities. -/
theorem Safe.of_capacity {l : List Part} {s t : State} (h : KeepsAllBut l s t)
    (hl : ∀ p ∈ ([.logRecords, .logSerial, .bins, .groups, .stations] : List Part), p ∉ l)
    (hc : WithinCapacity s → WithinCapacity t) : Safe s t :=
  ⟨hc, fun k => k.of_eq (h .logRecords (hl _ (by decide))) (h .logSerial (hl _ (by decide))),
    fun k => k.of_eq (h .bins (hl _ (by decide))), fun k => k.of_alike (.of_eq (h .groups (hl _ (by decide)))),
    fun k => k.of_alike (.of_eq (h .stations (hl _ (by decide))) (h .bins (hl _ (by decide))))⟩

/-! ### The requests -/

theorem setLine_safe (s : State) (x : LineControl) : Safe s (s.setLine x) := ⟨id, id, id, id, id⟩

theorem evalPermit_safe (s : State) : Safe s (evalPermit s) :=
  (evalPermit_moves (i := none) (d := true) .start).safe

theorem enterState_safe (st : RunState) (reason : Option StopReason) (s : State) : Safe s (enterState st reason s) :=
  (setLine_safe s _).trans (evalPermit_safe _)

theorem writeLog_safe (b : LogBody) (s : State) : Safe s (writeLog b s) :=
  (writeLog_moves (i := none) (d := true) b .start).safe

theorem setEnding_safe (s : State) : Safe s (setEnding s) := (setLine_safe s _).trans (evalPermit_safe _)

theorem judgeRecord_ok {body : List Byte} {x : JobRecord} {s : State} (h : judgeRecord body s = .ok x) :
    s.queue.records.length < 64 := by
  unfold judgeRecord at h
  split at h
  · split at h
    · exact absurd h (by simp)
    · split at h
      · split at h
        · exact absurd h (by simp)
        · split at h
          · exact absurd h (by simp)
          next hlen => exact not_le.mp hlen
      · exact absurd h (by simp)
  · exact absurd h (by simp)

/-- The record has joined the queue and is counted (R7). -/
def joinQueue (x : JobRecord) (s : State) : State :=
  let t := s.setQueue { s.queue with
    records := s.queue.records ++ [x], last := if x.reprint then s.queue.last else some x.seq }
  countAccepted (if x.reprint then queueEntry x.seq t else t)

theorem acceptRecord_eq (x : JobRecord) (s : State) :
    acceptRecord x s = checkHold (if s.queue.records.isEmpty then evalPermit (joinQueue x s) else joinQueue x s) := rfl

theorem joinQueue_records (x : JobRecord) (s : State) : (joinQueue x s).queue.records = s.queue.records ++ [x] := by
  unfold joinQueue
  dsimp only
  split <;> rfl

theorem joinQueue_reprints (x : JobRecord) (s : State) : (joinQueue x s).reprints =
    if x.reprint then updateEntry (fun e => e.seq == x.seq) (fun e => { e with state := .queued }) s.reprints
    else s.reprints := by
  unfold joinQueue
  dsimp only
  split <;> rfl

theorem joinQueue_keeps (x : JobRecord) (s : State) :
    KeepsAllBut [.records, .last, .reprints, .counters] s (joinQueue x s) := by
  unfold joinQueue
  dsimp only
  split
  · intro p hp
    cases p <;> first | rfl | exact absurd (by decide) hp
  · intro p hp
    cases p <;> first | rfl | exact absurd (by decide) hp

theorem joinQueue_safe {x : JobRecord} {s : State} (hlen : s.queue.records.length < 64) : Safe s (joinQueue x s) := by
  refine .of_capacity (joinQueue_keeps x s) (by decide) fun h => ?_
  obtain ⟨h1, h2, h3, h4, h5⟩ := h
  have hk := joinQueue_keeps x s
  refine ⟨?_, ?_, ?_, ?_, ?_⟩
  · rw [(hk .own (by decide) : _ = s.ring.own)]; exact h1
  · rw [(hk .forward (by decide) : _ = s.ring.forward)]; exact h2
  · rw [joinQueue_records, List.length_append, List.length_singleton]; omega
  · rw [joinQueue_reprints]
    split
    · rw [updateEntry_length]; exact h4
    · exact h4
  · unfold logUsed
    rw [(hk .logRecords (by decide) : _ = s.log.records)]; exact h5

theorem acceptRecord_safe {x : JobRecord} {s : State} (hlen : s.queue.records.length < 64) : Safe s (acceptRecord x s) := by
  rw [acceptRecord_eq]
  refine Safe.trans (joinQueue_safe (x := x) hlen) ?_
  split
  · exact ((evalPermit_moves (i := none) (d := true) .start).quiet (checkHold_quiet _)).safe
  · exact ((Moves.start (i := none) (d := true)).quiet (checkHold_quiet _)).safe

theorem dropLog_safe (n : Nat) (s : State) : Safe s (s.setLog { s.log with records := s.log.records.drop n }) := by
  refine ⟨fun h => ?_, fun h => ?_, id, id, id⟩
  · obtain ⟨h1, h2, h3, h4, h5⟩ := h
    refine ⟨h1, h2, h3, h4, le_trans ?_ h5⟩
    exact List.Sublist.sum_le_sum ((List.drop_sublist n _).map _) fun _ _ => Nat.zero_le _
  · obtain ⟨h1, h2⟩ := h
    refine ⟨h1, fun k hk x hx => ?_⟩
    simp only [State.setLog_log, List.length_drop, List.getElem?_drop] at hk hx ⊢
    have hs := h2 (n + k) (by omega) x hx
    rw [← hs]
    congr 2
    omega

theorem requestEntries_length (n : Nat) (l : List ReprintEntry) : (requestEntries n l).length = l.length := by
  induction l generalizing n with
  | nil => cases n <;> rfl
  | cons e l ih =>
    cases n with
    | zero => rfl
    | succ n =>
      unfold requestEntries
      split <;> rw [List.length_cons, ih, List.length_cons]

theorem setReprints_safe {l : List ReprintEntry} {s : State} (h : l.length ≤ s.reprints.length) : Safe s (s.setReprints l) :=
  ⟨fun ⟨h1, h2, h3, h4, h5⟩ => ⟨h1, h2, h3, h.trans h4, h5⟩, id, id, id, id⟩

theorem clearLate_nodes (s : State) : NodesAlike s (clearLate s) := by
  refine ⟨fun k => ?_, fun _ => rfl⟩
  simp only [stationAt, clearLate, State.setTrack_track, Vector.getElem?_map]
  cases s.track.stations[k]? with
  | none => rfl
  | some x => cases x <;> rfl

theorem clearLate_safe (s : State) : Safe s (clearLate s) := ⟨id, id, id, id, fun h => h.of_alike (clearLate_nodes s)⟩

theorem clearTrack_safe (s : State) : Safe s (clearTrack s) := by
  refine Safe.trans ?_ (clearLate_safe _)
  exact ⟨id, id, id, id, id⟩

theorem openRun_safe (id : Word) (s : State) : Safe s (openRun id s) := by
  refine Safe.trans ?_ (writeLog_safe _ _)
  refine Safe.trans ?_ (enterState_safe _ _ _)
  refine Safe.trans (t := emptyRings (clearPockets ((s.setLine { s.line with
    runId := id, locked := true, counters := Counters.zero }).setQueue { s.queue with last := none }))) ?_ (clearTrack_safe _)
  exact ⟨fun h => h, fun h => h, fun h => h, fun h => h, fun h => h⟩

theorem startRun_safe (s : State) : Safe s (startRun s) := (writeLog_safe _ _).trans (enterState_safe _ _ _)

theorem resumeRun_safe (s : State) : Safe s (resumeRun s) := by
  unfold resumeRun
  split
  · exact (enterState_safe _ _ _).trans (drainCheck_moves (d := true) .start).safe
  · exact enterState_safe _ _ _

/-- A move does not bring an open run back to IDLE. -/
theorem Moves.ne_idle {i i' : Option Item} {d d' : Bool} {s t : State} (m : Moves i d s i' d' t) (h : s.line.state ≠ .idle) :
    t.line.state ≠ .idle := by
  refine m.induct (P := fun _ _ s => s.line.state ≠ .idle) (fun m h => ?_) h
  cases m.line_cases with
  | kept hs => rw [hs]; exact h
  | permit _ ht => rw [ht]; exact h
  | stop _ reason _ ht =>
    rw [ht]
    cases reason <;> exact fun h => by cases h
  | close _ _ _ _ _ ht =>
    rw [ht]
    exact fun h => by cases h

theorem Moves.keeps {i i' : Option Item} {d d' : Bool} {s t : State} (m : Moves i d s i' d' t) : KeepsAllBut moveParts s t :=
  m.induct (P := fun _ _ => KeepsAllBut moveParts s) (fun m h => h.trans m.keeps) (.start _ s)

/-- The work of FLUSH up to its check: the queue is given up and the collation closed, and a RUNNING line drains (R151). -/
def flushIntake (s : State) : State :=
  let t := flushPocket (unfedAll (setEnding (writeLog (.run .flush s.line.runId none) s)))
  if t.line.state = .running then enterState .draining none t else t

theorem flushRun_eq (s : State) : flushRun s = flushCheck (flushIntake s) := rfl

/-- The intake has ended: the flag is set (R151). -/
theorem setEnding_ending (s : State) : (setEnding s).line.ending = true :=
  (evalPermit_keeps (List.Subset.refl permitParts) (.start _ _) .ending (by decide)).trans rfl

theorem flushed_moves (s : State) (d : Bool) :
    Moves none d (setEnding s) none d (flushPocket (unfedAll (setEnding s))) :=
  flushPocket_moves (unfedAll_moves .start)

theorem flushIntake_line {s : State} (h : s.line.state ≠ .idle) :
    (flushIntake s).line.state ≠ .idle ∧ (flushIntake s).line.ending = true := by
  have m := flushed_moves (writeLog (.run .flush s.line.runId none) s) true
  have hw := (writeLog_moves (a := none) (i := none) (c := true) (d := true) (.run .flush s.line.runId none) .start).ne_idle h
  have hs : (setEnding (writeLog (.run .flush s.line.runId none) s)).line.state ≠ .idle := by
    rw [(setEnding_keeps (l := .ending :: permitParts) (by decide) (.start _ _)).state_eq (by decide)]
    exact hw
  have he := (m.keeps.ending_eq (by decide)).trans (setEnding_ending _)
  unfold flushIntake
  dsimp only
  split
  · refine ⟨?_, ?_⟩
    · rw [(enterState_line _ _ _).1]
      exact fun h => by cases h
    · exact ((enterState_keeps (List.Subset.refl stateParts) (.start _ _) _ _).ending_eq (by decide)).trans he
  · exact ⟨m.ne_idle hs, he⟩

/-- The check of FLUSH is a drain completion or nothing. -/
theorem flushCheck_moves {d : Bool} {s : State} (hs : s.line.state ≠ .idle) (he : s.line.ending = true) :
    Moves none d s none d (flushCheck s) := by
  unfold flushCheck
  split
  next h => exact completeDrain_moves (.inr ⟨hs, he⟩) h .start
  · exact .start

theorem flushIntake_safe (s : State) : Safe s (flushIntake s) := by
  have h : Safe s (flushPocket (unfedAll (setEnding (writeLog (.run .flush s.line.runId none) s)))) :=
    ((writeLog_safe _ _).trans (setEnding_safe _)).trans (flushed_moves _ true).safe
  unfold flushIntake
  dsimp only
  split
  · exact h.trans (enterState_safe _ _ _)
  · exact h

theorem flushRun_safe {s : State} (h : s.line.state ≠ .idle) : Safe s (flushRun s) := by
  obtain ⟨hs, he⟩ := flushIntake_line h
  rw [flushRun_eq]
  exact (flushIntake_safe s).trans (flushCheck_moves (d := true) hs he).safe

/-- The line of an ABORT as it is cleared: DRIVE_RUN off and the ending flag set (R153). -/
def abortLine (s : State) : State :=
  let t := writeLog (.run .abort s.line.runId none) s
  setEnding (t.setLine { t.line with drive := false })

/-- Everything on the line disposed (R153). -/
def abortWork (s : State) : State :=
  abortBins (abortTrack (disposeCollecting .aborted (disposeStaging .aborted (unfedAll s))))

/-- The close of an aborted run (R153). -/
def abortClose (s : State) : State := enterState .closed none (writeLog (.run .closed s.line.runId (some s.line.counters)) s)

theorem abortRun_eq (s : State) : abortRun s = abortClose (abortWork (abortLine s)) := by
  unfold abortRun abortClose abortWork abortLine
  dsimp only

theorem abortWork_moves {d : Bool} (s : State) : Moves none d s none d (abortWork s) :=
  abortBins_moves (abortTrack_moves (disposeCollecting_moves _ (disposeStaging_moves _ (unfedAll_moves .start))))

theorem abortRun_safe (s : State) : Safe s (abortRun s) := by
  have hclose (t : State) : Safe t (abortClose t) := (writeLog_safe _ _).trans (enterState_safe _ _ _)
  rw [abortRun_eq]
  refine Safe.trans ?_ (hclose _)
  refine Safe.trans ?_ (abortWork_moves (d := true) _).safe
  exact ((writeLog_safe _ _).trans (setLine_safe _ _)).trans (setEnding_safe _)

theorem closeRun_safe (s : State) : Safe s (closeRun s) := by
  refine Safe.trans ?_ (enterState_safe _ _ _)
  exact ((setLine_safe s _).trans (setReprints_safe (Nat.zero_le _))).trans
    ⟨fun h => h, fun h => h, fun h => h, fun h => h, fun h => h⟩

theorem resetQueue_safe (s : State) : Safe s (resetQueue s) := by
  have h : Safe s (s.setQueue { s.queue with records := [], last := none }) :=
    ⟨fun ⟨h1, h2, _, h4, h5⟩ => ⟨h1, h2, Nat.zero_le _, h4, h5⟩, fun h => h, fun h => h, fun h => h, fun h => h⟩
  unfold resetQueue
  dsimp only
  split
  · exact h.trans ((Moves.start (i := none) (d := true)).quiet (releaseFlow_quiet _)).safe
  · exact h

theorem binAt_resetSort (b : Nat) (s : State) : binAt b (resetSort s) = (binAt b s).resetLine := by
  simp only [binAt, resetSort, State.setSort_sort, Vector.getElem?_map]
  cases s.sort.bins[b]? <;> rfl

theorem groupAt_resetSort (g : Nat) (s : State) : groupAt g (resetSort s) = { groupAt g s with refs := 0 } := by
  simp only [groupAt, resetSort, State.setSort_sort, Vector.getElem?_map]
  cases s.sort.groups[g]? <;> rfl

theorem resetSort_safe (s : State) : Safe s (resetSort s) := by
  have hn : NodesAlike s (resetSort s) := ⟨fun _ => rfl, fun b => by rw [binAt_resetSort]; rfl⟩
  have hg : GroupsAlike s (resetSort s) := fun g => by rw [groupAt_resetSort]
  refine ⟨id, id, fun h b hb => ?_, fun h => h.of_alike hg, fun h => h.of_alike hn⟩
  · obtain ⟨h1, h2, h3⟩ := h b hb
    rw [binAt_resetSort]
    refine ⟨rfl, ?_, Nat.zero_le _⟩
    change (binAt b s).landed ≤ _
    exact le_trans (by omega) h2

theorem clearPockets_safe (s : State) : Safe s (clearPockets s) := ⟨id, id, id, id, id⟩

/-- The line emptied, with the log asked for RUN RESET (R155). -/
def resetQueues (s : State) : State := clearPockets (resetQueue (writeLog (.run .reset s.line.runId none) s))

/-- The tables of a run reset (R155). -/
def resetTables (s : State) : State := (emptyRings (resetSort (clearTrack (resetQueues s)))).setReprints []

theorem resetLine_eq (s : State) : resetLine s = enterState .idle none (releaseHeader (resetTables s)) := by
  unfold resetLine resetTables resetQueues
  dsimp only

theorem resetTables_safe (s : State) : Safe s (resetTables s) := by
  have h1 : Safe s (resetQueues s) := ((writeLog_safe _ _).trans (resetQueue_safe _)).trans (clearPockets_safe _)
  have h2 := ((h1.trans (clearTrack_safe _)).trans (resetSort_safe _)).trans
    ((Moves.start (i := none) (d := true)).quiet (emptyRings_quiet _)).safe
  exact h2.trans (setReprints_safe (Nat.zero_le _))

theorem resetLine_safe (s : State) : Safe s (resetLine s) := by
  rw [resetLine_eq]
  exact ((resetTables_safe s).trans (setLine_safe _ _)).trans (enterState_safe _ _ _)

/-- The fields of a LOAD PROFILE are written (R166). -/
def loadFields (p : ProfileFields) (s : State) : State := loadLimits p (loadTrack p (loadEnvelope p (loadStocks p.stocks s)))

theorem writeProfile_eq (p : ProfileFields) (s : State) : writeProfile p s =
    evalPermit (if p.high = s.queue.high && lowMark p = s.queue.low then loadFields p s
      else checkMarks (loadFields p s)) := rfl

/-- What the fields of a LOAD PROFILE are. -/
abbrev fieldParts : List Part :=
  [.high, .low, .sheetLimit, .strayLimit, .stocks, .allowance, .limit, .letterLimit, .flatLimit, .slots, .boundary, .length,
    .pulses, .window, .reserve]

theorem loadFields_keeps (p : ProfileFields) (s : State) : KeepsAllBut fieldParts s (loadFields p s) :=
  loadLimits_keeps (by decide) (loadTrack_keeps (by decide) (loadEnvelope_keeps (by decide)
    (loadStocks_keeps (by decide) (.start _ s) _) _) _) _

theorem writeProfile_safe (p : ProfileFields) (s : State) : Safe s (writeProfile p s) := by
  have h : Safe s (loadFields p s) := .of_keeps (loadFields_keeps p s) (by decide)
  rw [writeProfile_eq]
  refine Safe.trans ?_ (evalPermit_safe _)
  split
  · exact h
  · exact h.trans ((Moves.start (i := none) (d := true)).quiet (checkMarks_quiet _)).safe

end Sys2Proof.Machine
end

section
/-! The tables that a load changes, and the invariants of the part's queues, tables and outputs at every step (O55, O56, O57, and
parts of O59). -/

namespace Sys2Proof.Machine

/-! ### Loads of tables -/

theorem binOfNode_eq_none {n : Nat} {s : State} : binOfNode n s = none ↔ ∀ b < 32, (binAt b s).node ≠ some n := by
  simp [binOfNode, List.find?_eq_none]

theorem stationOfNode_eq_none {n : Nat} {s : State} :
    stationOfNode n s = none ↔ ∀ i e, stationAt i s = some e → e.node ≠ n := by
  unfold stationOfNode
  rw [List.head?_eq_none_iff, List.eq_nil_iff_forall_not_mem]
  constructor
  · intro h i e he hn
    exact h (i, e) (mem_stationsWhere.mpr ⟨he, by simpa using hn⟩)
  · intro h x hx
    obtain ⟨he, hn⟩ := mem_stationsWhere.mp hx
    exact h x.1 x.2 he (by simpa using hn)

/-- The entries of a table that stand in two positions, the first before the second. -/
theorem pairwise_tableEntries {R : StationEntry → StationEntry → Prop} {t : Vector (Option StationEntry) 24} :
    (tableEntries t).Pairwise R ↔
      ∀ i j : Nat, i < j → ∀ a b, t[i]? = some (some a) → t[j]? = some (some b) → R a b := by
  unfold tableEntries
  rw [List.pairwise_filterMap, List.pairwise_iff_getElem]
  constructor
  · intro h i j hij a b ha hb
    obtain ⟨hi, ea⟩ := Vector.getElem?_eq_some_iff.mp ha
    obtain ⟨hj, eb⟩ := Vector.getElem?_eq_some_iff.mp hb
    refine h i j (by simpa using hi) (by simpa using hj) hij a ?_ b ?_
    · simpa using ea
    · simpa using eb
  · intro h i j hi hj hij a ea b eb
    rw [Vector.length_toList] at hi hj
    refine h i j hij a b ?_ ?_
    · rw [Vector.getElem?_eq_getElem hi]
      simpa using ea
    · rw [Vector.getElem?_eq_getElem hj]
      simpa using eb

theorem mem_tableEntries {e : StationEntry} {t : Vector (Option StationEntry) 24} :
    e ∈ tableEntries t ↔ ∃ i : Nat, t[i]? = some (some e) := by
  simp only [tableEntries, List.mem_filterMap, id, exists_eq_right, Vector.mem_toList_iff, Vector.mem_iff_getElem?]

theorem stationAt_eq_some {i : Nat} {e : StationEntry} {s : State} :
    stationAt i s = some e ↔ s.track.stations[i]? = some (some e) := by
  unfold stationAt
  cases s.track.stations[i]? <;> simp

theorem loadStations_nodes {t : Vector (Option StationEntry) 24} {s : State} (ht : tableOk (tableEntries t) s = true)
    (h : NodesDistinct s) : NodesDistinct (s.setTrack { s.track with stations := t }) := by
  simp only [tableOk, Bool.and_eq_true, List.all_eq_true, decide_eq_true_eq] at ht
  obtain ⟨hok, hpair⟩ := ht
  rw [pairwise_tableEntries] at hpair
  obtain ⟨-, h2, -⟩ := h
  have ne {i j : Nat} (hij : i < j) {a b : StationEntry} (ha : t[i]? = some (some a)) (hb : t[j]? = some (some b)) :
      a.node ≠ b.node := by
    have hab := hpair i j hij a b ha hb
    simp only [entriesAgree, Bool.and_eq_true] at hab
    obtain ⟨⟨⟨⟨⟨hn, -⟩, -⟩, -⟩, -⟩, -⟩ := hab
    simpa using hn
  refine ⟨fun i _ a ha j _ b hb hn => ?_, h2, fun i _ e he b hlt => ?_⟩
  · rw [stationAt_eq_some] at ha hb
    obtain hij | rfl | hij := Nat.lt_trichotomy i j
    · exact absurd hn (ne hij ha hb)
    · rfl
    · exact absurd hn.symm (ne hij hb ha)
  · have he' := hok e (mem_tableEntries.mpr ⟨i, stationAt_eq_some.mp he⟩)
    simp only [entryOk, Bool.and_eq_true] at he'
    obtain ⟨⟨⟨⟨⟨⟨-, hnone⟩, -⟩, -⟩, -⟩, -⟩, -⟩ := he'
    rw [Option.isNone_iff_eq_none] at hnone
    exact binOfNode_eq_none.mp hnone b hlt

theorem loadStations_safe {t : Vector (Option StationEntry) 24} {s : State} (ht : tableOk (tableEntries t) s = true) :
    Safe s (s.setTrack { s.track with stations := t }) :=
  ⟨fun h => h, fun h => h, fun h => h, fun h => h, loadStations_nodes ht⟩

theorem binInRange_iff {b node capacity : Nat} {s : State} :
    binInRange b node capacity s = true ↔ BinLoadSound b node capacity s := by
  simp only [binInRange, BinLoadSound, Bool.and_eq_true, decide_eq_true_eq, List.all_eq_true, List.mem_range, Bool.or_eq_true,
    beq_iff_eq, bne_iff_ne, Option.isNone_iff_eq_none, stationOfNode_eq_none, and_assoc]
  refine and_congr_right fun _ => and_congr_right fun _ => and_congr_right fun _ => and_congr_right fun _ => ?_
  refine and_congr ?_ (and_congr ?_ Iff.rfl)
  · exact forall₂_congr fun c _ => or_iff_not_imp_left
  · exact ⟨fun h i _ => h i, fun h i e he => h i (stationAt_lt he) e he⟩

theorem binBusy_iff {b : Nat} {s : State} : binBusy b s = true ↔ BinInUse b s := by
  simp [binBusy, BinInUse]

theorem loadBin_safe {b node capacity : Nat} {s : State} (hr : binInRange b node capacity s = true)
    (hb : binBusy b s = false) :
    Safe s (putBin b { binAt b s with node := some node, capacity := some capacity } s) := by
  obtain ⟨hlt, -, -, -, hbins, hstations, -, -, hcap⟩ := binInRange_iff.mp hr
  replace hlt : b < 32 := by omega
  have hfree : (binAt b s).flights = [] := by
    by_contra hf
    have := binBusy_iff.mpr (.inl hf)
    simp [this] at hb
  refine ⟨fun h => h, fun h => h, fun h => h.put hlt ?_, fun h => h, fun ⟨h1, h2, h3⟩ => ?_⟩
  · have hx := h b hlt
    rw [Bin.sound, hfree, List.length_nil] at hx
    simp only [Bin.sound, hfree, List.length_nil, Option.getD_some]
    omega
  · refine ⟨h1, fun c hc n hn k hk hk' => ?_, fun i hi e he c hc => ?_⟩
    · rw [binAt_putBin _ _ _ _ hlt] at hn hk'
      split at hn
      next hcb =>
        obtain rfl : node = n := Option.some.inj hn
        split at hk'
        next hkb => rw [hcb, hkb]
        next hkb => exact absurd hk' (hbins k hk hkb)
      next hcb =>
        split at hk'
        next hkb =>
          obtain rfl : node = n := Option.some.inj hk'
          exact absurd hn (hbins c hc hcb)
        · exact h2 c hc n hn k hk hk'
    · rw [binAt_putBin _ _ _ _ hlt]
      split
      · intro hn
        exact hstations i hi e he (Option.some.inj hn).symm
      · exact h3 i hi e he c hc

theorem groupInRange_iff {f : GroupFields} {s : State} : groupInRange f s = true ↔ GroupLoadSound f s := by
  simp only [groupInRange, GroupLoadSound, Bool.and_eq_true, decide_eq_true_eq, List.all_eq_true, List.mem_range,
    Bool.or_eq_true, beq_iff_eq, Bool.not_eq_true', and_assoc]
  refine and_congr_right fun _ => and_congr_right fun _ => and_congr_right fun _ => ?_
  rw [and_comm]
  refine and_congr_right fun _ => ?_
  constructor
  · intro h g hg hne x hx hmem
    obtain e | e := h x hx g hg
    · exact hne e
    · simp [hmem] at e
  · intro h x hx g hg
    by_cases e : g = f.group
    · exact .inl e
    · exact .inr (by simpa using h g hg e x hx)

theorem readGroup_length {items : List Byte} {f : GroupFields} (h : readGroup items = some f) : f.chain.length ≤ 4 := by
  unfold readGroup at h
  dsimp only at h
  split at h
  next hn =>
    simp only [Bool.and_eq_true, decide_eq_true_eq] at hn
    obtain rfl := Option.some.inj h
    rw [List.length_map, List.length_take]
    omega
  · exact absurd h (by simp)

theorem loadGroup_sound {items : List Byte} {f : GroupFields} {s : State} (hf : readGroup items = some f)
    (hr : groupInRange f s = true) (n : Nat) (h : GroupsSound s) : GroupsSound (putGroup f.group (f.toGroup n) s) := by
  obtain ⟨hg, hlt, hnodup, hdem, hapart⟩ := groupInRange_iff.mp hr
  replace hg : f.group < 16 := by omega
  obtain ⟨h1, h2⟩ := h
  refine ⟨fun g hlg => ?_, fun g hlg k hlk b hb hb' => ?_⟩
  · rw [groupAt_putGroup _ _ _ _ hg]
    split
    · refine ⟨readGroup_length hf, hnodup, fun b hb => Nat.lt_succ_of_le (hlt b hb), ?_, ?_, hdem⟩
      · dsimp only [GroupFields.toGroup]; omega
      · dsimp only [GroupFields.toGroup]; omega
    · exact h1 g hlg
  · rw [groupAt_putGroup _ _ _ _ hg] at hb hb'
    split at hb
    next e =>
      split at hb'
      next e' => rw [e, e']
      next e' => exact absurd hb' (hapart k hlk e' b hb)
    next e =>
      split at hb'
      next e' => exact absurd hb (hapart g hlg e b hb')
      · exact h2 g hlg k hlk b hb hb'

theorem loadGroup_safe {items : List Byte} {f : GroupFields} {s : State} (hf : readGroup items = some f)
    (hr : groupInRange f s = true) (n : Nat) : Safe s (putGroup f.group (f.toGroup n) s) :=
  ⟨fun h => h, fun h => h, fun h => h, loadGroup_sound hf hr n, fun h => h⟩

/-- A request keeps the five invariants. -/
theorem Request.safe {s t : State} (q : Request s t) : Safe s t := by
  cases q with
  | accept hr => exact acceptRecord_safe (judgeRecord_ok hr)
  | logRead => exact (dropLog_safe _ _).trans (evalPermit_safe _)
  | reprintRead => exact setReprints_safe (requestEntries_length _ _).le
  | openRun => exact openRun_safe _ _
  | start => exact startRun_safe _
  | pause => exact enterState_safe _ _ _
  | resume => exact resumeRun_safe _
  | flush _ hs => exact flushRun_safe (by obtain h | h := hs <;> rw [h] <;> decide)
  | abort => exact abortRun_safe _
  | closeRun => exact closeRun_safe _
  | resetLine => exact resetLine_safe _
  | loadProfile => exact writeProfile_safe _ _
  | loadStations ht => exact loadStations_safe ht
  | loadScheme =>
    exact .of_keeps (writeScheme_keeps (List.Subset.refl _) (.start _ _) _ _ _) (by decide)
  | loadGroup hf hr => exact loadGroup_safe hf hr _
  | loadBin hr hb => exact loadBin_safe hr hb

/-- A change of RESET_N meets what the state after power-on meets. -/
theorem bins_powerOnKeeping (b : Nat) (high : Bool) (straps : Node) (signal : Bool) (s : State) :
    binAt b (powerOnKeeping high straps signal s) = Bin.powerOn := by
  unfold binAt
  change (((Vector.replicate 32 Bin.powerOn)[b]?).getD Bin.powerOn) = _
  by_cases hb : b < 32
  · rw [Vector.getElem?_eq_getElem hb, Vector.getElem_replicate]; rfl
  · rw [Vector.getElem?_eq_none (not_lt.mp hb)]; rfl

theorem groups_powerOnKeeping (g : Nat) (high : Bool) (straps : Node) (signal : Bool) (s : State) :
    groupAt g (powerOnKeeping high straps signal s) = Group.powerOn := by
  unfold groupAt
  change (((Vector.replicate 16 Group.powerOn)[g]?).getD Group.powerOn) = _
  by_cases hg : g < 16
  · rw [Vector.getElem?_eq_getElem hg, Vector.getElem_replicate]; rfl
  · rw [Vector.getElem?_eq_none (not_lt.mp hg)]; rfl

theorem stations_powerOnKeeping (i : Nat) (high : Bool) (straps : Node) (signal : Bool) (s : State) :
    stationAt i (powerOnKeeping high straps signal s) = none := by
  unfold stationAt
  change (((Vector.replicate 24 none)[i]?).getD none) = none
  by_cases hi : i < 24
  · rw [Vector.getElem?_eq_getElem hi, Vector.getElem_replicate]; rfl
  · rw [Vector.getElem?_eq_none (not_lt.mp hi)]; rfl

section
variable (high : Bool) (straps : Node) (signal : Bool) (s : State)

theorem powerOnKeeping_withinCapacity : WithinCapacity (powerOnKeeping high straps signal s) := by
  refine ⟨?_, ?_, ?_, ?_, ?_⟩ <;> exact Nat.zero_le _

theorem powerOnKeeping_serials : LogSerialsConsecutive (powerOnKeeping high straps signal s) :=
  ⟨by change 0 < 65536; decide, fun _ h => absurd h (Nat.not_lt_zero _)⟩

theorem powerOnKeeping_binsSound : BinsSound (powerOnKeeping high straps signal s) := by
  intro b _
  rw [bins_powerOnKeeping]
  decide

theorem powerOnKeeping_groupsSound : GroupsSound (powerOnKeeping high straps signal s) := by
  refine ⟨fun g _ => ?_, fun g _ k _ b hb => ?_⟩
  · rw [groups_powerOnKeeping]
    decide
  · rw [groups_powerOnKeeping] at hb
    exact absurd hb (List.not_mem_nil)

theorem powerOnKeeping_nodesDistinct : NodesDistinct (powerOnKeeping high straps signal s) := by
  refine ⟨fun i _ a ha => ?_, fun b _ n hn => ?_, fun i _ a ha => ?_⟩
  · rw [stations_powerOnKeeping] at ha; exact absurd ha (by simp)
  · rw [bins_powerOnKeeping] at hn; exact absurd hn (by simp [Bin.powerOn])
  · rw [stations_powerOnKeeping] at ha; exact absurd ha (by simp)

end

/-- An invariant that `Safe` carries survives every step. -/
theorem safe_keeps {P : State → Prop} {s t : State} (hsafe : ∀ s t, Safe s t → P s → P t)
    (hpending : ∀ s l, P s → P (s.setPending l))
    (hreset : ∀ high straps signal s, P (powerOnKeeping high straps signal s)) (hs : P s) (h : step s = .next t) : P t :=
  course_keeps hpending (fun _ _ _ _ _ => hreset ..) (fun _ _ hc => hsafe _ _ hc.moves.safe)
    (fun _ _ q => hsafe _ _ q.safe) hs h

/-! ### The feed permit and DRIVE_RUN -/

theorem permitConditions_congr {s t : State} (h1 : t.line.state = s.line.state) (h2 : t.line.ending = s.line.ending)
    (h3 : t.queue.records.isEmpty = s.queue.records.isEmpty) (h4 : t.track.length = s.track.length)
    (h5 : t.reprints.length = s.reprints.length) (h6 : t.log.records = s.log.records)
    (h7 : t.log.reserve = s.log.reserve) : permitConditions t = permitConditions s := by
  unfold permitConditions reprintFree logFree logUsed
  rw [h1, h2, h3, h4, h5, h6, h7]

/-- DRIVE_RUN follows the run state, and so does the feed permit its conditions where it is not due. -/
abbrev OutputsFollow (d : Bool) (s : State) : Prop :=
  (d = false → s.line.permit = permitConditions s) ∧
  (s.line.drive = true ↔ s.line.state = .running ∨ s.line.state = .draining)

theorem drives_iff (st : RunState) : st.drives = true ↔ st = .running ∨ st = .draining := by
  cases st <;> decide

/-- The conditions of a permit that does not become due are those it had. -/
theorem Move.permitConditions_eq {i i' : Option Item} {d : Bool} {s t : State} (m : Move i d s i' false t)
    (hs : t.line.state = s.line.state) : permitConditions t = permitConditions s := by
  have hk := m.keeps
  refine permitConditions_congr hs (hk .ending (by decide)) ?_ (hk .length (by decide)) ?_ ?_ (hk .reserve (by decide))
  · obtain e | ⟨e, hd, x, hx⟩ := m.records_cases
    · rw [e]
    · rw [e]
      cases hl : s.queue.records with
      | nil => rfl
      | cons y l =>
        rw [hl] at hd
        simp only [List.tail_cons, Bool.false_eq, Bool.or_eq_false_iff] at hd
        exact hd.2
  · obtain e | ⟨_, _, _, _, _, e, hd⟩ | ⟨_, hd, -⟩ := m.reprints_cases
    · rw [e]
    · simp only [Bool.false_eq, Bool.or_eq_false_iff, bne_eq_false_iff_eq] at hd
      exact hd.2
    · exact absurd hd (by decide)
  · obtain ⟨e, -⟩ | ⟨hd, -⟩ := m.log_cases
    · exact e
    · exact absurd hd (by decide)

theorem OutputsFollow.move {i i' : Option Item} {d d' : Bool} {s t : State} (m : Move i d s i' d' t) (h : OutputsFollow d s) :
    OutputsFollow d' t := by
  obtain ⟨hp, hd⟩ := h
  cases m.line_cases with
  | kept hs hdr hpe himp =>
    refine ⟨fun e => ?_, by rw [hdr, hs]; exact hd⟩
    subst e
    have e' : d = false := by
      cases d with
      | false => rfl
      | true => exact absurd (himp rfl) (by decide)
    rw [hpe, m.permitConditions_eq hs]
    exact hp e'
  | permit _ ht =>
    rw [ht]
    exact ⟨fun _ => rfl, hd⟩
  | stop he reason _ ht =>
    rw [ht]
    exact ⟨fun e => absurd (he.symm.trans e) (by decide), drives_iff _⟩
  | close he _ _ _ _ ht =>
    rw [ht]
    exact ⟨fun e => absurd (he.symm.trans e) (by decide), drives_iff .closed⟩

theorem outputs_iff {s : State} : OutputsFollowState s ↔ OutputsFollow false s :=
  ⟨fun ⟨h, k⟩ => ⟨fun _ => h, k⟩, fun ⟨h, k⟩ => ⟨h rfl, k⟩⟩

theorem Course.outputs {s t : State} (hc : Course s t) (h : OutputsFollowState s) : OutputsFollowState t :=
  outputs_iff.mpr ((hc false).induct (P := fun _ d => OutputsFollow d) (fun m h => OutputsFollow.move m h)
    (outputs_iff.mp h))

theorem Course.quiet {s t : State} (h : Quiet s t) : Course s t := fun _ => Moves.start.quiet h

/-- A move of the run state leaves both outputs as they should be. -/
theorem enterState_outputs (st : RunState) (reason : Option StopReason) (s : State) :
    OutputsFollowState (enterState st reason s) := by
  obtain ⟨hs, -, hd, hp⟩ := enterState_line st reason s
  exact ⟨hp, by rw [hd, hs]; exact drives_iff st⟩

theorem abortClose_outputs (s : State) : OutputsFollowState (abortClose s) := enterState_outputs .closed none _

/-- A step that keeps the run state and DRIVE_RUN, with the permit evaluated after it. -/
theorem evalPermit_outputs {l : List Part} {s t : State} (hk : KeepsAllBut l s t) (hs : Part.runState ∉ l)
    (hd : Part.drive ∉ l) (h : OutputsFollowState s) : OutputsFollowState (evalPermit t) := by
  have hk' := hk.more (m := l ++ permitParts) (List.subset_append_left _ _)
  have he := evalPermit_keeps (List.subset_append_right _ _) hk'
  refine ⟨evalPermit_permit t, ?_⟩
  rw [(he .drive (by simp [hd]) : _ = s.line.drive), (he .runState (by simp [hs]) : _ = s.line.state)]
  exact h.2

/-- A step that leaves everything the outputs depend on. -/
theorem OutputsFollowState.of_keeps {s t : State} (hl : t.line.state = s.line.state) (he : t.line.ending = s.line.ending)
    (hd : t.line.drive = s.line.drive) (hp : t.line.permit = s.line.permit)
    (hr : t.queue.records.isEmpty = s.queue.records.isEmpty) (hlen : t.track.length = s.track.length)
    (hre : t.reprints.length = s.reprints.length) (hlog : t.log = s.log) (h : OutputsFollowState s) :
    OutputsFollowState t := by
  obtain ⟨h1, h2⟩ := h
  refine ⟨?_, by rw [hd, hl]; exact h2⟩
  rw [hp, permitConditions_congr hl he hr hlen hre (by rw [hlog]) (by rw [hlog])]
  exact h1

theorem joinQueue_outputs {x : JobRecord} {s : State} (hne : s.queue.records.isEmpty = false) (h : OutputsFollowState s) :
    OutputsFollowState (joinQueue x s) := by
  have hk := joinQueue_keeps x s
  refine .of_keeps (hk .runState (by decide)) (hk .ending (by decide)) (hk .drive (by decide)) (hk .permit (by decide)) ?_
    (hk .length (by decide)) ?_ (hk.log_eq (by decide) (by decide) (by decide) (by decide)) h
  · rw [joinQueue_records, hne]
    simp
  · rw [joinQueue_reprints]
    split
    · rw [updateEntry_length]
    · rfl

theorem acceptRecord_outputs {x : JobRecord} {s : State} (h : OutputsFollowState s) : OutputsFollowState (acceptRecord x s) := by
  rw [acceptRecord_eq]
  refine (Course.quiet (checkHold_quiet _)).outputs ?_
  split
  · exact evalPermit_outputs (joinQueue_keeps x s) (by decide) (by decide) h
  next hne => exact joinQueue_outputs (by simpa using hne) h

theorem flushRun_outputs {s : State} (hs : s.line.state ≠ .idle) (h : OutputsFollowState s) :
    OutputsFollowState (flushRun s) := by
  have h1 : OutputsFollowState (writeLog (.run .flush s.line.runId none) s) :=
    Course.outputs (fun _ => writeLog_moves _ .start) h
  have h2 : OutputsFollowState (setEnding (writeLog (.run .flush s.line.runId none) s)) := by
    refine evalPermit_outputs (l := [.ending]) ?_ (by decide) (by decide) h1
    intro p hp
    cases p <;> first | rfl | exact absurd (by decide) hp
  have h3 : OutputsFollowState (flushIntake s) := by
    unfold flushIntake
    dsimp only
    split
    · exact enterState_outputs _ _ _
    · exact Course.outputs (fun d => flushed_moves _ d) h2
  obtain ⟨hs', he'⟩ := flushIntake_line hs
  rw [flushRun_eq]
  exact Course.outputs (fun _ => flushCheck_moves hs' he') h3

theorem Request.outputs {s t : State} (q : Request s t) (h : OutputsFollowState s) : OutputsFollowState t := by
  cases q with
  | accept => exact acceptRecord_outputs h
  | logRead =>
    refine evalPermit_outputs (l := [.logRecords]) ?_ (by decide) (by decide) h
    intro p hp
    cases p <;> first | rfl | exact absurd (by decide) hp
  | reprintRead =>
    refine OutputsFollowState.of_keeps (s := s) rfl rfl rfl rfl rfl rfl ?_ rfl h
    exact requestEntries_length _ _
  | openRun => exact Course.outputs (fun _ => writeLog_moves _ .start) (enterState_outputs _ _ _)
  | start => exact enterState_outputs _ _ _
  | pause => exact enterState_outputs _ _ _
  | resume =>
    unfold resumeRun
    split
    · exact Course.outputs (fun _ => drainCheck_moves .start) (enterState_outputs _ _ _)
    · exact enterState_outputs _ _ _
  | flush _ hs => exact flushRun_outputs (by obtain h | h := hs <;> rw [h] <;> decide) h
  | abort =>
    rw [abortRun_eq]
    exact abortClose_outputs _
  | closeRun => exact enterState_outputs _ _ _
  | resetLine =>
    unfold Machine.resetLine
    exact enterState_outputs _ _ _
  | @loadProfile p _ _ _ _ =>
    rw [writeProfile_eq]
    have hk := (loadFields_keeps p s).more (m := .own :: .held :: fieldParts) (by decide)
    split
    · exact evalPermit_outputs hk (by decide) (by decide) h
    · exact evalPermit_outputs (checkMarks_keeps (by decide) hk) (by decide) (by decide) h
  | loadStations => exact .of_keeps rfl rfl rfl rfl rfl rfl rfl rfl h
  | loadScheme => exact .of_keeps rfl rfl rfl rfl rfl rfl rfl rfl h
  | loadGroup => exact .of_keeps rfl rfl rfl rfl rfl rfl rfl rfl h
  | loadBin => exact .of_keeps rfl rfl rfl rfl rfl rfl rfl rfl h

theorem powerOnKeeping_outputs (high : Bool) (straps : Node) (signal : Bool) (s : State) :
    OutputsFollowState (powerOnKeeping high straps signal s) :=
  ⟨rfl, by
    change false = true ↔ RunState.idle = .running ∨ RunState.idle = .draining
    decide⟩

theorem step_outputs {s t : State} (hs : OutputsFollowState s) (h : step s = .next t) : OutputsFollowState t :=
  course_keeps (fun _ _ h => h) (fun _ _ _ _ _ => powerOnKeeping_outputs ..) (fun _ _ hc => hc.outputs)
    (fun _ _ q => q.outputs) hs h

/-! ### One re-evaluation of the feed permit (R157) -/

theorem permitConditions_iff (s : State) : permitConditions s = true ↔
    s.line.state = .running ∧ s.line.ending = false ∧ s.queue.records ≠ [] ∧
      s.track.length + 2 ≤ 256 - s.reprints.length ∧ s.log.reserve ≤ 8192 - logUsed s := by
  simp only [permitConditions, Bool.and_eq_true, beq_iff_eq, Bool.not_eq_true', List.isEmpty_eq_false_iff,
    decide_eq_true_eq, and_assoc]
  exact Iff.rfl

theorem evalPermit_of_eq {s : State} (h : permitConditions s = s.line.permit) : evalPermit s = s := by
  unfold evalPermit
  rw [if_pos h]

/-- The permit with its new value, held but not sent yet. -/
def permitHeld (s : State) : State := { s with line := { s.line with permit := permitConditions s } }

theorem evalPermit_of_ne {s : State} (h : permitConditions s ≠ s.line.permit) : evalPermit s =
    match stationOfKind .sheetFeeder s with
    | some (_, e) => sendStation e.dst (.feedPermit (permitConditions s)) (permitHeld s)
    | none => permitHeld s := by
  unfold evalPermit
  rw [if_neg h]
  cases stationOfKind .sheetFeeder s <;> rfl

theorem ownFull_iff {s : State} : ownFull s = true ↔ 32 ≤ s.ring.own.length := by
  simp [ownFull, Config.ownCapacity]

theorem sendStation_of_room {s : State} (h : s.ring.own.length < 32) (dst : Node) (body : OwnBody) :
    sendStation dst body s = pushOwn dst body s := by
  unfold sendStation
  rw [if_neg]
  rw [ownFull_iff]
  omega

theorem sendStation_of_full {s : State} (h : 32 ≤ s.ring.own.length) (dst : Node) (body : OwnBody) :
    sendStation dst body s = nodeAbsentAfter dst s := by
  unfold sendStation
  rw [if_pos (ownFull_iff.mpr h), nodeAbsent_after]

/-- Settles O55: every move keeps the outputs, but for a permit that is due and evaluated before the command ends. -/
theorem outputsFollowStateKept : Obligations.OutputsFollowStateKept := by
  refine ⟨fun _ _ => step_outputs, fun s => ⟨permitConditions_iff s, evalPermit_of_eq, fun hne => ⟨fun hn => ?_, ?_⟩⟩⟩
  · rw [evalPermit_of_ne hne, hn]
    rfl
  · intro i e he
    rw [evalPermit_of_ne hne, he]
    exact ⟨fun hroom => sendStation_of_room (s := permitHeld s) hroom _ _,
      fun hfull => sendStation_of_full (s := permitHeld s) hfull _ _⟩

/-- Settles O56, by the moves that make up each command and by the requests besides. -/
theorem queuesAndLogKept : Obligations.QueuesAndLogKept :=
  ⟨fun _ _ => safe_keeps (fun _ _ h => h.capacity) (fun _ _ h => h) powerOnKeeping_withinCapacity,
    fun _ _ => safe_keeps (fun _ _ h => h.serials) (fun _ _ h => h) powerOnKeeping_serials⟩

/-- Settles O57, by the moves that make up each command and by the requests besides. -/
theorem binCountsKept : Obligations.BinCountsKept :=
  fun _ _ => safe_keeps (fun _ _ h => h.bins) (fun _ _ h => h) powerOnKeeping_binsSound

end Sys2Proof.Machine
end

section
/-! The track and the stocks at every step (R42, R45 to R48, R59 to R63), and with them O59. -/

namespace Sys2Proof.Machine

/-! ### The slots and the boundary -/

/-- A move leaves the number of slots. -/
theorem Move.slots_length {i i' : Option Item} {d d' : Bool} {s t : State} (m : Move i d s i' d' t)
    (h : s.track.slots ≠ []) : t.track.slots.length = s.track.slots.length := by
  cases m with
  | quiet hq => rw [(hq.keeps .slots (by decide) : _ = s.track.slots)]
  | slots _ _ hlen => exact hlen h
  | leave => rw [lowerMatchCounts_eq]; exact List.length_set
  | enter => rw [raiseMatchCounts_eq]; exact List.length_set
  | dispose => rw [applyEntry_eq]; rfl
  | _ => rfl

theorem Course.slots_length {s t : State} (hc : Course s t) (h : s.track.slots ≠ []) :
    t.track.slots.length = s.track.slots.length := by
  refine (hc true).induct (P := fun _ _ u => u.track.slots.length = s.track.slots.length) (fun m hu => ?_) rfl
  rw [m.slots_length ?_, hu]
  rw [← List.length_pos_iff, hu]
  exact List.length_pos_iff.mpr h

/-- EP stands before NB, not below its least value (R59, R60). -/
abbrev BeforeBoundary (s : State) : Prop :=
  -2147483648 ≤ s.track.position ∧ s.track.position < s.track.boundary

theorem markPitch_beforeBoundary {s : State} (hp : 16 ≤ s.track.pulses)
    (hlow : -2147483648 ≤ s.track.position)
    (h : s.track.position = s.track.boundary) : BeforeBoundary (markPitch s) := by
  have e (t : TrackUnit) : BeforeBoundary (sendPlain Config.broadcast (.pitch t.pitch) (s.setTrack t)) ↔
      BeforeBoundary (s.setTrack t) := by
    have hk := sendPlain_keeps (List.Subset.refl ([.own] : List Part)) (.start _ (s.setTrack t)) Config.broadcast (.pitch t.pitch)
    unfold BeforeBoundary
    rw [(hk .position (by decide) : _ = (s.setTrack t).track.position),
      (hk .boundary (by decide) : _ = (s.setTrack t).track.boundary)]
  unfold markPitch
  dsimp only
  rw [e]
  unfold BeforeBoundary
  rw [State.setTrack_track]
  split
  · dsimp only
    omega
  · dsimp only
    omega

/-- The rest of an advance leaves EP and NB. -/
theorem advance_beforeBoundary {s : State} (hp : 16 ≤ s.track.pulses)
    (hlow : -2147483648 ≤ s.track.position)
    (h : s.track.position = s.track.boundary) : BeforeBoundary (advance s) := by
  have hk : KeepsAllBut (advanceParts.filter (· ∉ ([.position, .boundary] : List Part))) (markPitch s) (advance s) :=
    sorterTimeouts_keeps (by decide) (arrivals_keeps (by decide) (releaseStaging_keeps (by decide)
      (moveSlots_keeps (by decide) (exitSlot_keeps (by decide) (.start _ _)))))
  obtain ⟨h1, h2⟩ := markPitch_beforeBoundary hp hlow h
  unfold BeforeBoundary
  rw [(hk .position (by decide) : _ = (markPitch s).track.position),
    (hk .boundary (by decide) : _ = (markPitch s).track.boundary)]
  exact ⟨h1, h2⟩

/-- The profile of the track is in its ranges, with a slot queue of its length (R61, R63). -/
abbrev ProfileOfTrack (s : State) : Prop :=
  8 ≤ s.track.length ∧ s.track.length ≤ 96 ∧ 16 ≤ s.track.pulses ∧ s.track.pulses ≤ 4095 ∧
    s.track.slots.length = s.track.length

theorem trackSound_iff {s : State} : TrackSound s ↔ ProfileOfTrack s ∧ BeforeBoundary s := by
  unfold TrackSound ProfileOfTrack BeforeBoundary
  tauto

/-- The track as a state carries it that no load or reset touches. -/
theorem ProfileOfTrack.of_eq {s t : State} (hl : t.track.length = s.track.length) (hp : t.track.pulses = s.track.pulses)
    (hs : t.track.slots.length = s.track.slots.length) (h : ProfileOfTrack s) : ProfileOfTrack t := by
  unfold ProfileOfTrack
  rw [hl, hp, hs]
  exact h

theorem Course.profileOfTrack {s t : State} (hc : Course s t) (h : ProfileOfTrack s) : ProfileOfTrack t := by
  obtain ⟨h1, h2, h3, h4, h5⟩ := h
  have hk := (hc true).keeps
  refine ProfileOfTrack.of_eq (hk .length (by decide)) (hk .pulses (by decide)) (hc.slots_length ?_) ⟨h1, h2, h3, h4, h5⟩
  rw [← List.length_pos_iff]
  omega

/-- A run opens, or the line is reset, on a cleared track (R18, R155). -/
theorem clearTrack_trackSound {s : State} (h : ProfileOfTrack s) : TrackSound (clearTrack s) := by
  obtain ⟨h1, h2, h3, h4, -⟩ := h
  refine ⟨h1, h2, h3, h4, List.length_replicate, by change -2147483648 ≤ (0 : Int); decide, ?_⟩
  change (0 : Int) < s.track.pulses
  omega

theorem TrackSound.of_keeps {l : List Part} {s t : State} (h : KeepsAllBut l s t)
    (hl : ∀ p ∈ ([.length, .pulses, .slots, .position, .boundary] : List Part), p ∉ l) (hs : TrackSound s) : TrackSound t := by
  unfold TrackSound
  rw [(h .length (hl _ (by decide)) : _ = s.track.length), (h .pulses (hl _ (by decide)) : _ = s.track.pulses),
    (h .slots (hl _ (by decide)) : _ = s.track.slots), (h .position (hl _ (by decide)) : _ = s.track.position),
    (h .boundary (hl _ (by decide)) : _ = s.track.boundary)]
  exact hs

theorem openRun_trackSound {id : Word} {s : State} (h : TrackSound s) : TrackSound (openRun id s) := by
  have hc : TrackSound (clearTrack (emptyRings (clearPockets ((s.setLine { s.line with
      runId := id, locked := true, counters := Counters.zero }).setQueue { s.queue with last := none })))) :=
    clearTrack_trackSound (trackSound_iff.mp h).1
  exact hc.of_keeps (writeLog_keeps (l := stateParts ++ writeParts) (by decide)
    (enterState_keeps (by decide) (.start _ _) _ _) _) (by decide)

theorem resetQueues_keeps (s : State) :
    KeepsAllBut (.records :: .last :: .held :: .collecting :: .staging :: .strays :: writeParts) s (resetQueues s) :=
  clearPockets_keeps (by decide) (resetQueue_keeps (by decide) (writeLog_keeps (by decide) (.start _ s) _))

theorem resetLine_trackSound {s : State} (h : TrackSound s) : TrackSound (resetLine s) := by
  have h1 : TrackSound (resetQueues s) := h.of_keeps (resetQueues_keeps s) (by decide)
  have h2 : TrackSound (clearTrack (resetQueues s)) := clearTrack_trackSound (trackSound_iff.mp h1).1
  replace h2 : TrackSound (resetTables s) := h2.of_keeps (l := [.stocks, .bins, .pageUse, .groups, .reprints])
    ((emptyRings_keeps (by decide) (resetSort_keeps (by decide) (.start _ (clearTrack (resetQueues s))))).trans
      (State.setReprints_keeps (f := [.reprints]) (by decide) (.start _ _) [] (by
        intro p hp
        cases p <;> first | rfl | exact absurd (by decide) hp))) (by decide)
  rw [resetLine_eq]
  exact h2.of_keeps (enterState_keeps (l := .runId :: .locked :: .counters :: .ending :: stateParts) (by decide)
    (releaseHeader_keeps (by decide) (.start _ _)) _ _) (by decide)

theorem loadFields_track (p : ProfileFields) (s : State) :
    (loadFields p s).track.length = p.length ∧ (loadFields p s).track.pulses = p.pulses ∧
      (loadFields p s).track.slots = (if p.length = s.track.length then s.track.slots else List.replicate p.length none) ∧
      (loadFields p s).track.boundary =
        (if p.pulses = s.track.pulses then s.track.boundary else s.track.position + p.pulses) ∧
      (loadFields p s).track.position = s.track.position := by
  have hk := loadStocks_keeps (List.Subset.refl ([.stocks] : List Part)) (.start _ s) p.stocks
  have e : (loadFields p s).track = (loadTrack p (loadStocks p.stocks s)).track := rfl
  rw [e]
  unfold loadTrack
  rw [State.setTrack_track, (hk .length (by decide) : _ = s.track.length), (hk .pulses (by decide) : _ = s.track.pulses),
    (hk .slots (by decide) : _ = s.track.slots), (hk .position (by decide) : _ = s.track.position),
    (hk .boundary (by decide) : _ = s.track.boundary)]
  exact ⟨rfl, rfl, rfl, rfl, rfl⟩

theorem profileInRange_iff {p : ProfileFields} {s : State} : profileInRange p s = true ↔ ProfileSound p s := by
  have hfits (e : StationEntry) : e.fits p.length = true ↔
      e.offset < p.length ∧ (e.kind = .exit → e.offset + 1 = p.length) := by
    simp only [StationEntry.fits, Bool.and_eq_true, decide_eq_true_eq, Bool.or_eq_true, bne_iff_ne, beq_iff_eq]
    refine and_congr_right fun _ => ?_
    rw [ne_eq, ← imp_iff_not_or]
  simp only [profileInRange, ProfileSound, Bool.and_eq_true, decide_eq_true_eq, List.all_eq_true, mem_stationsWhere,
    Prod.forall, and_true, hfits, and_assoc]
  refine and_congr_right fun _ => and_congr_right fun _ => and_congr_right fun _ => and_congr_right fun _ => ?_
  refine and_congr_right fun _ => and_congr_right fun _ => and_congr_right fun _ => and_congr_right fun _ => ?_
  refine and_congr_right fun _ => and_congr_right fun _ => and_congr_right fun _ => and_congr_right fun _ => ?_
  exact ⟨fun h i _ e he => h i e he, fun h i e he => h i (stationAt_lt he) e he⟩

theorem writeProfile_trackSound {p : ProfileFields} {s : State} (hr : profileInRange p s = true) (h : TrackSound s) :
    TrackSound (writeProfile p s) := by
  obtain ⟨-, -, -, -, -, -, h1, h2, h3, h4, -⟩ := profileInRange_iff.mp hr
  obtain ⟨e1, e2, e3, e4, e5⟩ := loadFields_track p s
  obtain ⟨-, -, -, -, hlen, hmin, hlt⟩ := h
  have hf : TrackSound (loadFields p s) := by
    refine ⟨by omega, by omega, by omega, by omega, ?_, by omega, ?_⟩
    · rw [e1, e3]
      split
      next e => rw [e]; exact hlen
      · exact List.length_replicate
    · rw [e4, e5]
      split <;> omega
  rw [writeProfile_eq]
  split
  · exact hf.of_keeps (evalPermit_keeps (List.Subset.refl _) (.start _ _)) (by decide)
  · exact hf.of_keeps (evalPermit_keeps (l := .held :: permitParts) (by decide) (checkMarks_keeps (by decide) (.start _ _)))
      (by decide)

/-- A course that leaves EP, NB and the profile. -/
theorem TrackSound.of_course {l : List Part} {s t : State} (h : TrackSound s) (hk : KeepsAllBut l s t)
    (hl : ∀ p ∈ ([.position, .boundary] : List Part), p ∉ l) (hc : Course s t) : TrackSound t := by
  obtain ⟨hp, h1, h2⟩ := trackSound_iff.mp h
  refine trackSound_iff.mpr ⟨hc.profileOfTrack hp, ?_⟩
  unfold BeforeBoundary
  rw [(hk .position (hl _ (by decide)) : _ = s.track.position), (hk .boundary (hl _ (by decide)) : _ = s.track.boundary)]
  exact ⟨h1, h2⟩

theorem abortLine_keeps (s : State) : KeepsAllBut (.ending :: .drive :: writeParts) s (abortLine s) := by
  unfold abortLine
  refine setEnding_keeps (by decide) (State.setLine_keeps (f := [.drive]) (by decide)
    (writeLog_keeps (by decide) (.start _ s) _) _ ?_)
  intro p hp
  cases p <;> first | rfl | exact absurd (by decide) hp

theorem abortClose_keeps (s : State) : KeepsAllBut (stateParts ++ writeParts) s (abortClose s) :=
  enterState_keeps (by decide) (writeLog_keeps (by decide) (.start _ _) _) _ _

theorem abortRun_slots {s : State} (h : s.track.slots ≠ []) : (abortRun s).track.slots.length = s.track.slots.length := by
  have h1 : (abortLine s).track.slots = s.track.slots := abortLine_keeps s .slots (by decide)
  have h2 := Course.slots_length (fun _ => abortWork_moves (abortLine s)) (by rw [h1]; exact h)
  have h3 : (abortClose (abortWork (abortLine s))).track.slots = (abortWork (abortLine s)).track.slots :=
    abortClose_keeps _ .slots (by decide)
  rw [abortRun_eq, h3, h2, h1]

theorem reversePulse_trackSound {s : State} (h : TrackSound s) : TrackSound (reversePulse s) := by
  unfold reversePulse
  split
  · exact h
  next hlow =>
    obtain ⟨h1, h2, h3, h4, h5, h6, h7⟩ := h
    refine ⟨h1, h2, h3, h4, h5, ?_, ?_⟩
    · change -2147483648 ≤ s.track.position - 1
      omega
    · change s.track.position - 1 < s.track.boundary
      omega

theorem Work.trackSound {l : List Part} {s t : State} (w : Work l s t) (hk : KeepsAllBut l s t) (h : TrackSound s) :
    TrackSound t := by
  induction w with
  | answer tag code content w ih =>
    exact (ih w.keeps h).of_keeps (sendAnswer_keeps (List.Subset.refl _) (.start _ _) tag code content) (by decide)
  | @advance s hopen hdue =>
    obtain ⟨hp, hlow, -⟩ := trackSound_iff.mp h
    refine trackSound_iff.mpr ⟨?_, advance_beforeBoundary hp.2.2.1 ?_ hdue⟩
    · exact Course.profileOfTrack (fun _ => advance_moves (Moves.start.quiet (setPosition_quiet ..))) hp
    · change -2147483648 ≤ s.track.position + 1
      omega
  | @forward s hopen hdue =>
    obtain ⟨h1, h2, h3, h4, h5, h6, h7⟩ := h
    refine ⟨h1, h2, h3, h4, h5, ?_, ?_⟩
    · change -2147483648 ≤ s.track.position + 1
      omega
    · change s.track.position + 1 < s.track.boundary
      omega
  | reverse => exact reversePulse_trackSound h
  | openRun => exact openRun_trackSound h
  | resetLine => exact resetLine_trackSound h
  | loadProfile _ hr => exact writeProfile_trackSound hr h
  | @abort s _ =>
    obtain ⟨⟨h1, h2, h3, h4, h5⟩, hb⟩ := trackSound_iff.mp h
    refine trackSound_iff.mpr ⟨ProfileOfTrack.of_eq (hk .length (by decide)) (hk .pulses (by decide))
      (abortRun_slots ?_) ⟨h1, h2, h3, h4, h5⟩, ?_⟩
    · rw [← List.length_pos_iff]
      omega
    · unfold BeforeBoundary
      rw [(hk .position (by decide) : _ = s.track.position), (hk .boundary (by decide) : _ = s.track.boundary)]
      exact hb
  | passWindows => exact h.of_course hk (by decide) fun _ => passAllWindows_moves .start
  | scan => exact h.of_course hk (by decide) fun _ => takeScan_moves _ .start
  | slot _ _ he => exact h.of_course hk (by decide) fun _ => slotReport_moves _ _ he .start
  | feed _ _ he => exact h.of_course hk (by decide) fun _ => feedReport_moves _ _ he .start
  | envelope _ _ he => exact h.of_course hk (by decide) fun _ => envReport_moves _ _ he .start
  | address _ _ _ _ he => exact h.of_course hk (by decide) fun _ => addrReport_moves _ _ _ _ he .start
  | sheetLost => exact h.of_course hk (by decide) fun _ => sheetActionLost_moves _ _ _ _ .start
  | feedLost => exact h.of_course hk (by decide) fun _ => feedUntaken_moves _ _ .start
  | envelopeLost => exact h.of_course hk (by decide) fun _ => envUntaken_moves _ _ .start
  | armLost => exact h.of_course hk (by decide) fun _ => armUntaken_moves _ _ .start
  | clearSlots =>
    exact h.of_course hk (by decide) fun _ =>
      evalPermit_moves (clearNamedSlots_moves _ (clearNamedPockets_moves _ .start))
  | _ => exact h.of_keeps hk (by decide)

theorem powerOnKeeping_trackSound (high : Bool) (straps : Node) (signal : Bool) (s : State) :
    TrackSound (powerOnKeeping high straps signal s) := by
  refine ⟨?_, ?_, ?_, ?_, List.length_replicate, ?_, ?_⟩
  · change 8 ≤ 40; decide
  · change 40 ≤ 96; decide
  · change 16 ≤ 512; decide
  · change 512 ≤ 4095; decide
  · change -2147483648 ≤ (0 : Int); decide
  · change (0 : Int) < 512; decide

theorem step_trackSound {s t : State} (hs : TrackSound s) (h : step s = .next t) : TrackSound t :=
  step_keeps (fun _ _ h => h) (fun _ _ _ _ _ => powerOnKeeping_trackSound ..)
    (fun f _ hs => hs.of_keeps (forwardFrame_keeps (List.Subset.refl _) (.start _ _) f) (by decide))
    (fun _ _ _ w hs => w.trackSound w.keeps hs) hs h

/-! ### The stocks -/

/-- A stock is in its ranges (R42, R48). -/
abbrev Stock.Sound (x : Stock) : Prop :=
  1 ≤ x.averaging ∧ x.averaging ≤ 15 ∧ 1 ≤ x.nominal ∧ x.nominal ≤ 4094 ∧ 1 ≤ x.tolerance ∧ x.tolerance ≤ 63 ∧
    1 ≤ x.margin ∧ x.margin ≤ 1023 ∧ x.ring.length ≤ x.averaging ∧ ∀ m ∈ x.ring, 1 ≤ m ∧ m ≤ 4093

theorem StocksSound.of_eq {s t : State} (h : t.caliper.stocks = s.caliper.stocks) (hs : StocksSound s) : StocksSound t := by
  intro i hi
  have e : stockAt i t = stockAt i s := by unfold stockAt; rw [h]
  rw [e]
  exact hs i hi

theorem StocksSound.put {i : Nat} {x : Stock} {s : State} (hx : i < 4 → x.Sound) (hs : StocksSound s) :
    StocksSound (putStock i x s) := by
  intro k hk
  by_cases hi : i < 4
  · rw [stockAt_putStock _ _ _ _ hi]
    split
    · exact hx hi
    · exact hs k hk
  · have e : stockAt k (putStock i x s) = stockAt k s := by
      unfold stockAt putStock
      rw [State.setCaliper_caliper]
      dsimp only
      rw [Vector.getElem?_setIfInBounds_ne (by omega)]
    rw [e]
    exact hs k hk

theorem length_trimRing (w : Nat) (l : List Nat) : (trimRing w l).length ≤ w := by
  rw [trimRing, List.length_drop]
  omega

theorem mem_of_mem_trimRing {w m : Nat} {l : List Nat} (h : m ∈ trimRing w l) : m ∈ l := List.mem_of_mem_drop h

theorem single_bounds {x : Stock} {m : Nat} (hm : m ≤ 4095) (h : (x.classify m).1 = .single) : 1 ≤ m ∧ m ≤ 4093 := by
  unfold Stock.classify at h
  split at h
  · exact absurd h (by simp)
  next hne =>
    split at h
    · exact absurd h (by simp)
    next hup =>
      split at h
      · exact absurd h (by simp)
      next hthin =>
        simp only [Bool.and_eq_true, decide_eq_true_eq, not_and] at hup
        have hu : x.upper ≤ 4094 := Nat.min_le_right _ _
        omega

/-- Learning keeps a stock in its ranges (R46). -/
theorem Stock.Sound.learn {x : Stock} {m : Nat} (h : x.Sound) (hm : m ≤ 4095) : (x.learn m (x.classify m).1).Sound := by
  unfold Stock.learn
  split
  next hc =>
    obtain ⟨h1, h2, h3, h4, h5, h6, h7, h8, -, h10⟩ := h
    refine ⟨h1, h2, h3, h4, h5, h6, h7, h8, length_trimRing _ _, fun k hk => ?_⟩
    obtain hk | hk := List.mem_append.mp (mem_of_mem_trimRing hk)
    · exact h10 k hk
    · rw [List.mem_singleton.mp hk]
      exact single_bounds hm hc
  · exact h

theorem Stock.Sound.relearn {x : Stock} (h : x.Sound) : x.relearn.Sound := by
  obtain ⟨h1, h2, h3, h4, h5, h6, h7, h8, -, -⟩ := h
  exact ⟨h1, h2, h3, h4, h5, h6, h7, h8, Nat.zero_le _, fun _ hm => absurd hm List.not_mem_nil⟩

theorem Stock.Sound.load {x : Stock} (f : StockFields) (h : x.Sound) : (x.load f.clamp).Sound := by
  refine ⟨?_, ?_, ?_, ?_, ?_, ?_, ?_, ?_, ?_, fun m hm => ?_⟩
  · dsimp only [Stock.load, StockFields.clamp, clampTo]; omega
  · dsimp only [Stock.load, StockFields.clamp, clampTo]; omega
  · dsimp only [Stock.load, StockFields.clamp, clampTo]; omega
  · dsimp only [Stock.load, StockFields.clamp, clampTo]; omega
  · dsimp only [Stock.load, StockFields.clamp, clampTo]; omega
  · dsimp only [Stock.load, StockFields.clamp, clampTo]; omega
  · dsimp only [Stock.load, StockFields.clamp, clampTo]; omega
  · dsimp only [Stock.load, StockFields.clamp, clampTo]; omega
  · unfold Stock.load
    dsimp only
    split
    · exact length_trimRing _ _
    · exact Nat.zero_le _
  · unfold Stock.load at hm
    dsimp only at hm
    split at hm
    · exact h.2.2.2.2.2.2.2.2.2 m (mem_of_mem_trimRing hm)
    · exact absurd hm List.not_mem_nil

theorem stockAt_emptyRings (i : Nat) (s : State) : stockAt i (emptyRings s) = (stockAt i s).relearn := by
  simp only [stockAt, emptyRings, State.setCaliper_caliper, Vector.getElem?_map]
  cases s.caliper.stocks[i]? <;> rfl

theorem StocksSound.emptyRings {s : State} (h : StocksSound s) : StocksSound (emptyRings s) := by
  intro i hi
  rw [stockAt_emptyRings]
  exact Stock.Sound.relearn (h i hi)

/-- A scan's reading, and what a scan learns (R21, R46). -/
theorem addSheet_stocks {x : Scan} (hx : x.caliper ≤ 4095) (page pages : Nat) (c : Collation) {s : State} (h : StocksSound s) :
    StocksSound (addSheet x page pages c s) := by
  have h1 : StocksSound (putStock x.stock
      ((stockAt x.stock s).learn x.caliper ((stockAt x.stock s).classify x.caliper).1) s) :=
    h.put fun hi => Stock.Sound.learn (h _ hi) hx
  unfold addSheet
  dsimp only
  refine StocksSound.of_eq ?_ h1
  exact checkCompletion_keeps (l := .collecting :: .staging :: .slots :: endParts) (by decide)
    (answerAdded_keeps (by decide) (.start _ _) _ _) _ _ .stocks (by decide)

theorem openCollation_stocks {x : Scan} (hx : x.caliper ≤ 4095) (page pages : Nat) (r : JobRecord) {s : State}
    (h : StocksSound s) : StocksSound (openCollation x page pages r s) := by
  have hk : KeepsAllBut (.records :: .held :: .reprints :: permitParts) s
      (if r.reprint then removeEntry r.seq (removeHead s) else removeHead s) := by
    split
    · exact removeEntry_keeps (by decide) (removeHead_keeps (by decide) (.start _ s)) _
    · exact removeHead_keeps (by decide) (.start _ s)
  exact addSheet_stocks hx _ _ _ (h.of_eq (hk .stocks (by decide)))

theorem judgeHead_stocks {x : Scan} (hx : x.caliper ≤ 4095) {s : State} (h : StocksSound s) : StocksSound (judgeHead x s) := by
  have hstray : StocksSound (straySheet x s) :=
    h.of_eq (straySheet_keeps (List.Subset.refl _) (.start _ s) x .stocks (by decide))
  unfold judgeHead
  split
  · split
    · split
      · split
        · exact openCollation_stocks hx _ _ _ h
        · exact h.of_eq (reserveSheet_keeps (List.Subset.refl _) (.start _ s) x .stocks (by decide))
      · exact h.of_eq (overrunSheet_keeps (List.Subset.refl _) (.start _ s) x .stocks (by decide))
    · exact hstray
  · exact hstray

theorem divertSheet_stocks (x : Scan) (v : DivertReason) {s : State} (h : StocksSound s) : StocksSound (divertSheet x v s) :=
  h.of_eq (divertSheet_keeps (List.Subset.refl _) (.start _ s) x v .stocks (by decide))

theorem judgeCollecting_stocks {x : Scan} (hx : x.caliper ≤ 4095) (c : Collation) {s : State} (h : StocksSound s) :
    StocksSound (judgeCollecting x c s) := by
  unfold judgeCollecting
  split
  · exact divertSheet_stocks x _ h
  · split
    · exact addSheet_stocks hx _ _ _ h
    · exact judgeHead_stocks hx (h.of_eq (closeCollation_keeps (List.Subset.refl _) (.start _ s) c .stocks (by decide)))

theorem takeScan_stocks {x : Scan} (hx : x.caliper ≤ 4095) {s : State} (h : StocksSound s) : StocksSound (takeScan x s) := by
  unfold takeScan
  split
  · exact divertSheet_stocks x _ h
  · split
    · exact divertSheet_stocks x _ h
    · split
      · exact judgeCollecting_stocks hx _ h
      · exact judgeHead_stocks hx h

theorem loadStocks_sound (l : List StockFields) {s : State} (h : StocksSound s) : StocksSound (loadStocks l s) := by
  unfold loadStocks
  induction l.zipIdx generalizing s with
  | nil => exact h
  | cons x xs ih => exact ih (h.put fun hi => Stock.Sound.load _ (h _ hi))

theorem Work.stocksSound {l : List Part} {s t : State} (w : Work l s t) (hk : KeepsAllBut l s t) (h : StocksSound s) :
    StocksSound t := by
  induction w with
  | answer tag code content w ih =>
    exact (ih w.keeps h).of_eq (sendAnswer_keeps (List.Subset.refl _) (.start _ _) tag code content .stocks (by decide))
  | scan x => exact takeScan_stocks (Nat.min_le_left _ _) h
  | openRun =>
    refine StocksSound.of_eq ?_ h.emptyRings
    exact writeLog_keeps (l := stateParts ++ writeParts) (by decide) (enterState_keeps (by decide) (.start _ _) _ _) _
      .stocks (by decide)
  | resetLine s =>
    rw [resetLine_eq]
    have h1 : StocksSound (resetQueues s) := h.of_eq (resetQueues_keeps s .stocks (by decide))
    have h2 : StocksSound (resetSort (clearTrack (resetQueues s))) := h1.of_eq rfl
    have h3 : StocksSound (resetTables s) := h2.emptyRings.of_eq rfl
    exact h3.of_eq (enterState_keeps (l := .runId :: .locked :: .counters :: .ending :: stateParts) (by decide)
      (releaseHeader_keeps (by decide) (.start _ _)) _ _ .stocks (by decide))
  | relearnAll => exact h.emptyRings
  | relearn => exact h.put fun hi => Stock.Sound.relearn (h _ hi)
  | @loadProfile p s _ _ _ =>
    have h1 : StocksSound (loadFields p s) := (loadStocks_sound p.stocks h).of_eq
      (loadLimits_keeps (l := fieldParts.filter (· ≠ .stocks)) (by decide) (loadTrack_keeps (by decide)
        (loadEnvelope_keeps (by decide) (.start _ _) p) p) p .stocks (by decide))
    rw [writeProfile_eq]
    split
    · exact h1.of_eq (evalPermit_keeps (List.Subset.refl _) (.start _ _) .stocks (by decide))
    · exact h1.of_eq (evalPermit_keeps (l := .held :: permitParts) (by decide)
        (checkMarks_keeps (by decide) (.start _ _)) .stocks (by decide))
  | _ => exact h.of_eq (hk .stocks (by decide))

theorem powerOnKeeping_stocksSound (high : Bool) (straps : Node) (signal : Bool) (s : State) :
    StocksSound (powerOnKeeping high straps signal s) := by
  intro i hi
  have e : stockAt i (powerOnKeeping high straps signal s) = Stock.powerOn := by
    unfold stockAt
    change (((Vector.replicate 4 Stock.powerOn)[i]?).getD Stock.powerOn) = _
    rw [Vector.getElem?_eq_getElem hi, Vector.getElem_replicate]
    rfl
  rw [e]
  decide

theorem step_stocksSound {s t : State} (hs : StocksSound s) (h : step s = .next t) : StocksSound t :=
  step_keeps (fun _ _ h => h) (fun _ _ _ _ _ => powerOnKeeping_stocksSound _ _ _ _)
    (fun f _ hs => hs.of_eq (forwardFrame_keeps (List.Subset.refl _) (.start _ _) f .stocks (by decide)))
    (fun _ _ _ w hs => w.stocksSound w.keeps hs) hs h

/-- Settles O59, work by work for the track and the stocks, move by move for the groups and the node addresses. -/
theorem tablesStaySound : Obligations.TablesStaySound :=
  ⟨fun _ _ => step_trackSound, fun _ _ => step_stocksSound,
    fun _ _ => safe_keeps (fun _ _ h => h.groups) (fun _ _ h => h) powerOnKeeping_groupsSound,
    fun _ _ => safe_keeps (fun _ _ h => h.nodes) (fun _ _ h => h) powerOnKeeping_nodesDistinct⟩

end Sys2Proof.Machine
end

section
/-! The ledger of a run: what each move does to the records on the line, to the counts of the pieces on the track and to the
Reprint List (R102, R107, R127, R134). -/

namespace Sys2Proof.Machine

/-! ### The records on the line, place by place -/

/-- The sequences in the queue. -/
abbrev queueSeqs (s : State) : List Nat := s.queue.records.map (·.seq)

/-- The sequences in the pockets. -/
abbrev pocketSeqs (s : State) : List Nat :=
  s.collation.collecting.held.map (·.job.seq) ++ s.collation.staging.toList.map (·.job.seq)

/-- The sequences on the track. -/
abbrev trackSeqs (s : State) : List Nat := (trackMarks s).map (·.1)

/-- The sequences in the in-flight lists. -/
abbrev flightSeqs (s : State) : List Nat := s.sort.bins.toList.flatMap (fun x => x.flights.map (·.seq))

theorem sequencesHeld_eq (s : State) :
    sequencesHeld s = queueSeqs s ++ pocketSeqs s ++ trackSeqs s ++ flightSeqs s := by
  have h : s.track.slots.filterMap (fun x => x.map (·.job.seq)) = trackSeqs s := by
    unfold trackSeqs trackMarks
    rw [List.map_filterMap]
    congr 1
    funext x
    cases x <;> rfl
  unfold sequencesHeld
  rw [h]
  simp only [List.append_assoc]

theorem pocketCount_eq (s : State) : pocketCount s = (pocketSeqs s).length := by
  unfold pocketCount
  rw [List.length_append, List.length_map, List.length_map]
  cases s.collation.collecting <;> cases s.collation.staging <;> rfl

theorem pieceCount_eq (s : State) : pieceCount s = (trackSeqs s).length := by
  unfold pieceCount trackSeqs trackMarks
  rw [List.length_map, List.length_filterMap_eq_countP]
  congr 1
  funext x
  cases x <;> rfl

theorem flightTotal_eq (s : State) : flightTotal s = (flightSeqs s).length := by
  unfold flightTotal
  rw [List.length_flatMap]
  simp only [List.length_map]

theorem recordsHeld_eq (s : State) : recordsHeld s = (sequencesHeld s).length := by
  unfold recordsHeld
  rw [sequencesHeld_eq, pocketCount_eq, pieceCount_eq, flightTotal_eq]
  simp only [List.length_append, List.length_map]

theorem inFlightCount_eq (s : State) : inFlightCount s = (pocketSeqs s).length + (trackSeqs s).length := by
  unfold inFlightCount
  rw [pocketCount_eq, pieceCount_eq]

/-- The in-flight lists before and after one bin's. -/
theorem flightSeqs_split {b : Nat} (hb : b < 32) (s : State) : ∃ l r, flightSeqs s = l ++ (binAt b s).flights.map (·.seq) ++ r ∧
    ∀ x, flightSeqs (putBin b x s) = l ++ x.flights.map (·.seq) ++ r := by
  have hlen : b < s.sort.bins.toList.length := by rw [Vector.length_toList]; exact hb
  have hget : s.sort.bins.toList[b] = binAt b s := by
    unfold binAt
    rw [Vector.getElem?_eq_getElem hb, Vector.getElem_toList]
    rfl
  refine ⟨(s.sort.bins.toList.take b).flatMap (fun x => x.flights.map (·.seq)),
    (s.sort.bins.toList.drop (b + 1)).flatMap (fun x => x.flights.map (·.seq)), ?_, fun x => ?_⟩
  · conv_lhs => rw [flightSeqs, ← List.take_append_drop b s.sort.bins.toList, List.drop_eq_getElem_cons hlen]
    rw [List.flatMap_append, List.flatMap_cons, hget, List.append_assoc]
  · have e : (putBin b x s).sort.bins.toList = s.sort.bins.toList.set b x := Array.toList_setIfInBounds ..
    unfold flightSeqs
    rw [e, List.set_eq_take_append_cons_drop, if_pos hlen, List.flatMap_append, List.flatMap_cons, List.append_assoc]

theorem flightSeqs_putBin_same {b : Nat} {x : Bin} {s : State} (hb : b < 32) (h : x.flights = (binAt b s).flights) :
    flightSeqs (putBin b x s) = flightSeqs s := by
  obtain ⟨l, r, e, hput⟩ := flightSeqs_split hb s
  rw [hput, h, e]

theorem flightSeqs_take {b : Nat} {x : Bin} {f : Flight} {s : State} (hb : b < 32)
    (h : (binAt b s).flights.Perm (f :: x.flights)) : (flightSeqs s).Perm (f.seq :: flightSeqs (putBin b x s)) := by
  obtain ⟨l, r, e, hput⟩ := flightSeqs_split hb s
  rw [hput, e]
  have hm := h.map (·.seq)
  rw [List.map_cons] at hm
  rw [List.append_assoc, List.append_assoc]
  refine ((hm.append_right r).append_left l).trans ?_
  rw [List.cons_append]
  exact List.perm_middle

theorem flightSeqs_add {b : Nat} {x : Bin} {f : Flight} {s : State} (hb : b < 32)
    (h : x.flights = (binAt b s).flights ++ [f]) : (flightSeqs (putBin b x s)).Perm (f.seq :: flightSeqs s) := by
  obtain ⟨l, r, e, hput⟩ := flightSeqs_split hb s
  rw [hput, e, h, List.map_append, List.map_singleton]
  simp only [List.append_assoc, List.singleton_append]
  refine List.Perm.trans (List.Perm.append_left l List.perm_middle) ?_
  exact List.perm_middle

/-- The marks before and after one slot's. -/
theorem trackMarks_split {n : Nat} {x : Option Piece} {l : List (Option Piece)} (h : l[n]? = some x) :
    ∃ a b, l.filterMap (·.map Piece.mark) = a ++ (x.map Piece.mark).toList ++ b ∧
      ∀ y, (l.set n y).filterMap (·.map Piece.mark) = a ++ (y.map Piece.mark).toList ++ b := by
  obtain ⟨hl, hset⟩ := slots_split h
  refine ⟨(l.take n).filterMap (·.map Piece.mark), (l.drop (n + 1)).filterMap (·.map Piece.mark), ?_, fun y => ?_⟩
  · conv_lhs => rw [hl]
    rw [List.filterMap_append, List.filterMap_cons]
    cases x <;> simp
  · rw [hset, List.filterMap_append, List.filterMap_cons]
    cases y <;> simp

theorem trackMarks_leave {n : Nat} {p : Piece} {s : State} (h : pieceAt n s = some p) :
    (trackMarks s).Perm (p.mark :: trackMarks (putSlot n none s)) := by
  obtain ⟨a, b, e, hset⟩ := trackMarks_split (pieceAt_eq_some.mp h)
  have e' : trackMarks (putSlot n none s) = a ++ b := by
    unfold trackMarks
    exact (hset none).trans (by simp)
  rw [e', trackMarks, e]
  simp only [Option.map_some, Option.toList_some, List.append_assoc, List.singleton_append]
  exact List.perm_middle

theorem trackMarks_enter {p : Piece} {s : State} (h : s.track.slots[0]? = some none) :
    (trackMarks (s.setTrack { s.track with slots := s.track.slots.set 0 (some p) })).Perm (p.mark :: trackMarks s) := by
  obtain ⟨a, b, e, hset⟩ := trackMarks_split h
  have e' : trackMarks s = a ++ b := by
    unfold trackMarks
    exact e.trans (by simp)
  rw [e', trackMarks, State.setTrack_track, hset]
  simp only [Option.map_some, Option.toList_some, List.append_assoc, List.singleton_append]
  exact List.perm_middle

/-! ### What a move does to the ledger -/

/-- The sequence of the record held. -/
def heldSeqs (i : Option Item) : List Nat := (i.map (·.seq)).toList

/-- The sequence of the record held, where its QUEUED entry still stands. -/
def queuedSeqs : Option Item → List Nat
  | some x => if x.queued then [x.seq] else []
  | none => []

/-- The reprint entries kept for the record held. -/
def heldWeight (i : Option Item) : Nat := (i.map (·.weight)).getD 0

/-- All sequences: the record held, and those on the line. -/
abbrev lineSeqs (i : Option Item) (s : State) : List Nat := heldSeqs i ++ sequencesHeld s

/-- A move moves a record from one place to another, takes the head record off the queue, disposes the record held, or takes its
entry off the Reprint List. -/
inductive LedgerMove (i : Option Item) (s : State) (i' : Option Item) (t : State) : Prop
  | kept (hr : t.queue.records = s.queue.records) (he : t.reprints = s.reprints) (hc : t.line.counters = s.line.counters)
      (hq : queuedSeqs i' = queuedSeqs i) (hp : (lineSeqs i' t).Perm (lineSeqs i s))
      (hw : inFlightCount t + heldWeight i' ≤ inFlightCount s + heldWeight i)
  | head (x : JobRecord) (w : Nat) (hx : s.queue.records.head? = some x)
      (hw : w = 0 ∨ (w = 1 ∧ x.reprint = false ∧ inFlightCount s < reprintFree s)) (hi : i = none)
      (hi' : i' = some ⟨x.seq, w, x.reprint⟩) (ht : t = s.setQueue { s.queue with records := s.queue.records.tail })
  | dispose (x : Item) (k : Disposition) (e : EntryEffect) (hx : x.Takes e) (hi : i = some x) (hi' : i' = none)
      (ht : t = applyEntry e (countDisposition k s))
  | release (seq : Nat) (hi : i = some ⟨seq, 0, true⟩) (hi' : i' = some (.loose seq))
      (ht : t = s.setReprints (s.reprints.eraseP (ReprintEntry.isQueued seq)))

/-- A record moves from one place to another. -/
theorem LedgerMove.of_places {i i' : Option Item} {s t : State} (hr : t.queue.records = s.queue.records)
    (he : t.reprints = s.reprints) (hc : t.line.counters = s.line.counters) (hq : queuedSeqs i' = queuedSeqs i)
    (hp : (heldSeqs i' ++ (pocketSeqs t ++ trackSeqs t ++ flightSeqs t)).Perm
      (heldSeqs i ++ (pocketSeqs s ++ trackSeqs s ++ flightSeqs s)))
    (hw : (pocketSeqs t).length + (trackSeqs t).length + heldWeight i' ≤
      (pocketSeqs s).length + (trackSeqs s).length + heldWeight i) : LedgerMove i s i' t := by
  refine .kept hr he hc hq ?_ (by rw [inFlightCount_eq, inFlightCount_eq]; exact hw)
  rw [lineSeqs, lineSeqs, sequencesHeld_eq, sequencesHeld_eq, queueSeqs, queueSeqs, hr]
  rw [List.perm_iff_count] at hp ⊢
  intro n
  have := hp n
  simp only [List.count_append] at this ⊢
  omega

/-- Nothing moves. -/
theorem LedgerMove.of_same {i : Option Item} {s t : State} (hr : t.queue.records = s.queue.records)
    (he : t.reprints = s.reprints) (hc : t.line.counters = s.line.counters)
    (hco : t.collation.collecting = s.collation.collecting) (hst : t.collation.staging = s.collation.staging)
    (htr : trackMarks t = trackMarks s) (hf : flightSeqs t = flightSeqs s) : LedgerMove i s i t := by
  refine .of_places hr he hc rfl ?_ ?_
  · rw [pocketSeqs, pocketSeqs, trackSeqs, trackSeqs, hco, hst, htr, hf]
  · rw [pocketSeqs, pocketSeqs, trackSeqs, trackSeqs, hco, hst, htr]

theorem LedgerMove.of_keeps {i : Option Item} {l : List Part} {s t : State} (h : KeepsAllBut l s t)
    (hl : ∀ p ∈ ([.records, .reprints, .counters, .collecting, .staging, .slots, .bins] : List Part), p ∉ l) :
    LedgerMove i s i t := by
  have e1 : t.track.slots = s.track.slots := h .slots (hl _ (by decide))
  have e2 : t.sort.bins = s.sort.bins := h .bins (hl _ (by decide))
  refine .of_same (h .records (hl _ (by decide))) (h .reprints (hl _ (by decide))) (h .counters (hl _ (by decide)))
    (h .collecting (hl _ (by decide))) (h .staging (hl _ (by decide))) ?_ ?_
  · unfold trackMarks; rw [e1]
  · unfold flightSeqs; rw [e2]

/-- A record leaves its place. -/
theorem LedgerMove.of_taken {x : Item} {s t : State} (hr : t.queue.records = s.queue.records) (he : t.reprints = s.reprints)
    (hc : t.line.counters = s.line.counters) (hx : x.queued = false)
    (hp : (pocketSeqs s ++ trackSeqs s ++ flightSeqs s).Perm (x.seq :: (pocketSeqs t ++ trackSeqs t ++ flightSeqs t)))
    (hw : (pocketSeqs t).length + (trackSeqs t).length + x.weight ≤ (pocketSeqs s).length + (trackSeqs s).length) :
    LedgerMove none s (some x) t := by
  refine .of_places hr he hc ?_ hp.symm hw
  simp only [queuedSeqs, hx]
  rfl

/-- A record comes to its place. -/
theorem LedgerMove.of_put {x : Item} {s t : State} (hr : t.queue.records = s.queue.records) (he : t.reprints = s.reprints)
    (hc : t.line.counters = s.line.counters) (hx : x.queued = false)
    (hp : (pocketSeqs t ++ trackSeqs t ++ flightSeqs t).Perm (x.seq :: (pocketSeqs s ++ trackSeqs s ++ flightSeqs s)))
    (hw : (pocketSeqs t).length + (trackSeqs t).length ≤ (pocketSeqs s).length + (trackSeqs s).length + x.weight) :
    LedgerMove (some x) s none t := by
  refine .of_places hr he hc ?_ hp hw
  simp only [queuedSeqs, hx]
  rfl

theorem dropFlight_ledger {b : Nat} {f : Flight} {s : State} (hb : b < 32) (hf : f ∈ (binAt b s).flights) :
    LedgerMove none s (some ⟨f.seq, 0, false⟩) (dropFlight b f s) := by
  refine .of_taken rfl rfl rfl rfl ?_ (Nat.le_refl _)
  refine List.Perm.trans (List.Perm.append_left _ (flightSeqs_take hb (x := { binAt b s with
    flights := (binAt b s).flights.erase f, committed := (binAt b s).committed - 1 }) (List.perm_cons_erase hf))) ?_
  exact List.perm_middle

theorem landedFlight_ledger {b : Nat} {x : Bin} {f : Flight} {s : State} (hb : b < 32) (hx : (binAt b s).flights = f :: x.flights) :
    LedgerMove none s (some ⟨f.seq, 0, false⟩) (putBin b x s) := by
  refine .of_taken rfl rfl rfl rfl ?_ (Nat.le_refl _)
  exact (List.Perm.append_left _ (flightSeqs_take hb (.of_eq hx))).trans List.perm_middle

theorem select_ledger {b : Nat} (f : Flight) {s : State} (hb : b < 32) :
    LedgerMove (some (.loose f.seq)) s none (putBin b ((binAt b s).select f) s) := by
  refine .of_put rfl rfl rfl rfl ?_ (Nat.le_add_right _ _)
  exact (List.Perm.append_left _ (flightSeqs_add hb rfl)).trans List.perm_middle

/-- A record leaves the pockets. -/
theorem LedgerMove.of_pocketTaken {n : Nat} {s : State} {x : CollationUnit} (hp : (pocketSeqs s).Perm (n :: pocketSeqs (s.setCollation x))) :
    LedgerMove none s (some (.loose n)) (s.setCollation x) := by
  refine .of_taken rfl rfl rfl rfl ?_ ?_
  · exact (hp.append_right _).append_right _
  · have := hp.length_eq
    rw [List.length_cons] at this
    show _ + (trackSeqs s).length + 1 ≤ _
    omega

/-- A record comes to the pockets. -/
theorem LedgerMove.of_pocketPut {n : Nat} {s : State} {x : CollationUnit} (hp : (pocketSeqs (s.setCollation x)).Perm (n :: pocketSeqs s)) :
    LedgerMove (some (.loose n)) s none (s.setCollation x) := by
  refine .of_put rfl rfl rfl rfl ?_ ?_
  · exact (hp.append_right _).append_right _
  · have := hp.length_eq
    rw [List.length_cons] at this
    show _ + (trackSeqs s).length ≤ _
    dsimp only
    omega

/-- A record leaves the track. -/
theorem LedgerMove.of_trackTaken {n : Nat} {s t : State} (h : KeepsAllBut [.slots, .pageUse, .groups] s t)
    (hp : (trackSeqs s).Perm (n :: trackSeqs t)) : LedgerMove none s (some (.loose n)) t := by
  have epocket : pocketSeqs t = pocketSeqs s := by
    rw [pocketSeqs, (h .collecting (by decide) : t.collation.collecting = _), (h .staging (by decide) : t.collation.staging = _)]
  have eflight : flightSeqs t = flightSeqs s := by rw [flightSeqs, h.bins_eq (by decide)]
  refine .of_taken (h .records (by decide)) (h .reprints (by decide)) (h .counters (by decide)) rfl ?_ ?_
  · rw [epocket, eflight]
    exact ((hp.append_left _).append_right _).trans (List.perm_middle.append_right _)
  · have := hp.length_eq
    rw [List.length_cons] at this
    rw [epocket]
    dsimp only
    omega

/-- A record comes to the track. -/
theorem LedgerMove.of_trackPut {n : Nat} {s t : State} (h : KeepsAllBut [.slots, .pageUse, .groups] s t)
    (hp : (trackSeqs t).Perm (n :: trackSeqs s)) : LedgerMove (some (.loose n)) s none t := by
  have epocket : pocketSeqs t = pocketSeqs s := by
    rw [pocketSeqs, (h .collecting (by decide) : t.collation.collecting = _), (h .staging (by decide) : t.collation.staging = _)]
  have eflight : flightSeqs t = flightSeqs s := by rw [flightSeqs, h.bins_eq (by decide)]
  refine .of_put (h .records (by decide)) (h .reprints (by decide)) (h .counters (by decide)) rfl ?_ ?_
  · rw [epocket, eflight]
    exact ((hp.append_left _).append_right _).trans (List.perm_middle.append_right _)
  · have := hp.length_eq
    rw [List.length_cons] at this
    rw [epocket]
    dsimp only
    omega

theorem lowerMatchCounts_slots (m : SchemeMatch) (s : State) : (lowerMatchCounts m s).track = s.track := by
  rw [lowerMatchCounts_eq]
  rfl

theorem raiseMatchCounts_slots (m : SchemeMatch) (s : State) : (raiseMatchCounts m s).track = s.track := by
  rw [raiseMatchCounts_eq]
  rfl

theorem leave_ledger {n : Nat} {p : Piece} {s : State} (h : pieceAt n s = some p) :
    LedgerMove none s (some (.loose p.job.seq)) (lowerMatchCounts p.scheme (putSlot n none s)) := by
  refine .of_trackTaken (lowerMatchCounts_keeps (by decide) (putSlot_keeps (by decide) (.start _ s) n none) _) ?_
  rw [trackSeqs, trackSeqs, trackMarks, trackMarks, lowerMatchCounts_slots]
  exact (trackMarks_leave h).map (·.1)

theorem enter_ledger {p : Piece} {s : State} (h : s.track.slots[0]? = some none) :
    LedgerMove (some (.loose p.job.seq)) s none
      (raiseMatchCounts p.scheme (s.setTrack { s.track with slots := s.track.slots.set 0 (some p) })) := by
  refine .of_trackPut (raiseMatchCounts_keeps (by decide) (putSlot_keeps (by decide) (.start _ s) 0 (some p)) _) ?_
  rw [trackSeqs, trackSeqs, trackMarks, trackMarks, raiseMatchCounts_slots]
  exact (trackMarks_enter h).map (·.1)

theorem Move.ledger {i i' : Option Item} {d d' : Bool} {s t : State} (m : Move i d s i' d' t) : LedgerMove i s i' t := by
  cases m with
  | head hx hw => exact .head _ _ hx hw rfl rfl rfl
  | dispose k hx => exact .dispose _ k _ hx rfl rfl rfl
  | release => exact .release _ rfl rfl rfl
  | quiet h => exact .of_keeps h.keeps (by decide)
  | slots h hm =>
    refine .of_same (h .records (by decide)) (h .reprints (by decide)) (h .counters (by decide))
      (h .collecting (by decide)) (h .staging (by decide)) hm ?_
    unfold flightSeqs
    rw [(h .bins (by decide) : t.sort.bins = s.sort.bins)]
  | bin hb h => exact .of_same rfl rfl rfl rfl rfl rfl (flightSeqs_putBin_same hb h.flights)
  | sweep hb h => exact .of_same rfl rfl rfl rfl rfl rfl (flightSeqs_putBin_same hb h.flights)
  | drop hb hf => exact dropFlight_ledger hb hf
  | land hb hf => exact landedFlight_ledger hb hf
  | select hb => exact select_ledger _ hb
  | collecting x h =>
    refine .of_places rfl rfl rfl rfl ?_ ?_
    · simp only [pocketSeqs, setCollecting, State.setCollation_collation, h]
      exact List.Perm.refl _
    · simp only [pocketSeqs, setCollecting, State.setCollation_collation, h]
      exact Nat.le_refl _
  | staging x h =>
    have e : x.toList.map (·.job.seq) = s.collation.staging.toList.map (·.job.seq) := by
      rw [← Option.toList_map, ← Option.toList_map, h]
    refine .of_places rfl rfl rfl rfl ?_ ?_
    · simp only [pocketSeqs, setStaging, State.setCollation_collation, e]
      exact List.Perm.refl _
    · simp only [pocketSeqs, setStaging, State.setCollation_collation, e]
      exact Nat.le_refl _
  | takeCollecting h =>
    refine .of_pocketTaken ?_
    rw [pocketSeqs, h]
    exact List.Perm.refl _
  | putCollecting c h =>
    refine .of_pocketPut ?_
    rw [pocketSeqs, pocketSeqs, h]
    exact List.Perm.refl _
  | takeStaging h =>
    refine .of_pocketTaken ?_
    rw [pocketSeqs, h]
    exact List.perm_middle
  | putStaging c h =>
    refine .of_pocketPut ?_
    rw [pocketSeqs, pocketSeqs, h]
    exact List.perm_middle
  | leave h => exact leave_ledger h
  | enter h => exact enter_ledger h
  | log => exact .of_keeps (appendLog_keeps (List.Subset.refl _) (.start _ s) _) (by decide)
  | due => exact .of_keeps (.start [] s) (by decide)
  | _ => exact .of_same rfl rfl rfl rfl rfl rfl rfl

end Sys2Proof.Machine
end

section
/-! What every move keeps of a run's bookkeeping (R102, R107, R127, R134). -/

namespace Sys2Proof.Machine

/-! ### The accepted count -/

/-- The bookkeeping of a run while a record is held, in a state that the ending flag may not yet have left. -/
structure Books (i : Option Item) (s : State) : Prop where
  locked : s.line.locked = true ↔ s.line.state ≠ .idle
  draining : s.line.state = .draining → s.line.ending = true
  noQueue : s.line.ending = true → s.queue.records = []
  empty : s.line.state = .idle ∨ s.line.state = .closed → lineSeqs i s = []
  range : s.line.counters.accepted ≤ Config.counterLimit
  balanced : s.line.state ≠ .idle → s.line.counters.accepted = (lineSeqs i s).length + dispositions s

/-- The bookkeeping of a run while a record is held. -/
structure Accounted (i : Option Item) (s : State) : Prop extends Books i s where
  ending : s.line.ending = true →
    s.line.state = .draining ∨ s.line.state = .paused ∨ s.line.state = .jammed ∨ s.line.state = .closed

theorem accounted_iff {s : State} : Accounted none s ↔ RunAccounted s := by
  have e : lineSeqs none s = sequencesHeld s := List.nil_append _
  have hz : recordsHeld s = 0 ↔ lineSeqs none s = [] := by rw [recordsHeld_eq, List.length_eq_zero_iff, e]
  constructor
  · intro h
    refine ⟨h.locked, h.ending, h.draining, h.noQueue, fun hs => hz.mpr (h.empty hs), h.range, fun hs => ?_⟩
    rw [recordsHeld_eq, ← e]
    exact h.balanced hs
  · rintro ⟨hlocked, hending, hdraining, hqueue, hempty, hrange, hbalanced⟩
    refine ⟨⟨hlocked, hdraining, hqueue, fun hs => hz.mp (hempty hs), hrange, fun hs => ?_⟩, hending⟩
    rw [e, ← recordsHeld_eq]
    exact hbalanced hs

theorem dispositions_bump (k : Disposition) {s : State} (h : dispositions s < Config.counterLimit) :
    dispositions (countDisposition k s) = dispositions s + 1 := by
  unfold dispositions at h ⊢
  have up {n : Nat} (hn : n < Config.counterLimit) : countUp n = n + 1 := min_eq_right hn
  cases k <;> simp only [countDisposition, State.setLine_line, Counters.bump] <;> rw [up (by omega)] <;> omega

theorem lineSeqs_setReprints (i : Option Item) (s : State) (l : List ReprintEntry) : lineSeqs i (s.setReprints l) = lineSeqs i s :=
  rfl

theorem lineSeqs_setLine (i : Option Item) (s : State) (l : LineControl) : lineSeqs i (s.setLine l) = lineSeqs i s := rfl

theorem lineSeqs_head {x : JobRecord} {w : Nat} {b : Bool} {s : State} (h : s.queue.records.head? = some x) :
    lineSeqs (some ⟨x.seq, w, b⟩) (s.setQueue { s.queue with records := s.queue.records.tail }) = lineSeqs none s := by
  have e : s.queue.records.map (·.seq) = x.seq :: s.queue.records.tail.map (·.seq) := by
    rw [← List.map_cons, ← List.eq_cons_of_mem_head? h]
  unfold lineSeqs sequencesHeld
  rw [e]
  rfl

section
variable {i i' : Option Item} {d d' : Bool} {s t : State}

theorem LedgerMove.empty (m : LedgerMove i s i' t) (h : lineSeqs i s = []) : lineSeqs i' t = [] := by
  cases m with
  | kept _ _ _ _ hp =>
    rw [h] at hp
    exact hp.eq_nil
  | head x w hx _ hi hi' ht =>
    rw [hi', ht, lineSeqs_head hx, ← hi]
    exact h
  | dispose x k e _ hi =>
    rw [hi] at h
    exact absurd h (List.cons_ne_nil _ _)
  | release seq hi =>
    rw [hi] at h
    exact absurd h (List.cons_ne_nil _ _)

theorem LedgerMove.noQueue (m : LedgerMove i s i' t) (h : s.queue.records = []) : t.queue.records = [] := by
  cases m with
  | kept hr => exact hr.trans h
  | head x w hx _ _ _ ht =>
    rw [ht]
    exact congrArg List.tail h
  | dispose x k e _ _ _ ht =>
    rw [ht, applyEntry_eq]
    exact h
  | release seq _ _ ht =>
    rw [ht]
    exact h

theorem LedgerMove.accepted (m : LedgerMove i s i' t) : t.line.counters.accepted = s.line.counters.accepted := by
  cases m with
  | kept _ _ hc => rw [hc]
  | head x w _ _ _ _ ht => rw [ht]; rfl
  | dispose x k e _ _ _ ht =>
    rw [ht, applyEntry_eq]
    cases k <;> rfl
  | release seq _ _ ht => rw [ht]; rfl

theorem LedgerMove.balanced (m : LedgerMove i s i' t) (hr : s.line.counters.accepted ≤ Config.counterLimit)
    (h : s.line.counters.accepted = (lineSeqs i s).length + dispositions s) :
    t.line.counters.accepted = (lineSeqs i' t).length + dispositions t := by
  rw [m.accepted]
  cases m with
  | kept _ _ hc _ hp =>
    rw [hp.length_eq, dispositions, hc]
    exact h
  | head x w hx _ hi hi' ht =>
    rw [hi', ht, lineSeqs_head hx, ← hi]
    exact h
  | dispose x k e _ hi hi' ht =>
    have hlen : (lineSeqs i s).length = (lineSeqs none s).length + 1 := by
      rw [hi]
      rfl
    have hd : dispositions t = dispositions (countDisposition k s) := by
      rw [ht, applyEntry_eq]
      rfl
    have hl : lineSeqs none t = lineSeqs none s := by
      rw [ht, applyEntry_eq]
      rfl
    rw [hi', hl, hd, dispositions_bump k (by omega)]
    omega
  | release seq hi hi' ht =>
    rw [hi', ht, lineSeqs_setReprints]
    rw [hi] at h
    exact h

theorem Books.drained (h : Books none s) (hs : s.line.state = .draining ∨ (s.line.state ≠ .idle ∧ s.line.ending = true))
    (hd : drained s = true) : lineSeqs none s = [] := by
  have hq : s.queue.records = [] := by
    obtain hs | ⟨_, hs⟩ := hs
    · exact h.noQueue (h.draining hs)
    · exact h.noQueue hs
  unfold Machine.drained at hd
  simp only [Bool.and_eq_true, beq_iff_eq, List.all_eq_true] at hd
  obtain ⟨⟨⟨hc, hst⟩, htr⟩, hf⟩ := hd
  have etrack : s.track.slots.filterMap (fun x => x.map (·.job.seq)) = [] := by
    rw [List.filterMap_eq_nil_iff]
    intro x hx
    have := htr x hx
    rw [Option.isNone_iff_eq_none] at this
    rw [this]
    rfl
  have eflights : s.sort.bins.toList.flatMap (fun x => x.flights.map (·.seq)) = [] := by
    rw [List.flatMap_eq_nil_iff]
    intro x hx
    rw [List.isEmpty_iff.mp (hf x hx)]
    rfl
  unfold lineSeqs sequencesHeld
  rw [etrack, eflights, hq, hc, hst]
  rfl

theorem StopReason.ne_idle {r : StopReason} {x : RunState} (h : r.takenIn x = true) : x ≠ .idle ∧ x ≠ .closed ∧ x ≠ .ready := by
  cases x <;> cases r <;> simp_all [StopReason.takenIn]

theorem StopReason.target_cases (r : StopReason) : r.target = .paused ∨ r.target = .jammed := by
  cases r <;> simp [StopReason.target]

theorem Books.move (h : Books i s) (m : Move i d s i' d' t) : Books i' t := by
  have hlocked : t.line.locked = s.line.locked := m.keeps .locked (by decide)
  have hending : t.line.ending = s.line.ending := m.keeps .ending (by decide)
  have hledger := m.ledger
  have hempty (hs : s.line.state = .idle ∨ s.line.state = .closed) : lineSeqs i' t = [] := hledger.empty (h.empty hs)
  have hqueue (he : s.line.ending = true) : t.queue.records = [] := hledger.noQueue (h.noQueue he)
  have hrange := hledger.accepted ▸ h.range
  have hbalanced (hs : s.line.state ≠ .idle) := hledger.balanced h.range (h.balanced hs)
  have ofState (hs : t.line.state = s.line.state) : Books i' t :=
    { locked := by rw [hlocked, hs]; exact h.locked
      draining := by rw [hending, hs]; exact h.draining
      noQueue := by rw [hending]; exact hqueue
      empty := by rw [hs]; exact hempty
      range := hrange
      balanced := by rw [hs]; exact hbalanced }
  obtain hs | ⟨_, ht⟩ | ⟨_, reason, hr, ht⟩ | ⟨_, hi, hi', hs, hd, ht⟩ := m.line_cases
  · exact ofState hs
  · exact ofState (by rw [ht]; rfl)
  · have hs : t.line.state = reason.target := by rw [ht]; rfl
    have hne : s.line.state ≠ .idle := (StopReason.ne_idle hr).1
    have htarget := reason.target_cases
    exact
      { locked := by
          rw [hlocked, hs]
          obtain e | e := htarget <;> rw [e] <;> exact ⟨fun _ => by decide, fun _ => h.locked.mpr hne⟩
        draining := by rw [hs]; obtain e | e := htarget <;> rw [e] <;> exact fun k => absurd k (by decide)
        noQueue := by rw [hending]; exact hqueue
        empty := by rw [hs]; obtain e | e := htarget <;> rw [e] <;> exact fun k => absurd k (by decide)
        range := hrange
        balanced := fun _ => hbalanced hne }
  · have hst : t.line.state = .closed := by rw [ht]; rfl
    have hne : s.line.state ≠ .idle := by
      obtain hs | hs := hs
      · rw [hs]; decide
      · exact hs.1
    exact
      { locked := by rw [hlocked, hst]; exact ⟨fun _ => by decide, fun _ => h.locked.mpr hne⟩
        draining := by rw [hst]; exact fun k => absurd k (by decide)
        noQueue := by rw [hending]; exact hqueue
        empty := fun _ => by
          rw [hi', ht, lineSeqs_setLine]
          exact (hi ▸ h).drained hs hd
        range := hrange
        balanced := fun _ => hbalanced hne }

theorem Books.moves (h : Books i s) (m : Moves i d s i' d' t) : Books i' t :=
  m.induct (P := fun i _ s => Books i s) (fun m h => h.move m) h

/-- A move leads an open run to a stop or to its close. -/
theorem Move.state_cases (m : Move i d s i' d' t) : t.line.state = s.line.state ∨
    ((s.line.state ≠ .idle) ∧ (t.line.state = .paused ∨ t.line.state = .jammed ∨ t.line.state = .closed)) := by
  obtain hs | ⟨_, ht⟩ | ⟨_, reason, hr, ht⟩ | ⟨_, _, _, hs, _, ht⟩ := m.line_cases
  · exact .inl hs
  · exact .inl (by rw [ht]; rfl)
  · refine .inr ⟨(StopReason.ne_idle hr).1, ?_⟩
    have hs : t.line.state = reason.target := by rw [ht]; rfl
    rw [hs]
    exact reason.target_cases.imp id .inl
  · refine .inr ⟨?_, .inr (.inr (by rw [ht]; rfl))⟩
    obtain hs | hs := hs
    · rw [hs]; decide
    · exact hs.1

theorem Moves.state_cases (m : Moves i d s i' d' t) : t.line.state = s.line.state ∨
    ((s.line.state ≠ .idle) ∧ (t.line.state = .paused ∨ t.line.state = .jammed ∨ t.line.state = .closed)) := by
  refine m.induct (P := fun _ _ u => u.line.state = s.line.state ∨
    ((s.line.state ≠ .idle) ∧ (u.line.state = .paused ∨ u.line.state = .jammed ∨ u.line.state = .closed)))
    (fun m h => ?_) (.inl rfl)
  obtain e | ⟨hne, e⟩ := m.state_cases
  · rw [e]; exact h
  · refine .inr ⟨?_, e⟩
    obtain h | h := h
    · rw [← h]; exact hne
    · exact h.1

theorem Accounted.moves (h : Accounted i s) (m : Moves i d s i' d' t) : Accounted i' t where
  toBooks := h.toBooks.moves m
  ending := fun he => by
    obtain hs | ⟨_, hs⟩ := m.state_cases
    · rw [hs]
      exact h.ending ((m.keeps.ending_eq (by decide)).symm.trans he)
    · exact .inr hs

end

end Sys2Proof.Machine
end

section
/-! The discipline of the sequences: what every move keeps of the Reprint List and of the queue (R5, R6, R7, R127). -/

namespace Sys2Proof.Machine

/-! ### The Reprint List beside the records on the line -/

/-- The entries whose reprint is not on the line. -/
abbrev openSeqs (l : List ReprintEntry) : List Nat := (l.filter (fun e => e.state != .queued)).map (·.seq)

/-- A Reprint List fits the sequences on the line, of which `rep` are those of the reprint records whose QUEUED entries stand
(R6, R127). -/
structure Entries (line rep : List Nat) (l : List ReprintEntry) : Prop where
  once : (line ++ openSeqs l).Nodup
  apart : (l.map (·.seq)).Nodup
  queued : ∀ e ∈ l, e.state = .queued → e.seq ∈ rep
  listed : ∀ n ∈ rep, ∃ e ∈ l, e.state = .queued ∧ e.seq = n
  onLine : ∀ n ∈ rep, n ∈ line

theorem Entries.perm {line line' rep rep' : List Nat} {l : List ReprintEntry} (h : Entries line rep l)
    (hl : line'.Perm line) (hr : rep'.Perm rep) : Entries line' rep' l where
  once := (hl.append_right _).nodup_iff.mpr h.once
  apart := h.apart
  queued := fun e he hq => hr.mem_iff.mpr (h.queued e he hq)
  listed := fun n hn => h.listed n (hr.mem_iff.mp hn)
  onLine := fun n hn => hl.mem_iff.mpr (h.onLine n (hr.mem_iff.mp hn))

/-- The list cut at the QUEUED entry of a sequence. -/
theorem Entries.split {line rep : List Nat} {n : Nat} {l : List ReprintEntry} (h : Entries line (n :: rep) l) :
    ∃ a e b, l = a ++ e :: b ∧ e.state = .queued ∧ e.seq = n ∧ (∀ x ∈ a, ReprintEntry.isQueued n x = false) ∧
      (∀ x ∈ a ++ b, x.seq ≠ n) := by
  obtain ⟨e, he, hq, hn⟩ := h.listed n (List.mem_cons_self ..)
  obtain ⟨a, b, rfl⟩ := List.append_of_mem he
  have hne : ∀ x ∈ a ++ b, x.seq ≠ n := by
    have := h.apart
    rw [List.map_append, List.map_cons, (List.perm_middle).nodup_iff, List.nodup_cons, ← List.map_append] at this
    intro x hx hxn
    exact this.1 (List.mem_map.mpr ⟨x, hx, hxn.trans hn.symm⟩)
  refine ⟨a, e, b, rfl, hq, hn, fun x hx => ?_, hne⟩
  have := hne x (List.mem_append_left _ hx)
  simp [ReprintEntry.isQueued, this]

theorem updateEntry_append {test : ReprintEntry → Bool} {change : ReprintEntry → ReprintEntry} {a b : List ReprintEntry}
    {e : ReprintEntry} (ha : ∀ x ∈ a, test x = false) (he : test e = true) :
    updateEntry test change (a ++ e :: b) = a ++ change e :: b := by
  induction a with
  | nil => simp [updateEntry, he]
  | cons x a ih =>
    rw [List.cons_append, updateEntry, if_neg (by rw [ha x (List.mem_cons_self ..)]; decide),
      ih fun y hy => ha y (List.mem_cons_of_mem _ hy)]
    rfl

theorem isQueued_of {n : Nat} {e : ReprintEntry} (hq : e.state = .queued) (hn : e.seq = n) : ReprintEntry.isQueued n e = true := by
  simp [ReprintEntry.isQueued, hq, hn]

theorem openSeqs_append (a b : List ReprintEntry) : openSeqs (a ++ b) = openSeqs a ++ openSeqs b := by
  rw [openSeqs, List.filter_append, List.map_append]

theorem openSeqs_cons_queued {e : ReprintEntry} (h : e.state = .queued) (l : List ReprintEntry) : openSeqs (e :: l) = openSeqs l := by
  rw [openSeqs, List.filter_cons_of_neg (by simp [h])]

theorem openSeqs_cons_of_ne {e : ReprintEntry} (h : e.state ≠ .queued) (l : List ReprintEntry) :
    openSeqs (e :: l) = e.seq :: openSeqs l := by
  rw [openSeqs, List.filter_cons_of_pos (by simp [h]), List.map_cons]

/-- The entry of a disposed record is taken off the line: the QUEUED entry becomes OPEN again (R128). -/
theorem Entries.reopen {line rep : List Nat} {n : Nat} {l : List ReprintEntry} {change : ReprintEntry → ReprintEntry}
    (h : Entries (n :: line) (n :: rep) l) (hsub : ∀ k ∈ rep, k ∈ line) (hs : ∀ e, (change e).state ≠ .queued)
    (hn : ∀ e, (change e).seq = e.seq) : Entries line rep (updateEntry (ReprintEntry.isQueued n) change l) := by
  obtain ⟨a, e, b, rfl, hq, rfl, ha, hne⟩ := h.split
  rw [updateEntry_append ha (isQueued_of hq rfl)]
  have hline : e.seq ∉ line := by
    have := h.once
    rw [List.cons_append, List.nodup_cons] at this
    exact fun hm => this.1 (List.mem_append_left _ hm)
  refine ⟨?_, ?_, fun x hx hxq => ?_, fun k hk => ?_, hsub⟩
  · have := h.once
    rw [openSeqs_append, openSeqs_cons_queued hq] at this
    rw [openSeqs_append, openSeqs_cons_of_ne (hs e), hn]
    refine List.Perm.nodup_iff ?_ |>.mpr this
    rw [← List.append_assoc, ← List.append_assoc]
    exact List.perm_middle
  · have := h.apart
    rw [List.map_append, List.map_cons] at this ⊢
    rwa [hn]
  · have hxm : x ∈ a ++ b := by
      rw [List.mem_append, List.mem_cons] at hx
      obtain hx | rfl | hx := hx
      · exact List.mem_append_left _ hx
      · exact absurd hxq (hs e)
      · exact List.mem_append_right _ hx
    have hmem := h.queued x (by simp only [List.mem_append, List.mem_cons] at hxm ⊢; tauto) hxq
    exact (List.mem_cons.mp hmem).resolve_left (hne x hxm)
  · obtain ⟨x, hx, hxq, rfl⟩ := h.listed k (List.mem_cons_of_mem _ hk)
    have hxe : x ≠ e := fun he => hline (he ▸ hsub _ hk)
    refine ⟨x, ?_, hxq, rfl⟩
    simp only [List.mem_append, List.mem_cons] at hx ⊢
    tauto

/-- The QUEUED entry of a record that stays on the line is removed (R28). -/
theorem Entries.release {line rep : List Nat} {n : Nat} {l : List ReprintEntry}
    (h : Entries (n :: line) (n :: rep) l) (hsub : ∀ k ∈ rep, k ∈ line) :
    Entries (n :: line) rep (l.eraseP (ReprintEntry.isQueued n)) ∧ (l.eraseP (ReprintEntry.isQueued n)).length + 1 = l.length := by
  obtain ⟨a, e, b, rfl, hq, rfl, ha, hne⟩ := h.split
  have herase : (a ++ e :: b).eraseP (ReprintEntry.isQueued e.seq) = a ++ b := by
    rw [List.eraseP_append_right _ (fun x hx => by rw [ha x hx]; decide), List.eraseP_cons_of_pos (isQueued_of hq rfl)]
  have hline : e.seq ∉ line := by
    have := h.once
    rw [List.cons_append, List.nodup_cons] at this
    exact fun hm => this.1 (List.mem_append_left _ hm)
  rw [herase]
  refine ⟨⟨?_, ?_, fun x hx hxq => ?_, fun k hk => ?_, fun k hk => List.mem_cons_of_mem _ (hsub k hk)⟩, ?_⟩
  · have := h.once
    rwa [openSeqs_append, openSeqs_cons_queued hq, ← openSeqs_append] at this
  · have := h.apart
    rw [List.map_append, List.map_cons, List.perm_middle.nodup_iff, List.nodup_cons, ← List.map_append] at this
    exact this.2
  · have hmem := h.queued x (by simp only [List.mem_append, List.mem_cons] at hx ⊢; tauto) hxq
    exact (List.mem_cons.mp hmem).resolve_left (hne x hx)
  · obtain ⟨x, hx, hxq, rfl⟩ := h.listed k (List.mem_cons_of_mem _ hk)
    have hxe : x ≠ e := fun he => hline (he ▸ hsub _ hk)
    refine ⟨x, ?_, hxq, rfl⟩
    simp only [List.mem_append, List.mem_cons] at hx ⊢
    tauto
  · simp only [List.length_append, List.length_cons]
    omega

/-- A record without a QUEUED entry is disposed with a new entry (R124). -/
theorem Entries.create {line rep : List Nat} {l : List ReprintEntry} {e : ReprintEntry} (h : Entries (e.seq :: line) rep l)
    (hsub : ∀ k ∈ rep, k ∈ line) (he : e.state ≠ .queued) : Entries line rep (l ++ [e]) := by
  have honce := h.once
  rw [List.cons_append, List.nodup_cons, List.mem_append, not_or] at honce
  obtain ⟨⟨hline, hopen⟩, _⟩ := honce
  refine ⟨?_, ?_, fun x hx hxq => ?_, fun k hk => ?_, hsub⟩
  · have := h.once
    rw [openSeqs_append, openSeqs_cons_of_ne he]
    refine List.Perm.nodup_iff ?_ |>.mpr this
    rw [← List.append_assoc]
    exact List.perm_append_singleton ..
  · rw [List.map_append, List.map_singleton, (List.perm_append_singleton ..).nodup_iff, List.nodup_cons]
    refine ⟨fun hm => ?_, h.apart⟩
    obtain ⟨x, hx, hxe⟩ := List.mem_map.mp hm
    by_cases hq : x.state = .queued
    · exact hline (hxe ▸ hsub _ (h.queued x hx hq))
    · refine hopen (List.mem_map.mpr ⟨x, List.mem_filter.mpr ⟨hx, ?_⟩, hxe⟩)
      simp [hq]
  · rw [List.mem_append, List.mem_singleton] at hx
    obtain hx | rfl := hx
    · exact h.queued x hx hxq
    · exact absurd hxq he
  · obtain ⟨x, hx, hxq, hxn⟩ := h.listed k hk
    exact ⟨x, List.mem_append_left _ hx, hxq, hxn⟩

/-- A record without a QUEUED entry is disposed without a new one. -/
theorem Entries.dropped {line rep : List Nat} {n : Nat} {l : List ReprintEntry} (h : Entries (n :: line) rep l)
    (hsub : ∀ k ∈ rep, k ∈ line) : Entries line rep l where
  once := (List.nodup_cons.mp h.once).2
  apart := h.apart
  queued := h.queued
  listed := h.listed
  onLine := hsub

/-- An entry whose reprint is not on the line becomes QUEUED as the reprint record joins the line (R7). -/
theorem Entries.queue {line rep : List Nat} {l : List ReprintEntry} {e : ReprintEntry} (h : Entries line rep l)
    (hl : l.find? (fun x => x.seq == e.seq) = some e) (he : e.state ≠ .queued) :
    Entries (e.seq :: line) (e.seq :: rep)
      (updateEntry (fun x => x.seq == e.seq) (fun x => { x with state := .queued }) l) := by
  obtain ⟨_, a, b, rfl, ha⟩ := List.find?_eq_some_iff_append.mp hl
  have ha' : ∀ x ∈ a, (x.seq == e.seq) = false := fun x hx => by simpa using ha x hx
  rw [updateEntry_append ha' (by simp)]
  refine ⟨?_, ?_, fun x hx hxq => ?_, fun k hk => ?_, fun k hk => ?_⟩
  · have := h.once
    rw [openSeqs_append, openSeqs_cons_of_ne he] at this
    rw [openSeqs_append, openSeqs_cons_queued rfl]
    refine List.Perm.nodup_iff ?_ |>.mpr this
    rw [← List.append_assoc, ← List.append_assoc]
    exact List.perm_middle.symm
  · have := h.apart
    rw [List.map_append, List.map_cons] at this ⊢
    exact this
  · rw [List.mem_append, List.mem_cons] at hx
    have hold (hx : x ∈ a ++ e :: b) := List.mem_cons_of_mem e.seq (h.queued x hx hxq)
    obtain hx | rfl | hx := hx
    · exact hold (List.mem_append_left _ hx)
    · exact List.mem_cons_self ..
    · exact hold (List.mem_append_right _ (List.mem_cons_of_mem _ hx))
  · obtain rfl | hk := List.mem_cons.mp hk
    · exact ⟨_, List.mem_append_right _ (List.mem_cons_self ..), rfl, rfl⟩
    · obtain ⟨x, hx, hxq, hxn⟩ := h.listed k hk
      have hxe : x ≠ e := fun k => he (k ▸ hxq)
      refine ⟨x, ?_, hxq, hxn⟩
      simp only [List.mem_append, List.mem_cons] at hx ⊢
      tauto
  · obtain rfl | hk := List.mem_cons.mp hk
    · exact List.mem_cons_self ..
    · exact List.mem_cons_of_mem _ (h.onLine k hk)

/-! ### What every move keeps of it -/

/-- The sequences of the reprint records whose QUEUED entries stand: the record held, and those in the queue. -/
abbrev reprintSeqs (i : Option Item) (s : State) : List Nat :=
  queuedSeqs i ++ (s.queue.records.filter (·.reprint)).map (·.seq)

/-- The discipline of the sequences of a run while a record is held. -/
structure Sequenced (i : Option Item) (s : State) : Prop where
  rising : ((s.queue.records.filter (fun r => !r.reprint)).map (·.seq)).Pairwise (· < ·)
  known : ∀ n ∈ lineSeqs i s ++ s.reprints.map (·.seq), ∃ l, s.queue.last = some l ∧ n ≤ l
  entries : Entries (lineSeqs i s) (reprintSeqs i s) s.reprints
  free : s.reprints.length + inFlightCount s + heldWeight i ≤ 256

theorem reprintSeqs_onLine {s : State} {n : Nat} (h : n ∈ reprintSeqs none s) : n ∈ lineSeqs none s := by
  obtain ⟨r, hr, rfl⟩ := List.mem_map.mp h
  have : r.seq ∈ queueSeqs s := List.mem_map.mpr ⟨r, (List.mem_filter.mp hr).1, rfl⟩
  simp only [lineSeqs, sequencesHeld_eq, List.mem_append]
  exact .inr (.inl (.inl (.inl this)))

theorem sequencesSound_iff {s : State} (hi : s.line.state = .idle → s.reprints = []) : Sequenced none s ↔ SequencesSound s := by
  have e : lineSeqs none s = sequencesHeld s := List.nil_append _
  constructor
  · rintro ⟨hrising, hknown, ⟨honce, hapart, hqueued, hlisted, _⟩, hfree⟩
    rw [e] at hknown honce
    refine ⟨hrising, hknown, honce, hapart, fun x hx hq => ?_, fun r hr hre => ?_, hfree, hi⟩
    · obtain ⟨r, hr, hn⟩ := List.mem_map.mp (hqueued x hx hq)
      exact ⟨r, (List.mem_filter.mp hr).1, (List.mem_filter.mp hr).2, hn⟩
    · exact hlisted r.seq (List.mem_map.mpr ⟨r, List.mem_filter.mpr ⟨hr, hre⟩, rfl⟩)
  · rintro ⟨hrising, hknown, honce, hapart, hqueued, hlisted, hfree, _⟩
    rw [← e] at hknown honce
    refine ⟨hrising, hknown, ⟨honce, hapart, fun x hx hq => ?_, fun n hn => ?_, fun n hn => reprintSeqs_onLine hn⟩, hfree⟩
    · obtain ⟨r, hr, hre, hn⟩ := hqueued x hx hq
      exact List.mem_map.mpr ⟨r, List.mem_filter.mpr ⟨hr, hre⟩, hn⟩
    · obtain ⟨r, hr, rfl⟩ := List.mem_map.mp hn
      exact hlisted r (List.mem_filter.mp hr).1 (List.mem_filter.mp hr).2

section
variable {i i' : Option Item} {d d' : Bool} {s t : State}

theorem reprintSeqs_head {x : JobRecord} {w : Nat} (h : s.queue.records.head? = some x) :
    reprintSeqs (some ⟨x.seq, w, x.reprint⟩) (s.setQueue { s.queue with records := s.queue.records.tail }) = reprintSeqs none s := by
  have e := List.eq_cons_of_mem_head? h
  have hf : s.queue.records.filter (·.reprint) =
      if x.reprint then x :: s.queue.records.tail.filter (·.reprint) else s.queue.records.tail.filter (·.reprint) := by
    conv_lhs => rw [e]
    exact List.filter_cons
  unfold reprintSeqs
  rw [hf]
  cases x.reprint <;> rfl

theorem applyEntry_sequenced {x : Item} {e : EntryEffect} (he : x.Takes e) (h : Sequenced (some x) s) :
    Sequenced none (applyEntry e s) := by
  have hline : lineSeqs (some x) s = x.seq :: lineSeqs none s := rfl
  have hsub : ∀ k ∈ reprintSeqs none s, k ∈ lineSeqs none s := fun k => reprintSeqs_onLine
  obtain ⟨hrising, hknown, hentries, hfree⟩ := h
  rw [hline] at hknown hentries
  have hweight : heldWeight (some x) = x.weight := rfl
  rw [hweight] at hfree
  cases e with
  | none =>
    have hq : x.queued = false := he
    have hrep : reprintSeqs (some x) s = reprintSeqs none s := by
      rw [reprintSeqs, queuedSeqs, if_neg (by simp [hq])]
      rfl
    rw [hrep] at hentries
    refine ⟨hrising, fun n hn => hknown n ?_, hentries.dropped hsub, ?_⟩
    · exact List.mem_cons_of_mem _ hn
    · exact le_trans (Nat.le_add_right _ _) hfree
  | create seq inc reason =>
    obtain ⟨rfl, hq, hw⟩ := he
    have hrep : reprintSeqs (some x) s = reprintSeqs none s := by
      rw [reprintSeqs, queuedSeqs, if_neg (by simp [hq])]
      rfl
    rw [hrep] at hentries
    have hroom : s.reprints.length < Config.reprintCapacity := by
      show _ < 256
      omega
    have eapply : applyEntry (.create x.seq inc reason) s =
        s.setReprints (s.reprints ++ [{ seq := x.seq, inc := inc, reason := reason, state := .open }]) := if_pos hroom
    rw [eapply]
    refine ⟨hrising, fun n hn => hknown n ?_, ?_, ?_⟩
    · simp only [State.setReprints_reprints, lineSeqs_setReprints, List.map_append, List.mem_append, List.map_singleton,
        List.mem_cons] at hn ⊢
      tauto
    · exact hentries.create hsub EntryState.noConfusion
    · have : inFlightCount (s.setReprints (s.reprints ++ [{ seq := x.seq, inc := inc, reason := reason, state := .open }])) =
        inFlightCount s := rfl
      rw [State.setReprints_reprints, List.length_append, List.length_singleton, this]
      show _ + 0 ≤ 256
      omega
  | reopen seq reason =>
    obtain ⟨rfl, hq⟩ := he
    have hrep : reprintSeqs (some x) s = x.seq :: reprintSeqs none s := by
      rw [reprintSeqs, queuedSeqs, if_pos hq]
      rfl
    rw [hrep] at hentries
    have hnew := hentries.reopen (change := fun e => { e with state := .open, reason := reason.getD e.reason }) hsub
      (fun e => EntryState.noConfusion) (fun e => rfl)
    refine ⟨hrising, fun n hn => hknown n ?_, hnew, ?_⟩
    · have hseqs : (updateEntry (ReprintEntry.isQueued x.seq)
          (fun e => { e with state := .open, reason := reason.getD e.reason }) s.reprints).map (·.seq) = s.reprints.map (·.seq) := by
        obtain ⟨a, e, b, hl, hq, hn, ha, _⟩ := hentries.split
        rw [hl, updateEntry_append ha (isQueued_of hq hn)]
        simp only [List.map_append, List.map_cons]
      have hn' : n ∈ lineSeqs none s ++ s.reprints.map (·.seq) := hseqs ▸ hn
      exact List.mem_cons_of_mem _ hn'
    · have hlen : (applyEntry (.reopen x.seq reason) s).reprints.length = s.reprints.length := updateEntry_length ..
      rw [hlen]
      exact le_trans (Nat.le_add_right _ _) hfree

theorem Sequenced.ledger (h : Sequenced i s) (m : LedgerMove i s i' t) (hlast : t.queue.last = s.queue.last) : Sequenced i' t := by
  cases m with
  | kept hr he _ hq hp hw =>
    have hrep : reprintSeqs i' t = reprintSeqs i s := by rw [reprintSeqs, reprintSeqs, hq, hr]
    refine ⟨by rw [hr]; exact h.rising, ?_, ?_, by have := h.free; rw [he]; omega⟩
    · intro n hn
      rw [he, List.mem_append, hp.mem_iff, ← List.mem_append] at hn
      rw [hlast]
      exact h.known n hn
    · rw [he, hrep]
      exact h.entries.perm hp (.refl _)
  | head x w hx hw hi hi' ht =>
    subst hi hi' ht
    refine ⟨h.rising.sublist (((List.tail_sublist _).filter _).map _), ?_, ?_, ?_⟩
    · rw [lineSeqs_head hx]
      exact h.known
    · rw [lineSeqs_head hx, reprintSeqs_head hx]
      exact h.entries
    · have hf := h.free
      have e : heldWeight none = 0 := rfl
      have e' : heldWeight (some ⟨x.seq, w, x.reprint⟩) = w := rfl
      rw [e] at hf
      rw [e']
      show s.reprints.length + inFlightCount s + w ≤ 256
      obtain hw | ⟨hw, _, hlt⟩ := hw
      · omega
      · have : reprintFree s = 256 - s.reprints.length := rfl
        omega
  | dispose x k e hx hi hi' ht =>
    subst hi hi' ht
    refine applyEntry_sequenced hx ?_
    exact ⟨h.rising, h.known, h.entries, h.free⟩
  | release seq hi hi' ht =>
    subst hi hi' ht
    have hsub : ∀ k ∈ reprintSeqs none s, k ∈ lineSeqs none s := fun k => reprintSeqs_onLine
    obtain ⟨hnew, hlen⟩ := Entries.release (line := lineSeqs none s) (rep := reprintSeqs none s) h.entries hsub
    refine ⟨h.rising, fun n hn => h.known n ?_, hnew, ?_⟩
    · have hn' : n ∈ lineSeqs (some ⟨seq, 0, true⟩) s ++ (s.reprints.eraseP (ReprintEntry.isQueued seq)).map (·.seq) := hn
      rw [List.mem_append] at hn' ⊢
      exact hn'.imp id fun hm => (List.eraseP_sublist.map _).subset hm
    · have hf : s.reprints.length + inFlightCount s + 0 ≤ 256 := h.free
      have hlen' : (s.reprints.eraseP (ReprintEntry.isQueued seq)).length + 1 = s.reprints.length := hlen
      show (s.reprints.eraseP (ReprintEntry.isQueued seq)).length + inFlightCount s + 1 ≤ 256
      omega

theorem Sequenced.move (h : Sequenced i s) (m : Move i d s i' d' t) : Sequenced i' t :=
  h.ledger m.ledger (m.keeps .last (by decide))

theorem Sequenced.moves (h : Sequenced i s) (m : Moves i d s i' d' t) : Sequenced i' t :=
  m.induct (P := fun i _ s => Sequenced i s) (fun m h => h.move m) h

end

end Sys2Proof.Machine
end

section
/-! What every move keeps of the counts of the pieces on the track (R102, R107). -/

namespace Sys2Proof.Machine

theorem pageUseAt_putPageUse_lt (p q n : Nat) (s : State) (h : q < 32) :
    pageUseAt q (putPageUse p n s) = if q = p then n else pageUseAt q s := by
  by_cases hp : p < 32
  · exact pageUseAt_putPageUse p q n s hp
  · rw [if_neg (by omega)]
    unfold pageUseAt putPageUse
    rw [State.setSort_sort, Vector.getElem?_setIfInBounds_ne (by omega)]

theorem groupAt_putGroup_lt (g k : Nat) (x : Group) (s : State) (h : k < 16) :
    groupAt k (putGroup g x s) = if k = g then x else groupAt k s := by
  by_cases hg : g < 16
  · exact groupAt_putGroup g k x s hg
  · rw [if_neg (by omega)]
    unfold groupAt putGroup
    rw [State.setSort_sort, Vector.getElem?_setIfInBounds_ne (by omega)]

/-- A mark counts for a page. -/
def onPage (p : Nat) (m : Nat × SchemeMatch) : Bool := m.2.entry.map pageOf == some p

/-- A mark counts for a group. -/
def onGroup (g : Nat) (m : Nat × SchemeMatch) : Bool := m.2.group == g

theorem piecesOfPage_eq (p : Nat) (s : State) : piecesOfPage p s = (trackMarks s).countP (onPage p) := by
  unfold piecesOfPage trackMarks
  rw [List.countP_filterMap]
  congr 1
  funext x
  cases x <;> rfl

theorem piecesOfGroup_eq (g : Nat) (s : State) : piecesOfGroup g s = (trackMarks s).countP (onGroup g) := by
  unfold piecesOfGroup trackMarks
  rw [List.countP_filterMap]
  congr 1
  funext x
  cases x <;> rfl

theorem matchCounts_iff {s : State} : MatchCountsExact s ↔
    (∀ p < 32, pageUseAt p s = (trackMarks s).countP (onPage p)) ∧
    (∀ g < 16, (groupAt g s).refs = (trackMarks s).countP (onGroup g)) := by
  simp only [MatchCountsExact, piecesOfPage_eq, piecesOfGroup_eq]

theorem pageUseAt_raiseMatchCounts (m : SchemeMatch) (n : Nat) {p : Nat} (hp : p < 32) (s : State) :
    pageUseAt p (raiseMatchCounts m s) = pageUseAt p s + if onPage p (n, m) then 1 else 0 := by
  have hput (g : Nat) (x : Group) (u : State) : pageUseAt p (putGroup g x u) = pageUseAt p u := rfl
  unfold raiseMatchCounts
  dsimp only
  rw [hput, onPage]
  cases m.entry with
  | none => rfl
  | some i =>
    dsimp only
    rw [pageUseAt_putPageUse_lt _ _ _ _ hp]
    simp only [Option.map_some, beq_iff_eq, Option.some.injEq, eq_comm (a := p)]
    split <;> simp_all

theorem pageUseAt_lowerMatchCounts (m : SchemeMatch) (n : Nat) {p : Nat} (hp : p < 32) (s : State) :
    pageUseAt p (lowerMatchCounts m s) = pageUseAt p s - if onPage p (n, m) then 1 else 0 := by
  have hput (g : Nat) (x : Group) (u : State) : pageUseAt p (putGroup g x u) = pageUseAt p u := rfl
  unfold lowerMatchCounts
  dsimp only
  rw [hput, onPage]
  cases m.entry with
  | none => rfl
  | some i =>
    dsimp only
    rw [pageUseAt_putPageUse_lt _ _ _ _ hp]
    simp only [Option.map_some, beq_iff_eq, Option.some.injEq, eq_comm (a := p)]
    split <;> simp_all

theorem refs_raiseMatchCounts (m : SchemeMatch) (n : Nat) {g : Nat} (hg : g < 16) (s : State) :
    (groupAt g (raiseMatchCounts m s)).refs = (groupAt g s).refs + if onGroup g (n, m) then 1 else 0 := by
  have hput (u : State) (hu : ∀ k, groupAt k u = groupAt k s) :
      (groupAt g (putGroup m.group { groupAt m.group u with refs := (groupAt m.group u).refs + 1 } u)).refs =
        (groupAt g s).refs + if onGroup g (n, m) then 1 else 0 := by
    rw [groupAt_putGroup_lt _ _ _ _ hg, onGroup]
    simp only [beq_iff_eq, hu, eq_comm (a := g)]
    split <;> simp_all
  unfold raiseMatchCounts
  cases m.entry with
  | none => exact hput s fun _ => rfl
  | some i => exact hput _ fun _ => rfl

theorem refs_lowerMatchCounts (m : SchemeMatch) (n : Nat) {g : Nat} (hg : g < 16) (s : State) :
    (groupAt g (lowerMatchCounts m s)).refs = (groupAt g s).refs - if onGroup g (n, m) then 1 else 0 := by
  have hput (u : State) (hu : ∀ k, groupAt k u = groupAt k s) :
      (groupAt g (putGroup m.group { groupAt m.group u with refs := (groupAt m.group u).refs - 1 } u)).refs =
        (groupAt g s).refs - if onGroup g (n, m) then 1 else 0 := by
    rw [groupAt_putGroup_lt _ _ _ _ hg, onGroup]
    simp only [beq_iff_eq, hu, eq_comm (a := g)]
    split <;> simp_all
  unfold lowerMatchCounts
  cases m.entry with
  | none => exact hput s fun _ => rfl
  | some i => exact hput _ fun _ => rfl

theorem matchCounts_of_same {s t : State} (h : MatchCountsExact s) (hp : t.sort.pageUse = s.sort.pageUse)
    (hg : ∀ g < 16, (groupAt g t).refs = (groupAt g s).refs) (hm : trackMarks t = trackMarks s) : MatchCountsExact t := by
  obtain ⟨h1, h2⟩ := matchCounts_iff.mp h
  refine matchCounts_iff.mpr ⟨fun p hlt => ?_, fun g hlt => ?_⟩
  · rw [pageUseAt, hp, hm]
    exact h1 p hlt
  · rw [hg g hlt, hm]
    exact h2 g hlt

theorem matchCounts_of_keeps {l : List Part} {s t : State} (h : MatchCountsExact s) (hk : KeepsAllBut l s t)
    (hl : ∀ p ∈ ([.slots, .pageUse, .groups] : List Part), p ∉ l) : MatchCountsExact t := by
  refine matchCounts_of_same h (hk .pageUse (hl _ (by decide))) (fun g _ => ?_) ?_
  · unfold groupAt
    rw [(hk .groups (hl _ (by decide)) : t.sort.groups = _)]
  · unfold trackMarks
    rw [(hk .slots (hl _ (by decide)) : t.track.slots = _)]

theorem leave_matchCounts {n : Nat} {p : Piece} {s : State} (hp : pieceAt n s = some p) (h : MatchCountsExact s) :
    MatchCountsExact (lowerMatchCounts p.scheme (putSlot n none s)) := by
  have hperm := trackMarks_leave hp
  have hm : trackMarks (lowerMatchCounts p.scheme (putSlot n none s)) = trackMarks (putSlot n none s) := by
    rw [trackMarks, lowerMatchCounts_slots, trackMarks]
  obtain ⟨h1, h2⟩ := matchCounts_iff.mp h
  refine matchCounts_iff.mpr ⟨fun k hlt => ?_, fun g hlt => ?_⟩
  · have := h1 k hlt
    rw [hperm.countP_eq, List.countP_cons] at this
    rw [pageUseAt_lowerMatchCounts _ p.job.seq hlt, hm]
    show pageUseAt k s - (if onPage k p.mark then 1 else 0) = _
    omega
  · have := h2 g hlt
    rw [hperm.countP_eq, List.countP_cons] at this
    rw [refs_lowerMatchCounts _ p.job.seq hlt, hm]
    show (groupAt g s).refs - (if onGroup g p.mark then 1 else 0) = _
    omega

theorem enter_matchCounts {p : Piece} {s : State} (hs : s.track.slots[0]? = some none) (h : MatchCountsExact s) :
    MatchCountsExact (raiseMatchCounts p.scheme (s.setTrack { s.track with slots := s.track.slots.set 0 (some p) })) := by
  have hperm := trackMarks_enter (p := p) hs
  have hm (u : State) : trackMarks (raiseMatchCounts p.scheme u) = trackMarks u := by
    rw [trackMarks, raiseMatchCounts_slots, trackMarks]
  obtain ⟨h1, h2⟩ := matchCounts_iff.mp h
  refine matchCounts_iff.mpr ⟨fun k hlt => ?_, fun g hlt => ?_⟩
  · rw [pageUseAt_raiseMatchCounts _ p.job.seq hlt, hm, hperm.countP_eq, List.countP_cons, ← h1 k hlt]
    rfl
  · rw [refs_raiseMatchCounts _ p.job.seq hlt, hm, hperm.countP_eq, List.countP_cons, ← h2 g hlt]
    rfl

section
variable {i i' : Option Item} {d d' : Bool} {s t : State}

theorem Move.matchCounts (m : Move i d s i' d' t) (h : MatchCountsExact s) : MatchCountsExact t := by
  cases m with
  | leave hp => exact leave_matchCounts hp h
  | enter hs => exact enter_matchCounts hs h
  | quiet hq => exact matchCounts_of_keeps h hq.keeps (by decide)
  | slots hk hm =>
    refine matchCounts_of_same h (hk .pageUse (by decide)) (fun g _ => ?_) hm
    unfold groupAt
    rw [(hk .groups (by decide) : t.sort.groups = _)]
  | dispose => rw [applyEntry_eq]; exact matchCounts_of_same h rfl (fun _ _ => rfl) rfl
  | _ => exact matchCounts_of_same h rfl (fun _ _ => rfl) rfl

theorem Moves.matchCounts (m : Moves i d s i' d' t) (h : MatchCountsExact s) : MatchCountsExact t :=
  m.induct (P := fun _ _ s => MatchCountsExact s) (fun m h => m.matchCounts h) h

end

end Sys2Proof.Machine
end

section
/-! What the clearing operations empty: the queue, the pockets, the slots and the in-flight lists (R12, R40, R69, R121). -/

namespace Sys2Proof.Machine

theorem records_unfedRecords : ∀ (l : List JobRecord) (s : State), s.queue.records = l →
    (l.foldl (fun s x => unfedRecord x s) s).queue.records = []
  | [], _, hs => hs
  | x :: l, s, hs => records_unfedRecords l (unfedRecord x s) (by rw [unfedRecord_records, hs, List.tail_cons])

theorem records_unfedAll (s : State) : (unfedAll s).queue.records = [] :=
  ((evalPermit_keeps (List.Subset.refl permitParts) (.start _ _)).records_eq (by decide)).trans
    (records_unfedRecords _ s rfl)

theorem disposeCollation_collation (k : Disposition) (c : Collation) (s : State) :
    (disposeCollation k c s).collation = s.collation := by
  have h := disposeCollation_keeps (List.Subset.refl disposeParts) (.start _ s) k c
  have e1 : _ = s.collation.collecting := h .collecting (by decide)
  have e2 : _ = s.collation.staging := h .staging (by decide)
  have e3 : _ = s.collation.strays := h .strays (by decide)
  have e4 : _ = s.collation.sheetLimit := h .sheetLimit (by decide)
  have e5 : _ = s.collation.strayLimit := h .strayLimit (by decide)
  cases hc : (disposeCollation k c s).collation
  cases hs : s.collation
  simp_all

theorem disposeStaging_collation (k : Disposition) (s : State) :
    (disposeStaging k s).collation = { s.collation with staging := none } := by
  unfold disposeStaging
  split
  · rw [disposeCollation_collation]
    rfl
  next h =>
    rw [← h]

theorem disposeCollecting_collation (k : Disposition) (s : State) :
    (disposeCollecting k s).collation = { s.collation with collecting := .empty } := by
  unfold disposeCollecting
  split
  · rw [disposeCollation_collation]
    rfl
  · rw [disposeCollation_collation]
    rfl
  next h =>
    rw [← h]

theorem lowerMatchCounts_track (m : SchemeMatch) (s : State) : (lowerMatchCounts m s).track = s.track :=
  lowerMatchCounts_slots m s

theorem pieceAt_removePiece (d : Disposition) (n k : Nat) (s : State) :
    pieceAt k (removePiece d n s) = if k = n then none else pieceAt k s := by
  unfold removePiece
  split
  next p hp =>
    have hn : n < s.track.slots.length := by
      rw [pieceAt_eq_some] at hp
      exact (List.getElem?_eq_some_iff.mp hp).1
    have e : (disposePiece d none p (lowerMatchCounts p.scheme (putSlot n none s))).track.slots = (putSlot n none s).track.slots := by
      refine Eq.trans (disposePiece_keeps (List.Subset.refl disposeParts) (.start _ _) d none p .slots (by decide)) ?_
      rw [lowerMatchCounts_track]
    have e' : pieceAt k (disposePiece d none p (lowerMatchCounts p.scheme (putSlot n none s))) = pieceAt k (putSlot n none s) := by
      unfold pieceAt
      rw [e]
    rw [e', pieceAt_putSlot _ _ _ _ hn]
  next hp =>
    split
    next h => rw [h, hp]
    · rfl

theorem slotsLength_removePiece (d : Disposition) (n : Nat) (s : State) :
    (removePiece d n s).track.slots.length = s.track.slots.length := by
  unfold removePiece
  split
  next p hp =>
    have e : (disposePiece d none p (lowerMatchCounts p.scheme (putSlot n none s))).track.slots = (putSlot n none s).track.slots := by
      refine Eq.trans (disposePiece_keeps (List.Subset.refl disposeParts) (.start _ _) d none p .slots (by decide)) ?_
      rw [lowerMatchCounts_track]
    rw [e]
    exact List.length_set
  · rfl

theorem pieceAt_removePieces (d : Disposition) (xs : List Nat) (k : Nat) (s : State) :
    pieceAt k (xs.foldl (fun s n => removePiece d n s) s) = if k ∈ xs then none else pieceAt k s := by
  induction xs generalizing s with
  | nil => rfl
  | cons n xs ih =>
    rw [List.foldl_cons, ih, pieceAt_removePiece]
    simp only [List.mem_cons]
    split <;> split <;> simp_all

theorem slotsLength_removePieces (d : Disposition) (xs : List Nat) (s : State) :
    (xs.foldl (fun s n => removePiece d n s) s).track.slots.length = s.track.slots.length := by
  induction xs generalizing s with
  | nil => rfl
  | cons n xs ih => rw [List.foldl_cons, ih, slotsLength_removePiece]

theorem slots_eq_replicate {s : State} (h : ∀ k, pieceAt k s = none) : s.track.slots = List.replicate s.track.slots.length none := by
  refine List.eq_replicate_iff.mpr ⟨rfl, fun x hx => ?_⟩
  obtain ⟨k, hk, rfl⟩ := List.mem_iff_getElem.mp hx
  have := h k
  unfold pieceAt at this
  rw [List.getElem?_eq_getElem hk] at this
  cases hv : s.track.slots[k] with
  | none => rfl
  | some p => rw [hv] at this; exact absurd this (by simp)

theorem slots_abortTrack (s : State) : (abortTrack s).track.slots = List.replicate s.track.slots.length none := by
  have hlen := slotsLength_removePieces .aborted (List.range s.track.slots.length).reverse s
  rw [← hlen]
  refine slots_eq_replicate (s := abortTrack s) fun k => ?_
  unfold abortTrack
  rw [pieceAt_removePieces]
  split
  · rfl
  next h =>
    rw [List.mem_reverse, List.mem_range, not_lt] at h
    unfold pieceAt
    rw [List.getElem?_eq_none h]
    rfl

/-- A bin after an ABORT: its flights are LOST and its bundle closed (R121). -/
def Bin.aborted (x : Bin) : Bin :=
  { x.bundleClosed with flights := [], committed := x.committed - x.flights.length }

theorem binAt_loseFlights {b : Nat} (hb : b < 32) : ∀ (l : List Flight) (s : State), (binAt b s).flights = l → ∀ k,
    binAt k (l.foldl (fun s f => disposeFlight .lost b none f (dropFlight b f s)) s) =
      if k = b then { binAt b s with flights := [], committed := (binAt b s).committed - l.length } else binAt k s
  | [], s, hl, k => by
    rw [List.foldl_nil]
    split
    next h =>
      subst h
      cases hx : binAt k s
      rw [hx] at hl
      cases hl
      rfl
    · rfl
  | f :: l, s, hl, k => by
    have hf : (binAt b (disposeFlight .lost b none f (dropFlight b f s))).flights = l := by
      rw [binAt_loseFlight hb, if_pos rfl, hl]
      exact List.erase_cons_head ..
    rw [List.foldl_cons, binAt_loseFlights hb l _ hf k]
    simp only [binAt_loseFlight hb, if_true]
    split
    · rw [List.length_cons, Nat.sub_sub, Nat.add_comm 1]
    · rfl

theorem binAt_abortBin {b : Nat} (hb : b < 32) (s : State) (k : Nat) :
    binAt k (abortBin b s) = if k = b then (binAt b s).aborted else binAt k s := by
  unfold abortBin
  rw [binAt_closeBundle hb (by decide)]
  simp only [binAt_loseFlights hb _ s rfl, if_true]
  split <;> rfl

theorem binAt_abortBinList (xs : List Nat) (hlt : ∀ b ∈ xs, b < 32) (hnodup : xs.Nodup) (s : State) (k : Nat) :
    binAt k (xs.foldl (fun s b => abortBin b s) s) = if k ∈ xs then (binAt k s).aborted else binAt k s := by
  induction xs generalizing s with
  | nil => rfl
  | cons b xs ih =>
    obtain ⟨hb, hlt⟩ := List.forall_mem_cons.mp hlt
    obtain ⟨hnot, hnodup⟩ := List.nodup_cons.mp hnodup
    rw [List.foldl_cons, ih hlt hnodup, binAt_abortBin hb]
    by_cases hk : k = b
    · subst hk
      rw [if_neg hnot, if_pos rfl, if_pos (List.mem_cons_self ..)]
    · simp only [hk, if_false, List.mem_cons, false_or]

theorem binAt_abortBins (s : State) (k : Nat) : binAt k (abortBins s) = (binAt k s).aborted := by
  unfold abortBins
  rw [binAt_abortBinList _ (fun b => List.mem_range.mp) List.nodup_range]
  split
  · rfl
  next h =>
    rw [List.mem_range, not_lt] at h
    have e : binAt k s = Bin.powerOn := by
      unfold binAt
      rw [Vector.getElem?_eq_none h]
      rfl
    rw [e]
    rfl

theorem flightSeqs_eq_nil {s : State} (h : ∀ k < 32, (binAt k s).flights = []) : flightSeqs s = [] := by
  rw [flightSeqs, List.flatMap_eq_nil_iff]
  intro x hx
  obtain ⟨k, hk, rfl⟩ := List.mem_iff_getElem.mp hx
  have hk' : k < 32 := by rwa [Vector.length_toList] at hk
  have := h k hk'
  unfold binAt at this
  rw [Vector.getElem?_eq_getElem hk'] at this
  rw [Vector.getElem_toList]
  exact List.map_eq_nil_iff.mpr this

theorem trackMarks_replicate {s : State} {n : Nat} (h : s.track.slots = List.replicate n none) : trackMarks s = [] := by
  rw [trackMarks, h, List.filterMap_replicate_of_none rfl]

theorem lineSeqs_eq_nil {s : State} {n : Nat} (hr : s.queue.records = []) (hc : s.collation.collecting = .empty)
    (hst : s.collation.staging = none) (hs : s.track.slots = List.replicate n none) (hf : ∀ k < 32, (binAt k s).flights = []) :
    lineSeqs none s = [] := by
  rw [lineSeqs, sequencesHeld_eq, queueSeqs, hr, pocketSeqs, hc, hst, trackSeqs, trackMarks_replicate hs, flightSeqs_eq_nil hf]
  rfl

/-- The pockets and the queue given up (R153). -/
def abortPockets (s : State) : State := disposeCollecting .aborted (disposeStaging .aborted (unfedAll s))

theorem abortWork_eq (s : State) : abortWork s = abortBins (abortTrack (abortPockets s)) := rfl

theorem abortPockets_collation (s : State) :
    (abortPockets s).collation = { (unfedAll s).collation with collecting := .empty, staging := none } := by
  unfold abortPockets
  rw [disposeCollecting_collation, disposeStaging_collation]

theorem abortPockets_records (s : State) : (abortPockets s).queue.records = [] := by
  unfold abortPockets
  rw [(disposeCollecting_keeps (l := .collecting :: disposeParts) (by decide) (.start _ _) _).records_eq (by decide),
    (disposeStaging_keeps (l := .staging :: disposeParts) (by decide) (.start _ _) _).records_eq (by decide), records_unfedAll]

theorem abortBins_track (s : State) : (abortBins s).track.slots = s.track.slots :=
  abortBins_keeps (l := .bins :: disposeParts) (by decide) (.start _ s) .slots (by decide)

theorem abortWork_empty (s : State) : lineSeqs none (abortWork s) = [] := by
  have ht : KeepsAllBut (disposeParts ++ ([.slots, .pageUse, .groups, .bins] : List Part)) (abortPockets s) (abortWork s) := by
    rw [abortWork_eq]
    exact abortBins_keeps (by decide) (abortTrack_keeps (by decide) (.start _ _))
  refine lineSeqs_eq_nil (n := (abortPockets s).track.slots.length) ?_ ?_ ?_ ?_ fun k _ => ?_
  · rw [ht.records_eq (by decide), abortPockets_records]
  · rw [(ht .collecting (by decide) : (abortWork s).collation.collecting = _), abortPockets_collation]
  · rw [(ht .staging (by decide) : (abortWork s).collation.staging = _), abortPockets_collation]
  · rw [abortWork_eq, abortBins_track, slots_abortTrack]
  · rw [abortWork_eq, binAt_abortBins]
    rfl

end Sys2Proof.Machine
end

section
/-! The requests keep a run's bookkeeping (R7, R18, R131, R134, R151, R153, R155). -/

namespace Sys2Proof.Machine

/-! ### The bookkeeping -/

theorem trackMarks_of_keeps {l : List Part} {s t : State} (h : KeepsAllBut l s t) (hl : Part.slots ∉ l) :
    trackMarks t = trackMarks s := by
  unfold trackMarks
  rw [(h .slots hl : t.track.slots = _)]

theorem lineSeqs_of_keeps {l : List Part} {s t : State} (h : KeepsAllBut l s t)
    (hl : ∀ p ∈ ([.records, .collecting, .staging, .slots, .bins] : List Part), p ∉ l) (i : Option Item) :
    lineSeqs i t = lineSeqs i s := by
  unfold lineSeqs sequencesHeld
  rw [(h .records (hl _ (by decide)) : t.queue.records = _), (h .collecting (hl _ (by decide)) : t.collation.collecting = _),
    (h .staging (hl _ (by decide)) : t.collation.staging = _), (h .slots (hl _ (by decide)) : t.track.slots = _),
    (h .bins (hl _ (by decide)) : t.sort.bins = _)]

/-- The run state changes within an open run, and nothing that the bookkeeping counts does. -/
theorem Accounted.of_state {l : List Part} {i : Option Item} {s t : State} (h : Accounted i s) (hk : KeepsAllBut l s t)
    (hl : ∀ p ∈ ([.ending, .locked, .counters, .records, .collecting, .staging, .slots, .bins] : List Part), p ∉ l)
    (hs : s.line.state ≠ .idle) (hne : t.line.state ≠ .idle) (hcl : t.line.state ≠ .closed)
    (hdr : t.line.state = .draining → s.line.ending = true)
    (hen : s.line.ending = true → t.line.state = .draining ∨ t.line.state = .paused ∨ t.line.state = .jammed ∨ t.line.state = .closed) :
    Accounted i t := by
  have e1 : t.line.ending = s.line.ending := hk .ending (hl _ (by decide))
  have e2 : t.line.locked = s.line.locked := hk .locked (hl _ (by decide))
  have e3 : t.line.counters = s.line.counters := hk .counters (hl _ (by decide))
  have e4 : t.queue.records = s.queue.records := hk .records (hl _ (by decide))
  have e5 : lineSeqs i t = lineSeqs i s := lineSeqs_of_keeps hk (fun p hp => hl p (by
    simp only [List.mem_cons, List.not_mem_nil] at hp ⊢; tauto)) i
  refine ⟨⟨?_, ?_, ?_, ?_, ?_, ?_⟩, ?_⟩
  · rw [e2]
    exact ⟨fun _ => hne, fun _ => h.locked.mpr hs⟩
  · rw [e1]; exact hdr
  · rw [e1, e4]; exact h.noQueue
  · exact fun k => absurd k (not_or.mpr ⟨hne, hcl⟩)
  · rw [e3]; exact h.range
  · rw [e5, dispositions, e3]; exact fun _ => h.balanced hs
  · rw [e1]; exact hen

/-- Nothing that the bookkeeping counts or names changes. -/
theorem Accounted.of_keeps {l : List Part} {i : Option Item} {s t : State} (h : Accounted i s) (hk : KeepsAllBut l s t)
    (hl : ∀ p ∈ ([.runState, .ending, .locked, .counters, .records, .collecting, .staging, .slots, .bins] : List Part), p ∉ l) :
    Accounted i t := by
  have e0 : t.line.state = s.line.state := hk .runState (hl _ (by decide))
  have e1 : t.line.ending = s.line.ending := hk .ending (hl _ (by decide))
  have e2 : t.line.locked = s.line.locked := hk .locked (hl _ (by decide))
  have e3 : t.line.counters = s.line.counters := hk .counters (hl _ (by decide))
  have e4 : t.queue.records = s.queue.records := hk .records (hl _ (by decide))
  have e5 : lineSeqs i t = lineSeqs i s := lineSeqs_of_keeps hk (fun p hp => hl p (by
    simp only [List.mem_cons, List.not_mem_nil] at hp ⊢; tauto)) i
  refine ⟨⟨?_, ?_, ?_, ?_, ?_, ?_⟩, ?_⟩
  · rw [e2, e0]; exact h.locked
  · rw [e1, e0]; exact h.draining
  · rw [e1, e4]; exact h.noQueue
  · rw [e0, e5]; exact h.empty
  · rw [e3]; exact h.range
  · rw [e0, e5, dispositions, e3]; exact h.balanced
  · rw [e1, e0]; exact h.ending

/-- A chain of moves keeps the balance, whatever the run state. -/
theorem Moves.balanced {i i' : Option Item} {d d' : Bool} {s t : State} (m : Moves i d s i' d' t)
    (hr : s.line.counters.accepted ≤ Config.counterLimit)
    (h : s.line.counters.accepted = (lineSeqs i s).length + dispositions s) :
    t.line.counters.accepted ≤ Config.counterLimit ∧
      t.line.counters.accepted = (lineSeqs i' t).length + dispositions t := by
  refine m.induct (P := fun i _ u => u.line.counters.accepted ≤ Config.counterLimit ∧
    u.line.counters.accepted = (lineSeqs i u).length + dispositions u) (fun m h => ?_) ⟨hr, h⟩
  exact ⟨m.ledger.accepted ▸ h.1, m.ledger.balanced h.1 h.2⟩

/-- A freed part: nothing on the line, and the counters 0. -/
theorem Accounted.of_idle {s : State} (hs : s.line.state = .idle) (hl : s.line.locked = false) (he : s.line.ending = false)
    (hc : s.line.counters = Counters.zero) (hline : lineSeqs none s = []) : Accounted none s := by
  refine ⟨⟨?_, ?_, ?_, fun _ => hline, ?_, fun h => absurd hs h⟩, ?_⟩
  · rw [hl, hs]; decide
  · rw [hs]; exact fun k => absurd k (by decide)
  · rw [he]; exact fun k => absurd k (by decide)
  · rw [hc]; decide
  · rw [he]; exact fun k => absurd k (by decide)

/-! ### Opening, running and ending a run -/

/-- The run opened, before its record is asked for (R18). -/
def openedRun (id : Word) (s : State) : State :=
  clearTrack (emptyRings (clearPockets ((s.setLine { s.line with runId := id, locked := true, counters := Counters.zero }).setQueue
    { s.queue with last := none })))

theorem openRun_eq (id : Word) (s : State) : openRun id s = writeLog (.run .open id none) (enterState .ready none (openedRun id s)) :=
  rfl

theorem openedRun_keeps (id : Word) (s : State) : KeepsAllBut
    [.runId, .locked, .counters, .last, .collecting, .staging, .strays, .stocks, .slots, .position, .boundary, .pitch,
      .encoderErrors, .stations, .nextSerial, .jamSlot] s (openedRun id s) := by
  refine clearTrack_keeps (by decide) (emptyRings_keeps (by decide) (clearPockets_keeps (by decide) ?_))
  intro p hp
  cases p <;> first | rfl | exact absurd (by decide) hp

theorem openRun_keeps' (id : Word) (s : State) : KeepsAllBut (stateParts ++ writeParts) (openedRun id s) (openRun id s) := by
  rw [openRun_eq]
  exact writeLog_keeps (by decide) (enterState_keeps (by decide) (.start _ _) _ _) _

theorem openRun_state (id : Word) (s : State) : (openRun id s).line.state = .ready := by
  rw [openRun_eq, (writeLog_keeps (List.Subset.refl writeParts) (.start _ _) _).state_eq (by decide)]
  exact (enterState_line _ _ _).1

theorem lineSeqs_parts {s : State} (h : lineSeqs none s = []) :
    s.queue.records = [] ∧ trackMarks s = [] ∧ flightSeqs s = [] := by
  rw [lineSeqs, sequencesHeld_eq] at h
  simp only [heldSeqs, Option.map_none, Option.toList_none, List.nil_append, List.append_eq_nil_iff, List.map_eq_nil_iff] at h
  obtain ⟨⟨⟨hq, -⟩, ht⟩, hf⟩ := h
  exact ⟨hq, ht, hf⟩

theorem openedRun_lineSeqs {id : Word} {s : State} (h : lineSeqs none s = []) : lineSeqs none (openedRun id s) = [] := by
  obtain ⟨hq, -, hf⟩ := lineSeqs_parts h
  have hk := openedRun_keeps id s
  have hf' : flightSeqs (openedRun id s) = [] := by
    rw [flightSeqs, hk.bins_eq (by decide)]
    exact hf
  have hslots : (openedRun id s).track.slots = List.replicate s.track.length none := rfl
  rw [lineSeqs, sequencesHeld_eq, queueSeqs, hk.records_eq (by decide), hq, hf', trackSeqs, trackMarks_replicate hslots]
  rfl

theorem openRun_accounted {id : Word} {s : State} (hs : s.line.state = .idle) (h : Accounted none s) : Accounted none (openRun id s) := by
  have hk := openRun_keeps' id s
  have hline : lineSeqs none (openRun id s) = [] :=
    (lineSeqs_of_keeps hk (by decide) none).trans (openedRun_lineSeqs (h.empty (.inl hs)))
  have hst := openRun_state id s
  have he : (openRun id s).line.ending = false := by
    rw [hk.ending_eq (by decide), (openedRun_keeps id s).ending_eq (by decide)]
    cases hen : s.line.ending with
    | false => rfl
    | true =>
      have := h.ending hen
      rw [hs] at this
      exact absurd this (by decide)
  have hc : (openRun id s).line.counters = Counters.zero := hk.counters_eq (by decide)
  have hl : (openRun id s).line.locked = true := hk .locked (by decide)
  refine ⟨⟨?_, ?_, ?_, ?_, ?_, ?_⟩, ?_⟩
  · rw [hl, hst]; decide
  · rw [hst]; exact fun k => absurd k (by decide)
  · rw [he]; exact fun k => absurd k (by decide)
  · exact fun _ => hline
  · rw [hc]; decide
  · rw [hline, dispositions, hc]; exact fun _ => rfl
  · rw [he]; exact fun k => absurd k (by decide)

theorem enterState_accounted {x : RunState} {reason : Option StopReason} {s : State} (h : Accounted none s)
    (hs : s.line.state ≠ .idle) (hx : x = .running ∧ s.line.ending = false ∨ x = .paused ∨ x = .draining ∧ s.line.ending = true) :
    Accounted none (enterState x reason s) := by
  have hk := enterState_keeps (List.Subset.refl stateParts) (.start _ s) x reason
  refine h.of_state hk (by decide) hs ?_ ?_ ?_ ?_ <;> rw [(enterState_line _ _ _).1] <;>
    obtain ⟨rfl, he⟩ | rfl | ⟨rfl, he⟩ := hx <;> simp_all

theorem startRun_accounted {s : State} (hs : s.line.state = .ready) (h : Accounted none s) : Accounted none (startRun s) := by
  have hk := writeLog_keeps (List.Subset.refl writeParts) (.start _ s) (.run .start s.line.runId none)
  have hst := hk.state_eq (by decide)
  refine enterState_accounted (h.of_keeps hk (by decide)) ?_ (.inl ⟨rfl, ?_⟩)
  · rw [hst, hs]; decide
  · rw [hk.ending_eq (by decide)]
    cases hen : s.line.ending with
    | false => rfl
    | true =>
      have := h.ending hen
      rw [hs] at this
      exact absurd this (by decide)

theorem resumeRun_accounted {s : State} (hs : s.line.state = .paused ∨ s.line.state = .jammed) (h : Accounted none s) :
    Accounted none (resumeRun s) := by
  have hne : s.line.state ≠ .idle := by
    obtain e | e := hs <;> rw [e] <;> decide
  unfold resumeRun
  split
  next he => exact (enterState_accounted h hne (.inr (.inr ⟨rfl, he⟩))).moves (drainCheck_moves (d := true) .start)
  next he => exact enterState_accounted h hne (.inl ⟨rfl, by simpa using he⟩)

/-- The queue given up with the ending flag set (R151). -/
def flushedQueue (s : State) : State := unfedAll (setEnding (writeLog (.run .flush s.line.runId none) s))

theorem flushIntake_eq (s : State) : flushIntake s =
    if (flushPocket (flushedQueue s)).line.state = .running then enterState .draining none (flushPocket (flushedQueue s))
    else flushPocket (flushedQueue s) := rfl

theorem flushedQueue_keeps (s : State) : KeepsAllBut (.ending :: .held :: .records :: disposeParts) s (flushedQueue s) :=
  unfedAll_keeps (by decide) (setEnding_keeps (by decide) (writeLog_keeps (by decide) (.start _ s) _))

theorem flushedQueue_ending (s : State) : (flushedQueue s).line.ending = true := by
  unfold flushedQueue
  rw [(unfedAll_keeps (l := .held :: .records :: disposeParts) (by decide) (.start _ _)).ending_eq (by decide)]
  exact setEnding_ending _

theorem ended_balanced {s t : State} (hr : s.line.counters.accepted ≤ Config.counterLimit)
    (h : s.line.counters.accepted = (lineSeqs none s).length + dispositions s) {l : List Part} (hk : KeepsAllBut l s t)
    (hl : ∀ p ∈ ([.counters, .records, .collecting, .staging, .slots, .bins] : List Part), p ∉ l) :
    t.line.counters.accepted ≤ Config.counterLimit ∧
      t.line.counters.accepted = (lineSeqs none t).length + dispositions t := by
  have e5 : lineSeqs none t = lineSeqs none s := lineSeqs_of_keeps hk (fun p hp => hl p (by
    simp only [List.mem_cons, List.not_mem_nil] at hp ⊢; tauto)) none
  rw [e5, dispositions, hk.counters_eq (hl _ (by decide))]
  exact ⟨hr, h⟩

theorem flushIntake_accounted {s : State} (hs : s.line.state = .running ∨ s.line.state = .paused) (h : Accounted none s) :
    Accounted none (flushIntake s) := by
  have hne : s.line.state ≠ .idle := by
    obtain e | e := hs <;> rw [e] <;> decide
  obtain ⟨hrange, hbalanced⟩ := ended_balanced h.range (h.balanced hne)
    (setEnding_keeps (l := .ending :: writeParts) (by decide)
      (writeLog_keeps (by decide) (.start _ s) (.run .flush s.line.runId none))) (by decide)
  have mq : Moves none true (setEnding (writeLog (.run .flush s.line.runId none) s)) none true (flushedQueue s) :=
    unfedAll_moves .start
  obtain ⟨hrange, hbalanced⟩ := mq.balanced hrange hbalanced
  have hk := flushedQueue_keeps s
  have hst := hk.state_eq (by decide)
  have he := flushedQueue_ending s
  have hbooks : Books none (flushedQueue s) := by
    refine ⟨?_, fun _ => he, fun _ => records_unfedAll _, ?_, hrange, fun _ => hbalanced⟩
    · rw [hst, (hk .locked (by decide) : _ = s.line.locked)]
      exact h.locked
    · rw [hst]
      obtain e | e := hs <;> rw [e] <;> exact fun k => absurd k (by decide)
  have m : Moves none true (flushedQueue s) none true (flushPocket (flushedQueue s)) := flushPocket_moves .start
  have hbooks' := hbooks.moves m
  have he' : (flushPocket (flushedQueue s)).line.ending = true := (m.keeps.ending_eq (by decide)).trans he
  rw [flushIntake_eq]
  split
  next hrun =>
    have hk' := enterState_keeps (List.Subset.refl stateParts) (.start _ (flushPocket (flushedQueue s))) .draining none
    have hst' := (enterState_line .draining none (flushPocket (flushedQueue s))).1
    obtain ⟨hr', hb'⟩ := ended_balanced hbooks'.range (hbooks'.balanced (by rw [hrun]; decide)) hk' (by decide)
    refine ⟨⟨?_, ?_, ?_, ?_, hr', fun _ => hb'⟩, fun _ => .inl hst'⟩
    · rw [hst', (hk' .locked (by decide) : _ = (flushPocket (flushedQueue s)).line.locked)]
      exact ⟨fun _ => by decide, fun _ => hbooks'.locked.mpr (by rw [hrun]; decide)⟩
    · exact fun _ => (hk'.ending_eq (by decide)).trans he'
    · exact fun _ => (hk'.records_eq (by decide)).trans (hbooks'.noQueue he')
    · rw [hst']; exact fun k => absurd k (by decide)
  next hrun =>
    refine ⟨hbooks', fun _ => ?_⟩
    obtain e | ⟨_, e⟩ := m.state_cases
    · rw [e, hst]
      rw [e, hst] at hrun
      obtain hs | hs := hs
      · exact absurd hs hrun
      · exact .inr (.inl hs)
    · exact .inr e

theorem flushRun_accounted {s : State} (hs : s.line.state = .running ∨ s.line.state = .paused) (h : Accounted none s) :
    Accounted none (flushRun s) := by
  have hne : s.line.state ≠ .idle := by
    obtain e | e := hs <;> rw [e] <;> decide
  obtain ⟨hst, he⟩ := flushIntake_line hne
  rw [flushRun_eq]
  exact (flushIntake_accounted hs h).moves (flushCheck_moves (d := true) hst he)

theorem abortLine_ending (s : State) : (abortLine s).line.ending = true := setEnding_ending _

theorem abortClose_state (s : State) : (abortClose s).line.state = .closed := (enterState_line _ _ _).1

theorem abortRun_accounted {s : State} (hs : s.line.state ≠ .idle) (h : Accounted none s) : Accounted none (abortRun s) := by
  rw [abortRun_eq]
  have hk := abortLine_keeps s
  obtain ⟨hrange, hbalanced⟩ := ended_balanced h.range (h.balanced hs) hk (by decide)
  have m := abortWork_moves (d := true) (abortLine s)
  obtain ⟨hrange, hbalanced⟩ := m.balanced hrange hbalanced
  have hk' := abortClose_keeps (abortWork (abortLine s))
  obtain ⟨hrange, hbalanced⟩ := ended_balanced hrange hbalanced hk' (by decide)
  have hline : lineSeqs none (abortClose (abortWork (abortLine s))) = [] :=
    (lineSeqs_of_keeps hk' (by decide) none).trans (abortWork_empty _)
  have hst := abortClose_state (abortWork (abortLine s))
  have he : (abortClose (abortWork (abortLine s))).line.ending = true := by
    rw [hk'.ending_eq (by decide), m.keeps.ending_eq (by decide)]
    exact abortLine_ending s
  have hl : (abortClose (abortWork (abortLine s))).line.locked = s.line.locked := by
    rw [(hk' .locked (by decide) : _ = (abortWork (abortLine s)).line.locked),
      (m.keeps .locked (by decide) : _ = (abortLine s).line.locked)]
    exact hk .locked (by decide)
  refine ⟨⟨?_, ?_, fun _ => (lineSeqs_parts hline).1, fun _ => hline, hrange, fun _ => hbalanced⟩,
    fun _ => .inr (.inr (.inr hst))⟩
  · rw [hl, hst]
    exact ⟨fun _ => by decide, fun _ => h.locked.mpr hs⟩
  · exact fun _ => he

/-- The run freed, before the state is left (R154). -/
def freedRun (s : State) : State :=
  let t := (releaseHeader s).setReprints []
  t.setQueue { t.queue with last := none }

theorem closeRun_eq (s : State) : closeRun s = enterState .idle none (freedRun s) := rfl

theorem freedRun_keeps (s : State) : KeepsAllBut [.runId, .locked, .counters, .ending, .reprints, .last] s (freedRun s) := by
  intro p hp
  cases p <;> first | rfl | exact absurd (by decide) hp

theorem closeRun_accounted {s : State} (hs : s.line.state = .closed) (h : Accounted none s) : Accounted none (closeRun s) := by
  rw [closeRun_eq]
  have hk := enterState_keeps (List.Subset.refl stateParts) (.start _ (freedRun s)) .idle none
  refine .of_idle (enterState_line _ _ _).1 ?_ ?_ ?_ ?_
  · exact (hk .locked (by decide)).trans rfl
  · exact (hk .ending (by decide)).trans rfl
  · exact (hk .counters (by decide)).trans rfl
  · rw [lineSeqs_of_keeps hk (by decide), lineSeqs_of_keeps (freedRun_keeps s) (by decide)]
    exact h.empty (.inr hs)

/-- The line reset, before the state is left (R155). -/
theorem resetLine_keeps' (s : State) : KeepsAllBut stateParts (releaseHeader (resetTables s)) (Machine.resetLine s) := by
  rw [resetLine_eq]
  exact enterState_keeps (by decide) (.start _ _) _ _

theorem resetQueue_records (s : State) : (resetQueue s).queue.records = [] := by
  unfold resetQueue
  dsimp only
  split
  · exact ((releaseFlow_keeps (l := [.own, .held]) (by decide) (.start _ _)).records_eq (by decide)).trans rfl
  · rfl

/-- The tables reset on a line whose queue and pockets are empty (R155). -/
theorem clearedTables_lineSeqs {s : State} (hr : s.queue.records = []) (hc : s.collation.collecting = .empty)
    (hst : s.collation.staging = none) :
    lineSeqs none ((emptyRings (resetSort (clearTrack s))).setReprints []) = [] := by
  refine lineSeqs_eq_nil (n := s.track.length) hr hc hst rfl fun k _ => ?_
  have e : binAt k ((emptyRings (resetSort (clearTrack s))).setReprints []) = binAt k (resetSort (clearTrack s)) := rfl
  rw [e, binAt_resetSort]
  rfl

theorem resetTables_lineSeqs (s : State) : lineSeqs none (resetTables s) = [] := by
  unfold resetTables resetQueues
  exact clearedTables_lineSeqs (resetQueue_records _) rfl rfl

theorem releaseHeader_keeps' (s : State) : KeepsAllBut [.runId, .locked, .counters, .ending] s (releaseHeader s) :=
  releaseHeader_keeps (by decide) (.start _ s)

theorem resetLine_accounted (s : State) : Accounted none (Machine.resetLine s) := by
  have hk := resetLine_keeps' s
  refine .of_idle ?_ ?_ ?_ ?_ ?_
  · rw [resetLine_eq]
    exact (enterState_line _ _ _).1
  · exact (hk .locked (by decide)).trans rfl
  · exact (hk .ending (by decide)).trans rfl
  · exact (hk .counters (by decide)).trans rfl
  · rw [lineSeqs_of_keeps hk (by decide), lineSeqs_of_keeps (releaseHeader_keeps' _) (by decide)]
    exact resetTables_lineSeqs s

/-! ### Loads -/

theorem profileInUse_eq_false {p : ProfileFields} {s : State} (hu : profileInUse p s = false) (hl : p.length ≠ s.track.length) :
    trackMarks s = [] := by
  have hz : pieceCount s = 0 := by
    by_contra hne
    unfold profileInUse at hu
    simp [hne, hl] at hu
  rw [pieceCount_eq, List.length_eq_zero_iff, List.map_eq_nil_iff] at hz
  exact hz

theorem writeProfile_keeps' (p : ProfileFields) (s : State) :
    KeepsAllBut (.own :: .held :: permitParts) (loadFields p s) (writeProfile p s) := by
  rw [writeProfile_eq]
  split
  · exact evalPermit_keeps (by decide) (.start _ _)
  · exact evalPermit_keeps (by decide) (checkMarks_keeps (by decide) (.start _ _))

theorem writeProfile_trackMarks {p : ProfileFields} {s : State} (hu : profileInUse p s = false) :
    trackMarks (writeProfile p s) = trackMarks s := by
  have hslots : (writeProfile p s).track.slots = (loadFields p s).track.slots := writeProfile_keeps' p s .slots (by decide)
  obtain ⟨-, -, e, -⟩ := loadFields_track p s
  rw [e] at hslots
  split at hslots
  · rw [trackMarks, hslots, trackMarks]
  next hl => rw [trackMarks_replicate hslots, profileInUse_eq_false hu hl]

end Sys2Proof.Machine
end

section
/-! Every step conserves the records of a run (R102, R107, R127, R134, R146): O58. -/

namespace Sys2Proof.Machine

/-! ### A record accepted -/

/-- A record accepted passed the four steps of R2. -/
theorem judgeRecord_accepts {body : List Byte} {x : JobRecord} {s : State} (h : judgeRecord body s = .ok x) :
    intakeOpen s = true ∧ s.line.counters.accepted ≠ Config.counterLimit ∧
      (x.reprint = true → ∃ e, entryOf x.seq s = some e ∧ e.state ≠ .queued) ∧
      (x.reprint = false → ∀ l, s.queue.last = some l → l < x.seq) := by
  unfold judgeRecord at h
  split at h
  next hopen =>
    split at h
    · exact absurd h (by simp)
    next y _ =>
      split at h
      · split at h
        · exact absurd h (by simp)
        next hseq =>
          split at h
          · exact absurd h (by simp)
          · have hx : y.clamp s.collation.sheetLimit = x := by simpa using h
            have e1 : x.reprint = y.reprint := by rw [← hx]; rfl
            have e2 : x.seq = y.seq := by rw [← hx]; rfl
            rw [e1, e2]
            unfold sequenceRefusal at hseq
            split at hseq
            · exact absurd hseq (by simp)
            next hlimit =>
              refine ⟨hopen, hlimit, fun hre => ?_, fun hre l hl => ?_⟩
              · rw [if_pos hre] at hseq
                unfold reprintRefusal at hseq
                split at hseq
                · exact absurd hseq (by simp)
                next e he =>
                  refine ⟨e, he, fun hq => ?_⟩
                  rw [if_pos hq] at hseq
                  exact absurd hseq (by simp)
              · rw [if_neg (by simp [hre]), hl] at hseq
                dsimp only at hseq
                by_contra hlt
                rw [if_neg hlt] at hseq
                exact absurd hseq (by simp)
      · exact absurd h (by simp)
  · exact absurd h (by simp)

theorem intakeOpen_iff {s : State} : intakeOpen s = true ↔
    (s.line.state = .ready ∨ s.line.state = .running ∨ s.line.state = .paused ∨ s.line.state = .jammed) ∧
      s.line.ending = false := by
  simp only [intakeOpen, Bool.and_eq_true, Bool.or_eq_true, beq_iff_eq, Bool.not_eq_true', or_assoc]

theorem acceptRecord_keeps' (x : JobRecord) (s : State) :
    KeepsAllBut (.held :: permitParts) (joinQueue x s) (acceptRecord x s) := by
  rw [acceptRecord_eq]
  refine checkHold_keeps (by decide) ?_
  split
  · exact evalPermit_keeps (by decide) (.start _ _)
  · exact .start _ _

theorem joinQueue_counters (x : JobRecord) (s : State) :
    (joinQueue x s).line.counters = { s.line.counters with accepted := countUp s.line.counters.accepted } := by
  unfold joinQueue
  dsimp only
  split <;> rfl

theorem joinQueue_lineSeqs (x : JobRecord) (s : State) : (lineSeqs none (joinQueue x s)).Perm (x.seq :: lineSeqs none s) := by
  have hk := joinQueue_keeps x s
  have epocket : pocketSeqs (joinQueue x s) = pocketSeqs s := by
    rw [pocketSeqs, (hk .collecting (by decide) : (joinQueue x s).collation.collecting = _),
      (hk .staging (by decide) : (joinQueue x s).collation.staging = _)]
  have etrack : trackSeqs (joinQueue x s) = trackSeqs s := by rw [trackSeqs, trackMarks_of_keeps hk (by decide)]
  have eflight : flightSeqs (joinQueue x s) = flightSeqs s := by rw [flightSeqs, hk.bins_eq (by decide)]
  rw [lineSeqs, lineSeqs, sequencesHeld_eq, sequencesHeld_eq, epocket, etrack, eflight, queueSeqs, joinQueue_records,
    List.map_append, List.map_singleton]
  simp only [heldSeqs, Option.map_none, Option.toList_none, List.nil_append, List.append_assoc]
  exact List.perm_middle

theorem acceptRecord_accounted {body : List Byte} {x : JobRecord} {s : State} (hr : judgeRecord body s = .ok x)
    (h : Accounted none s) : Accounted none (acceptRecord x s) := by
  obtain ⟨hopen, hlimit, -⟩ := judgeRecord_accepts hr
  obtain ⟨hst, hen⟩ := intakeOpen_iff.mp hopen
  have hne : s.line.state ≠ .idle := by obtain e | e | e | e := hst <;> rw [e] <;> decide
  have hncl : s.line.state ≠ .closed := by obtain e | e | e | e := hst <;> rw [e] <;> decide
  have hndr : s.line.state ≠ .draining := by obtain e | e | e | e := hst <;> rw [e] <;> decide
  have hk := joinQueue_keeps x s
  have e0 := hk.state_eq (by decide)
  have e1 := hk.ending_eq (by decide)
  have hrange := h.range
  have hup : countUp s.line.counters.accepted = s.line.counters.accepted + 1 := min_eq_right (by omega)
  have hacc : (joinQueue x s).line.counters.accepted = s.line.counters.accepted + 1 := by rw [joinQueue_counters, hup]
  have hdisp : dispositions (joinQueue x s) = dispositions s := by rw [dispositions, joinQueue_counters]; rfl
  have hlen := (joinQueue_lineSeqs x s).length_eq
  have hj : Accounted none (joinQueue x s) := by
    refine ⟨⟨?_, ?_, ?_, ?_, ?_, fun _ => ?_⟩, ?_⟩
    · rw [e0, (hk .locked (by decide) : (joinQueue x s).line.locked = _)]; exact h.locked
    · rw [e0]; exact fun k => absurd k hndr
    · rw [e1, hen]; exact fun k => absurd k (by decide)
    · rw [e0]; exact fun k => absurd k (not_or.mpr ⟨hne, hncl⟩)
    · rw [hacc]; omega
    · rw [hacc, hlen, hdisp, List.length_cons, h.balanced hne]; omega
    · rw [e1, hen]; exact fun k => absurd k (by decide)
  exact hj.of_keeps (acceptRecord_keeps' x s) (by decide)

theorem inFlightCount_of_keeps {l : List Part} {s t : State} (h : KeepsAllBut l s t)
    (hl : ∀ p ∈ ([.collecting, .staging, .slots] : List Part), p ∉ l) : inFlightCount t = inFlightCount s := by
  rw [inFlightCount_eq, inFlightCount_eq, pocketSeqs, pocketSeqs, trackSeqs, trackSeqs, trackMarks_of_keeps h (hl _ (by decide)),
    (h .collecting (hl _ (by decide)) : t.collation.collecting = _), (h .staging (hl _ (by decide)) : t.collation.staging = _)]

theorem Sequenced.of_keeps {l : List Part} {s t : State} (h : Sequenced none s) (hk : KeepsAllBut l s t)
    (hl : ∀ p ∈ ([.records, .last, .reprints, .collecting, .staging, .slots, .bins] : List Part), p ∉ l) : Sequenced none t := by
  have er : t.queue.records = s.queue.records := hk .records (hl _ (by decide))
  have el : t.queue.last = s.queue.last := hk .last (hl _ (by decide))
  have ee : t.reprints = s.reprints := hk .reprints (hl _ (by decide))
  have ep : lineSeqs none t = lineSeqs none s := lineSeqs_of_keeps hk (fun p hp => hl p (by
    simp only [List.mem_cons, List.not_mem_nil] at hp ⊢; tauto)) none
  have ef : inFlightCount t = inFlightCount s := inFlightCount_of_keeps hk fun p hp => hl p (by
    simp only [List.mem_cons, List.not_mem_nil] at hp ⊢; tauto)
  refine ⟨?_, ?_, ?_, ?_⟩
  · rw [er]; exact h.rising
  · rw [ep, ee, el]; exact h.known
  · rw [ep, ee, reprintSeqs, er]; exact h.entries
  · rw [ee, ef]; exact h.free

/-- A record whose sequence stands nowhere joins the line. -/
theorem Entries.join {line rep : List Nat} {n : Nat} {l : List ReprintEntry} (h : Entries line rep l) (hline : n ∉ line)
    (hopen : n ∉ openSeqs l) : Entries (n :: line) rep l where
  once := List.nodup_cons.mpr ⟨fun hm => (List.mem_append.mp hm).elim hline hopen, h.once⟩
  apart := h.apart
  queued := h.queued
  listed := h.listed
  onLine := fun k hk => List.mem_cons_of_mem _ (h.onLine k hk)

theorem mem_openSeqs {l : List ReprintEntry} {n : Nat} (h : n ∈ openSeqs l) : n ∈ l.map (·.seq) := by
  obtain ⟨e, he, rfl⟩ := List.mem_map.mp h
  exact List.mem_map.mpr ⟨e, (List.mem_filter.mp he).1, rfl⟩

theorem map_seq_updateEntry (test : ReprintEntry → Bool) {change : ReprintEntry → ReprintEntry} (hc : ∀ e, (change e).seq = e.seq)
    (l : List ReprintEntry) : (updateEntry test change l).map (·.seq) = l.map (·.seq) := by
  induction l with
  | nil => rfl
  | cons e l ih =>
    unfold updateEntry
    split
    · rw [List.map_cons, List.map_cons, hc]
    · rw [List.map_cons, List.map_cons, ih]

section
variable {x : JobRecord} {s : State}

theorem reprintSeqs_joinQueue : reprintSeqs none (joinQueue x s) = if x.reprint then reprintSeqs none s ++ [x.seq] else reprintSeqs none s := by
  show ((joinQueue x s).queue.records.filter (·.reprint)).map (·.seq) =
    if x.reprint then (s.queue.records.filter (·.reprint)).map (·.seq) ++ [x.seq] else (s.queue.records.filter (·.reprint)).map (·.seq)
  rw [joinQueue_records, List.filter_append, List.map_append]
  cases h : x.reprint
  · rw [List.filter_cons_of_neg (by simp [h])]
    simp
  · rw [List.filter_cons_of_pos (by simp [h])]
    rfl

theorem joinQueue_last : (joinQueue x s).queue.last = if x.reprint then s.queue.last else some x.seq := by
  unfold joinQueue
  dsimp only
  split <;> rfl

theorem queueSeqs_onLine {r : JobRecord} (h : r ∈ s.queue.records) : r.seq ∈ lineSeqs none s := by
  have : r.seq ∈ queueSeqs s := List.mem_map.mpr ⟨r, h, rfl⟩
  simp only [lineSeqs, sequencesHeld_eq, List.mem_append]
  exact .inr (.inl (.inl (.inl this)))

/-- A reprint record joins the line with its entry QUEUED (R6, R7). -/
theorem joinReprint_sequenced {e : ReprintEntry} (hx : x.reprint = true) (he : entryOf x.seq s = some e) (hq : e.state ≠ .queued)
    (h : Sequenced none s) : Sequenced none (joinQueue x s) := by
  have hk := joinQueue_keeps x s
  have hseq : e.seq = x.seq := by simpa using List.find?_some he
  have hreprints : (joinQueue x s).reprints =
      updateEntry (fun y => y.seq == e.seq) (fun y => { y with state := .queued }) s.reprints := by
    rw [joinQueue_reprints, if_pos hx, hseq]
  have hlast : (joinQueue x s).queue.last = s.queue.last := by rw [joinQueue_last, if_pos hx]
  have hperm := joinQueue_lineSeqs x s
  refine ⟨?_, fun n hn => ?_, ?_, ?_⟩
  · rw [joinQueue_records, List.filter_append, List.filter_cons_of_neg (by simp [hx]), List.filter_nil, List.append_nil]
    exact h.rising
  · rw [hreprints, map_seq_updateEntry _ (change := fun y => { y with state := .queued }) (fun _ => rfl), List.mem_append, hperm.mem_iff, List.mem_cons] at hn
    rw [hlast]
    refine h.known n (List.mem_append.mpr ?_)
    obtain (rfl | hn) | hn := hn
    · exact .inr (hseq ▸ List.mem_map.mpr ⟨e, List.mem_of_find?_eq_some he, rfl⟩)
    · exact .inl hn
    · exact .inr hn
  · rw [hreprints, reprintSeqs_joinQueue, if_pos hx]
    refine (h.entries.queue (e := e) (by rw [hseq]; exact he) hq).perm ?_ ?_
    · rw [hseq]; exact hperm
    · rw [hseq]; exact List.perm_append_singleton ..
  · rw [hreprints, updateEntry_length, inFlightCount_of_keeps hk (by decide)]
    exact h.free

/-- A record that is no reprint joins the line above every sequence known (R5). -/
theorem joinNew_sequenced (hx : x.reprint = false) (hlast : ∀ l, s.queue.last = some l → l < x.seq)
    (h : Sequenced none s) : Sequenced none (joinQueue x s) := by
  have hk := joinQueue_keeps x s
  have hreprints : (joinQueue x s).reprints = s.reprints := by rw [joinQueue_reprints, if_neg (by simp [hx])]
  have hlast' : (joinQueue x s).queue.last = some x.seq := by rw [joinQueue_last, if_neg (by simp [hx])]
  have hperm := joinQueue_lineSeqs x s
  have hlt : ∀ n ∈ lineSeqs none s ++ s.reprints.map (·.seq), n < x.seq := by
    intro n hn
    obtain ⟨l, hl, hle⟩ := h.known n hn
    exact lt_of_le_of_lt hle (hlast l hl)
  refine ⟨?_, fun n hn => ?_, ?_, ?_⟩
  · rw [joinQueue_records, List.filter_append, List.filter_cons_of_pos (by simp [hx]), List.filter_nil, List.map_append,
      List.map_singleton, List.pairwise_append]
    refine ⟨h.rising, List.pairwise_singleton .., fun a ha b hb => ?_⟩
    obtain ⟨r, hr, rfl⟩ := List.mem_map.mp ha
    rw [List.mem_singleton.mp hb]
    exact hlt _ (List.mem_append_left _ (queueSeqs_onLine (List.mem_filter.mp hr).1))
  · refine ⟨x.seq, hlast', ?_⟩
    rw [hreprints, List.mem_append, hperm.mem_iff, List.mem_cons, or_assoc, ← List.mem_append] at hn
    obtain rfl | hn := hn
    · exact Nat.le_refl _
    · exact le_of_lt (hlt n hn)
  · rw [hreprints, reprintSeqs_joinQueue, if_neg (by simp [hx])]
    refine (h.entries.join (n := x.seq) (fun hm => ?_) (fun hm => ?_)).perm hperm (.refl _)
    · exact lt_irrefl _ (hlt _ (List.mem_append_left _ hm))
    · exact lt_irrefl _ (hlt _ (List.mem_append_right _ (mem_openSeqs hm)))
  · rw [hreprints, inFlightCount_of_keeps hk (by decide)]
    exact h.free

theorem acceptRecord_sequenced {body : List Byte} (hr : judgeRecord body s = .ok x) (h : Sequenced none s) :
    Sequenced none (acceptRecord x s) := by
  obtain ⟨-, -, hreprint, hnew⟩ := judgeRecord_accepts hr
  have hj : Sequenced none (joinQueue x s) := by
    cases hx : x.reprint with
    | true =>
      obtain ⟨e, he, hq⟩ := hreprint hx
      exact joinReprint_sequenced hx he hq h
    | false => exact joinNew_sequenced hx (hnew hx) h
  exact hj.of_keeps (acceptRecord_keeps' x s) (by decide)

end

/-! ### The other requests -/

theorem requestEntries_seqs (n : Nat) (l : List ReprintEntry) : (requestEntries n l).map (·.seq) = l.map (·.seq) := by
  induction l generalizing n with
  | nil => cases n <;> rfl
  | cons e l ih =>
    cases n with
    | zero => rfl
    | succ n =>
      unfold requestEntries
      split
      · rw [List.map_cons, List.map_cons, ih]
      · rw [List.map_cons, List.map_cons, ih]

theorem requestEntries_openSeqs (n : Nat) (l : List ReprintEntry) : openSeqs (requestEntries n l) = openSeqs l := by
  induction l generalizing n with
  | nil => cases n <;> rfl
  | cons e l ih =>
    cases n with
    | zero => rfl
    | succ n =>
      unfold requestEntries
      split
      next he =>
        rw [openSeqs_cons_of_ne EntryState.noConfusion, openSeqs_cons_of_ne (by rw [he]; decide), ih]
      · by_cases hq : e.state = .queued
        · rw [openSeqs_cons_queued hq, openSeqs_cons_queued hq, ih]
        · rw [openSeqs_cons_of_ne hq, openSeqs_cons_of_ne hq, ih]

/-- A REPRINT_READ leaves the QUEUED entries as they are (R129). -/
theorem mem_requestEntries {n : Nat} {l : List ReprintEntry} {e : ReprintEntry} (hq : e.state = .queued) :
    e ∈ requestEntries n l ↔ e ∈ l := by
  induction l generalizing n with
  | nil => cases n <;> rfl
  | cons x l ih =>
    cases n with
    | zero => rfl
    | succ n =>
      unfold requestEntries
      split
      next hx =>
        rw [List.mem_cons, List.mem_cons, ih]
        refine or_congr_left ⟨fun h => ?_, fun h => ?_⟩
        · rw [h] at hq; exact absurd hq (by simp)
        · rw [h, hx] at hq; exact absurd hq (by decide)
      · rw [List.mem_cons, List.mem_cons, ih]

theorem reprintRead_sequenced (n : Nat) {s : State} (h : Sequenced none s) :
    Sequenced none (s.setReprints (requestEntries n s.reprints)) := by
  refine ⟨h.rising, fun k hk => h.known k ?_, ?_, ?_⟩
  · rwa [State.setReprints_reprints, requestEntries_seqs, lineSeqs_setReprints] at hk
  · have he : Entries (lineSeqs none s) (reprintSeqs none s) (requestEntries n s.reprints) := by
      refine ⟨?_, ?_, fun e hm hq => ?_, fun k hk => ?_, h.entries.onLine⟩
      · rw [requestEntries_openSeqs]; exact h.entries.once
      · rw [requestEntries_seqs]; exact h.entries.apart
      · exact h.entries.queued e ((mem_requestEntries hq).mp hm) hq
      · obtain ⟨e, hm, hq, hn⟩ := h.entries.listed k hk
        exact ⟨e, (mem_requestEntries hq).mpr hm, hq, hn⟩
    exact he
  · rw [State.setReprints_reprints, requestEntries_length]
    exact h.free

/-- A line and a Reprint List that are empty are disciplined. -/
theorem Sequenced.of_empty {s : State} (hl : lineSeqs none s = []) (hr : s.reprints = []) : Sequenced none s := by
  have hq : s.queue.records = [] := (lineSeqs_parts hl).1
  have hrep : reprintSeqs none s = [] := by
    rw [reprintSeqs, hq]
    rfl
  have hflight : inFlightCount s = 0 := by
    have := congrArg List.length hl
    rw [lineSeqs, sequencesHeld_eq] at this
    simp only [heldSeqs, Option.map_none, Option.toList_none, List.nil_append, List.length_append, List.length_nil] at this
    rw [inFlightCount_eq, List.length_append]
    omega
  refine ⟨?_, ?_, ?_, ?_⟩
  · rw [hq]; exact List.Pairwise.nil
  · rw [hl, hr]; exact fun _ h => absurd h List.not_mem_nil
  · rw [hl, hr, hrep]
    exact ⟨List.nodup_nil, List.nodup_nil, fun _ h => absurd h List.not_mem_nil, fun _ h => absurd h List.not_mem_nil,
      fun _ h => absurd h List.not_mem_nil⟩
  · rw [hr, hflight]
    decide

/-- The discipline of the sequences, with the list empty in IDLE (R131). -/
structure Disciplined (s : State) : Prop where
  sequenced : Sequenced none s
  idle : s.line.state = .idle → s.reprints = []

theorem disciplined_iff {s : State} : Disciplined s ↔ SequencesSound s := by
  constructor
  · exact fun h => (sequencesSound_iff h.idle).mp h.sequenced
  · intro h
    obtain ⟨-, -, -, -, -, -, -, hidle⟩ := id h
    exact ⟨(sequencesSound_iff hidle).mpr h, hidle⟩

theorem Disciplined.of_moves {i i' : Option Item} {d d' : Bool} {s t : State} (m : Moves i d s i' d' t) (ha : Accounted i s)
    (h : s.line.state = .idle → s.reprints = []) : t.line.state = .idle → t.reprints = [] := by
  have : Accounted i' t ∧ (t.line.state = .idle → t.reprints = []) := by
    refine m.induct (P := fun i _ s => Accounted i s ∧ (s.line.state = .idle → s.reprints = [])) (fun {i d s i' d' t} m h => ?_)
      ⟨ha, h⟩
    obtain ⟨ha, h⟩ := h
    refine ⟨ha.moves (Moves.start.step m), fun ht => ?_⟩
    have hs : s.line.state = .idle := by
      obtain e | ⟨_, e⟩ := m.state_cases
      · rwa [e] at ht
      · rw [ht] at e; exact absurd e (by decide)
    have hline := ha.empty (.inl hs)
    cases m.ledger with
    | kept _ he => rw [he]; exact h hs
    | head x w hx =>
      have : s.queue.records = [] := by
        rw [lineSeqs, List.append_eq_nil_iff, sequencesHeld_eq] at hline
        simp only [List.append_eq_nil_iff, List.map_eq_nil_iff] at hline
        exact hline.2.1.1.1
      rw [this] at hx
      exact absurd hx (by simp)
    | dispose x k e _ hi => rw [hi] at hline; exact absurd hline (List.cons_ne_nil _ _)
    | release seq hi => rw [hi] at hline; exact absurd hline (List.cons_ne_nil _ _)
  exact this.2

theorem Disciplined.of_keeps {l : List Part} {s t : State} (h : Disciplined s) (hk : KeepsAllBut l s t)
    (hl : ∀ p ∈ ([.records, .last, .reprints, .collecting, .staging, .slots, .bins] : List Part), p ∉ l)
    (hs : t.line.state = .idle → s.line.state = .idle) : Disciplined t :=
  ⟨h.sequenced.of_keeps hk hl, fun ht => (hk.reprints_eq (hl _ (by decide))).trans (h.idle (hs ht))⟩

end Sys2Proof.Machine
end

section
/-! Every step conserves the records of a run (R102, R107, R127, R134, R146): O58. -/

namespace Sys2Proof.Machine

/-- Records move, and the line control does not. -/
theorem Accounted.of_ledger {i i' : Option Item} {s t : State} (h : Accounted i s) (m : LedgerMove i s i' t)
    (h0 : t.line.state = s.line.state) (h1 : t.line.ending = s.line.ending) (h2 : t.line.locked = s.line.locked) :
    Accounted i' t := by
  refine ⟨⟨?_, ?_, ?_, ?_, m.accepted ▸ h.range, ?_⟩, ?_⟩
  · rw [h2, h0]; exact h.locked
  · rw [h1, h0]; exact h.draining
  · rw [h1]; exact fun he => m.noQueue (h.noQueue he)
  · rw [h0]; exact fun hs => m.empty (h.empty hs)
  · rw [h0]; exact fun hs => m.balanced h.range (h.balanced hs)
  · rw [h1, h0]; exact h.ending

theorem loadedProfile_keeps (p : ProfileFields) (s : State) :
    KeepsAllBut (fieldParts ++ .own :: .held :: permitParts) s (writeProfile p s) :=
  ((loadFields_keeps p s).more (List.subset_append_left _ _)).trans
    ((writeProfile_keeps' p s).more (List.subset_append_right _ _))

theorem writeProfile_ledger {p : ProfileFields} {s : State} (hu : profileInUse p s = false) :
    LedgerMove none s none (writeProfile p s) := by
  have hk := loadedProfile_keeps p s
  refine .of_same (hk.records_eq (by decide)) (hk.reprints_eq (by decide)) (hk.counters_eq (by decide))
    (hk .collecting (by decide)) (hk .staging (by decide)) (writeProfile_trackMarks hu) ?_
  rw [flightSeqs, hk.bins_eq (by decide)]

theorem loadBin_ledger {b node capacity : Nat} {s : State} (hb : b < 32) :
    LedgerMove none s none (putBin b { binAt b s with node := some node, capacity := some capacity } s) :=
  .of_same rfl rfl rfl rfl rfl rfl (flightSeqs_putBin_same hb rfl)

theorem dropLog_keeps (n : Nat) (s : State) :
    KeepsAllBut (.logRecords :: permitParts) s (evalPermit (s.setLog { s.log with records := s.log.records.drop n })) :=
  evalPermit_keeps (by decide) (State.setLog_keeps (f := [.logRecords]) (by decide) (.start _ s) _
    (by intro p hp; cases p <;> first | rfl | exact absurd (by decide) hp))

theorem setStations_keeps (t : Vector (Option StationEntry) 24) (s : State) :
    KeepsAllBut [.stations] s (s.setTrack { s.track with stations := t }) := by
  intro p hp
  cases p <;> first | rfl | exact absurd (by decide) hp

/-- OPEN_RUN is taken in IDLE (R18). -/
theorem Accounted.idle_of_unlocked {s : State} (h : Accounted none s) (hl : s.line.locked = false) : s.line.state = .idle := by
  by_contra hne
  rw [h.locked.mpr hne] at hl
  exact absurd hl (by decide)

theorem Request.accounted {s t : State} (q : Request s t) (h : Accounted none s) : Accounted none t := by
  cases q with
  | accept hr => exact acceptRecord_accounted hr h
  | logRead n => exact h.of_keeps (dropLog_keeps n s) (by decide)
  | reprintRead n => exact ⟨⟨h.locked, h.draining, h.noQueue, h.empty, h.range, h.balanced⟩, h.ending⟩
  | openRun id hs => exact openRun_accounted (h.idle_of_unlocked hs) h
  | start hs => exact startRun_accounted hs h
  | pause hs => exact enterState_accounted h (by obtain e | e := hs <;> rw [e] <;> decide) (.inr (.inl rfl))
  | resume hs => exact resumeRun_accounted hs h
  | flush _ hs => exact flushRun_accounted hs h
  | abort hs => exact abortRun_accounted hs.1 h
  | closeRun hs => exact closeRun_accounted hs h
  | resetLine => exact resetLine_accounted s
  | @loadProfile p _ hs hr hu =>
    have hk := loadedProfile_keeps p s
    exact h.of_ledger (writeProfile_ledger hu) (hk.state_eq (by decide)) (hk.ending_eq (by decide)) (hk .locked (by decide))
  | loadStations => exact h.of_keeps (setStations_keeps _ s) (by decide)
  | loadScheme start entries hp => exact h.of_keeps (writeScheme_keeps (List.Subset.refl _) (.start _ s) _ _ _) (by decide)
  | loadGroup hf hr => exact h.of_keeps (putGroup_keeps (List.Subset.refl _) (.start _ s) _ _) (by decide)
  | @loadBin b node capacity _ hr hb => exact h.of_ledger (loadBin_ledger (Nat.lt_succ_of_le (binInRange_iff.mp hr).1)) rfl rfl rfl

/-! ### The counts of the pieces on the track -/

/-- A line cleared of its pieces, with the counts unchanged, as it had none. -/
theorem matchCounts_of_noMarks {s t : State} (h : MatchCountsExact s) (hs : trackMarks s = []) (ht : trackMarks t = [])
    (hp : t.sort.pageUse = s.sort.pageUse) (hg : t.sort.groups = s.sort.groups) : MatchCountsExact t :=
  matchCounts_of_same h hp (fun g _ => by rw [groupAt, hg, groupAt]) (ht.trans hs.symm)

theorem openRun_matchCounts {id : Word} {s : State} (hline : lineSeqs none s = []) (h : MatchCountsExact s) :
    MatchCountsExact (openRun id s) := by
  have hk := openedRun_keeps id s
  have hslots : (openedRun id s).track.slots = List.replicate s.track.length none := rfl
  have h1 : MatchCountsExact (openedRun id s) :=
    matchCounts_of_noMarks h (lineSeqs_parts hline).2.1 (trackMarks_replicate hslots) (hk .pageUse (by decide)) (hk .groups (by decide))
  exact matchCounts_of_keeps h1 (openRun_keeps' id s) (by decide)

theorem clearedTables_matchCounts (s : State) :
    MatchCountsExact ((emptyRings (resetSort (clearTrack s))).setReprints []) := by
  have hslots : ((emptyRings (resetSort (clearTrack s))).setReprints []).track.slots = List.replicate s.track.length none := rfl
  have hm := trackMarks_replicate hslots
  refine matchCounts_iff.mpr ⟨fun p hp => ?_, fun g hg => ?_⟩
  · have e : pageUseAt p ((emptyRings (resetSort (clearTrack s))).setReprints []) =
        ((Vector.replicate 32 0)[p]?).getD 0 := rfl
    rw [hm, e, Vector.getElem?_replicate, if_pos hp]
    rfl
  · have e : groupAt g ((emptyRings (resetSort (clearTrack s))).setReprints []) = groupAt g (resetSort (clearTrack s)) := rfl
    rw [hm, e, groupAt_resetSort]
    rfl

theorem resetLine_matchCounts (s : State) : MatchCountsExact (Machine.resetLine s) := by
  have h1 : MatchCountsExact (resetTables s) := clearedTables_matchCounts (resetQueues s)
  exact matchCounts_of_keeps (matchCounts_of_keeps h1 (releaseHeader_keeps' _) (by decide)) (resetLine_keeps' s) (by decide)

theorem resumeRun_matchCounts {s : State} (h : MatchCountsExact s) : MatchCountsExact (resumeRun s) := by
  have hk (x : RunState) := enterState_keeps (List.Subset.refl stateParts) (.start _ s) x none
  unfold resumeRun
  split
  · exact (drainCheck_moves (a := none) (c := true) (r := enterState .draining none s) (d := true) .start).matchCounts
      (matchCounts_of_keeps h (hk _) (by decide))
  · exact matchCounts_of_keeps h (hk _) (by decide)

theorem flushedQueue_matchCounts {s : State} (h : MatchCountsExact s) : MatchCountsExact (flushedQueue s) :=
  matchCounts_of_keeps h (flushedQueue_keeps s) (by decide)

theorem flushRun_matchCounts {s : State} (hs : s.line.state ≠ .idle) (h : MatchCountsExact s) : MatchCountsExact (flushRun s) := by
  obtain ⟨hne, he⟩ := flushIntake_line hs
  have hm : Moves none true (flushedQueue s) none true (flushPocket (flushedQueue s)) := flushPocket_moves .start
  have h2 := hm.matchCounts (flushedQueue_matchCounts h)
  have h3 : MatchCountsExact (flushIntake s) := by
    rw [flushIntake_eq]
    split
    · exact matchCounts_of_keeps h2 (enterState_keeps (List.Subset.refl stateParts) (.start _ _) .draining none) (by decide)
    · exact h2
  rw [flushRun_eq]
  exact (flushCheck_moves (d := true) hne he).matchCounts h3

theorem abortRun_matchCounts {s : State} (h : MatchCountsExact s) : MatchCountsExact (abortRun s) := by
  rw [abortRun_eq]
  have h1 : MatchCountsExact (abortLine s) := matchCounts_of_keeps h (abortLine_keeps s) (by decide)
  have h2 := (abortWork_moves (d := true) (abortLine s)).matchCounts h1
  exact matchCounts_of_keeps h2 (abortClose_keeps _) (by decide)

theorem loadGroup_matchCounts {g : Nat} {x : Group} {s : State} (hx : x.refs = (groupAt g s).refs) (h : MatchCountsExact s) :
    MatchCountsExact (putGroup g x s) := by
  refine matchCounts_of_same h rfl (fun k hk => ?_) rfl
  rw [groupAt_putGroup_lt _ _ _ _ hk]
  split
  next hkg => rw [hx, hkg]
  · rfl

theorem Request.matchCounts {s t : State} (q : Request s t) (ha : Accounted none s) (h : MatchCountsExact s) : MatchCountsExact t := by
  cases q with
  | accept hr =>
    exact matchCounts_of_keeps (matchCounts_of_keeps h (joinQueue_keeps _ s) (by decide)) (acceptRecord_keeps' _ s) (by decide)
  | logRead n => exact matchCounts_of_keeps h (dropLog_keeps n s) (by decide)
  | reprintRead n => exact matchCounts_of_same h rfl (fun _ _ => rfl) rfl
  | openRun id hs => exact openRun_matchCounts (ha.empty (.inl (ha.idle_of_unlocked hs))) h
  | start =>
    exact matchCounts_of_keeps h (l := stateParts ++ writeParts)
      (enterState_keeps (by decide) (writeLog_keeps (by decide) (.start _ s) _) _ _) (by decide)
  | pause hs => exact matchCounts_of_keeps h (enterState_keeps (List.Subset.refl stateParts) (.start _ s) _ _) (by decide)
  | resume hs => exact resumeRun_matchCounts h
  | flush _ hs => exact flushRun_matchCounts (by obtain e | e := hs <;> rw [e] <;> decide) h
  | abort hs => exact abortRun_matchCounts h
  | closeRun hs =>
    rw [closeRun_eq]
    exact matchCounts_of_keeps (matchCounts_of_keeps h (freedRun_keeps s) (by decide))
      (enterState_keeps (List.Subset.refl stateParts) (.start _ _) _ _) (by decide)
  | resetLine => exact resetLine_matchCounts s
  | @loadProfile p _ _ _ hu =>
    have hk := loadedProfile_keeps p s
    refine matchCounts_of_same h (hk .pageUse (by decide)) (fun g _ => ?_) (writeProfile_trackMarks hu)
    rw [groupAt, (hk .groups (by decide) : _ = s.sort.groups), groupAt]
  | loadStations => exact matchCounts_of_keeps h (setStations_keeps _ s) (by decide)
  | loadScheme start entries hp =>
    exact matchCounts_of_keeps h (writeScheme_keeps (List.Subset.refl _) (.start _ s) _ _ _) (by decide)
  | loadGroup hf hr => exact loadGroup_matchCounts rfl h
  | loadBin hr hb => exact matchCounts_of_same h rfl (fun _ _ => rfl) rfl

/-! ### The discipline of the sequences -/

theorem resumeRun_sequenced {s : State} (h : Sequenced none s) :
    Sequenced none (resumeRun s) := by
  have hk (x : RunState) := enterState_keeps (List.Subset.refl stateParts) (.start _ s) x none
  unfold resumeRun
  split
  · exact (h.of_keeps (hk .draining) (by decide)).moves (drainCheck_moves (d := true) .start)
  · exact h.of_keeps (hk .running) (by decide)

theorem flushRun_sequenced {s : State} (hs : s.line.state ≠ .idle) (h : Sequenced none s) : Sequenced none (flushRun s) := by
  obtain ⟨hne, he⟩ := flushIntake_line hs
  have h1 : Sequenced none (setEnding (writeLog (.run .flush s.line.runId none) s)) :=
    h.of_keeps (setEnding_keeps (l := .ending :: writeParts) (by decide) (writeLog_keeps (by decide) (.start _ s) _)) (by decide)
  have h2 : Sequenced none (flushPocket (flushedQueue s)) := h1.moves (d := true) (flushPocket_moves (unfedAll_moves .start))
  have h3 : Sequenced none (flushIntake s) := by
    rw [flushIntake_eq]
    split
    · exact h2.of_keeps (enterState_keeps (List.Subset.refl stateParts) (.start _ _) .draining none) (by decide)
    · exact h2
  rw [flushRun_eq]
  exact h3.moves (flushCheck_moves (d := true) hne he)

theorem abortRun_sequenced {s : State} (h : Sequenced none s) : Sequenced none (abortRun s) := by
  rw [abortRun_eq]
  have h1 : Sequenced none (abortLine s) := h.of_keeps (abortLine_keeps s) (by decide)
  have h2 := h1.moves (abortWork_moves (d := true) (abortLine s))
  exact h2.of_keeps (abortClose_keeps _) (by decide)

theorem openRun_sequenced {id : Word} {s : State} (hline : lineSeqs none s = []) (hr : s.reprints = []) :
    Sequenced none (openRun id s) := by
  have hk := openRun_keeps' id s
  refine .of_empty ((lineSeqs_of_keeps hk (by decide) none).trans (openedRun_lineSeqs hline)) ?_
  rw [hk.reprints_eq (by decide), (openedRun_keeps id s).reprints_eq (by decide), hr]

theorem closeRun_reprints (s : State) : (closeRun s).reprints = [] := by
  rw [closeRun_eq, (enterState_keeps (List.Subset.refl stateParts) (.start _ _) _ _).reprints_eq (by decide)]
  rfl

theorem closeRun_sequenced {s : State} (hline : lineSeqs none s = []) : Sequenced none (closeRun s) := by
  refine .of_empty ?_ (closeRun_reprints s)
  rw [closeRun_eq, lineSeqs_of_keeps (enterState_keeps (List.Subset.refl stateParts) (.start _ _) _ _) (by decide),
    lineSeqs_of_keeps (freedRun_keeps s) (by decide)]
  exact hline

theorem resetLine_reprints (s : State) : (Machine.resetLine s).reprints = [] :=
  (resetLine_keeps' s).reprints_eq (by decide)

theorem resetLine_sequenced (s : State) : Sequenced none (Machine.resetLine s) := by
  refine .of_empty ?_ (resetLine_reprints s)
  rw [lineSeqs_of_keeps (resetLine_keeps' s) (by decide), lineSeqs_of_keeps (releaseHeader_keeps' _) (by decide)]
  exact resetTables_lineSeqs s

theorem Request.sequenced {s t : State} (q : Request s t) (ha : Accounted none s) (hd : Disciplined s) : Sequenced none t := by
  have h := hd.sequenced
  cases q with
  | accept hr => exact acceptRecord_sequenced hr h
  | logRead n => exact h.of_keeps (dropLog_keeps n s) (by decide)
  | reprintRead n => exact reprintRead_sequenced n h
  | openRun id hs =>
    have hidle := ha.idle_of_unlocked hs
    exact openRun_sequenced (ha.empty (.inl hidle)) (hd.idle hidle)
  | start hs =>
    exact h.of_keeps (l := stateParts ++ writeParts)
      (enterState_keeps (by decide) (writeLog_keeps (by decide) (.start _ s) _) _ _) (by decide)
  | pause hs => exact h.of_keeps (enterState_keeps (List.Subset.refl stateParts) (.start _ s) _ _) (by decide)
  | resume => exact resumeRun_sequenced h
  | flush _ hs => exact flushRun_sequenced (by obtain e | e := hs <;> rw [e] <;> decide) h
  | abort hs => exact abortRun_sequenced h
  | closeRun hs => exact closeRun_sequenced (ha.empty (.inr hs))
  | resetLine => exact resetLine_sequenced s
  | loadProfile hs hr hu => exact h.ledger (writeProfile_ledger hu) (loadedProfile_keeps _ s .last (by decide))
  | loadStations => exact h.of_keeps (setStations_keeps _ s) (by decide)
  | loadScheme start entries hp => exact h.of_keeps (writeScheme_keeps (List.Subset.refl _) (.start _ s) _ _ _) (by decide)
  | loadGroup hf hr => exact h.of_keeps (putGroup_keeps (List.Subset.refl _) (.start _ s) _ _) (by decide)
  | loadBin hr hb => exact h.ledger (loadBin_ledger (Nat.lt_succ_of_le (binInRange_iff.mp hr).1)) rfl

/-- A request that ends in IDLE leaves the Reprint List empty (R131). -/
theorem Request.idle {s t : State} (q : Request s t) (h : s.line.state = .idle → s.reprints = [])
    (ht : t.line.state = .idle) : t.reprints = [] := by
  have ofKeeps {l : List Part} (hk : KeepsAllBut l s t) (h0 : Part.runState ∉ l) (h1 : Part.reprints ∉ l) : t.reprints = [] := by
    rw [hk.reprints_eq h1]
    exact h ((hk.state_eq h0).symm.trans ht)
  cases q with
  | accept hr =>
    rw [(acceptRecord_keeps' _ s).state_eq (by decide), (joinQueue_keeps _ s).state_eq (by decide)] at ht
    obtain ⟨hst, -⟩ := intakeOpen_iff.mp (judgeRecord_accepts hr).1
    rw [ht] at hst
    exact absurd hst (by decide)
  | logRead n => exact ofKeeps (dropLog_keeps n s) (by decide) (by decide)
  | reprintRead n =>
    show requestEntries n s.reprints = []
    rw [h ht]
    cases n <;> rfl
  | openRun id hs => rw [openRun_state] at ht; exact absurd ht (by decide)
  | start hs => unfold startRun at ht; rw [(enterState_line _ _ _).1] at ht; exact absurd ht (by decide)
  | pause hs => rw [(enterState_line _ _ _).1] at ht; exact absurd ht (by decide)
  | resume hs =>
    refine absurd ht ?_
    unfold resumeRun
    split
    · exact (drainCheck_moves (a := none) (c := true) (r := enterState .draining none s) (d := true) .start).ne_idle (by
        rw [(enterState_line _ _ _).1]; decide)
    · rw [(enterState_line _ _ _).1]; decide
  | flush _ hs =>
    obtain ⟨hne, he⟩ := flushIntake_line (s := s) (by obtain e | e := hs <;> rw [e] <;> decide)
    rw [flushRun_eq] at ht
    exact absurd ht ((flushCheck_moves (d := true) hne he).ne_idle hne)
  | abort hs =>
    rw [abortRun_eq, abortClose_state] at ht
    exact absurd ht (by decide)
  | closeRun hs => exact closeRun_reprints s
  | resetLine => exact resetLine_reprints s
  | loadProfile hs hr hu => exact ofKeeps (loadedProfile_keeps _ s) (by decide) (by decide)
  | loadStations => exact ofKeeps (setStations_keeps _ s) (by decide) (by decide)
  | loadScheme start entries hp => exact ofKeeps (writeScheme_keeps (List.Subset.refl _) (.start _ s) _ _ _) (by decide) (by decide)
  | loadGroup hf hr => exact ofKeeps (putGroup_keeps (List.Subset.refl _) (.start _ s) _ _) (by decide) (by decide)
  | loadBin hr hb => exact h ht

/-! ### Every step -/

section
variable (high : Bool) (straps : Node) (signal : Bool) (s : State)

theorem powerOnKeeping_lineSeqs : lineSeqs none (powerOnKeeping high straps signal s) = [] := by
  refine lineSeqs_eq_nil (n := 40) rfl rfl rfl rfl fun k hk => ?_
  have e : binAt k (powerOnKeeping high straps signal s) = ((Vector.replicate 32 Bin.powerOn)[k]?).getD Bin.powerOn := rfl
  rw [e, Vector.getElem?_replicate, if_pos hk]
  rfl

theorem powerOnKeeping_accounted : Accounted none (powerOnKeeping high straps signal s) :=
  .of_idle rfl rfl rfl rfl (powerOnKeeping_lineSeqs ..)

theorem powerOnKeeping_matchCounts : MatchCountsExact (powerOnKeeping high straps signal s) := by
  have hm : trackMarks (powerOnKeeping high straps signal s) = [] := trackMarks_replicate (n := 40) rfl
  refine matchCounts_iff.mpr ⟨fun p hp => ?_, fun g hg => ?_⟩
  · have e : pageUseAt p (powerOnKeeping high straps signal s) = ((Vector.replicate 32 0)[p]?).getD 0 := rfl
    rw [hm, e, Vector.getElem?_replicate, if_pos hp]
    rfl
  · have e : groupAt g (powerOnKeeping high straps signal s) = ((Vector.replicate 16 Group.powerOn)[g]?).getD Group.powerOn := rfl
    rw [hm, e, Vector.getElem?_replicate, if_pos hg]
    rfl

theorem powerOnKeeping_disciplined : Disciplined (powerOnKeeping high straps signal s) :=
  ⟨.of_empty (powerOnKeeping_lineSeqs ..) rfl, fun _ => rfl⟩

end

theorem step_accounted {s t : State} (hs : Accounted none s) (h : step s = .next t) : Accounted none t :=
  course_keeps (P := Accounted none) (fun _ _ h => ⟨⟨h.locked, h.draining, h.noQueue, h.empty, h.range, h.balanced⟩, h.ending⟩)
    (fun _ _ _ _ _ => powerOnKeeping_accounted ..) (fun _ _ hc h => h.moves (hc true)) (fun _ _ q h => q.accounted h) hs h

theorem step_matchCounts {s t : State} (ha : Accounted none s) (hs : MatchCountsExact s) (h : step s = .next t) :
    MatchCountsExact t :=
  (course_keeps (P := fun s => Accounted none s ∧ MatchCountsExact s)
    (fun _ _ h => ⟨⟨⟨h.1.locked, h.1.draining, h.1.noQueue, h.1.empty, h.1.range, h.1.balanced⟩, h.1.ending⟩, h.2⟩)
    (fun _ _ _ _ _ => ⟨powerOnKeeping_accounted .., powerOnKeeping_matchCounts ..⟩)
    (fun _ _ hc h => ⟨h.1.moves (hc true), (hc true).matchCounts h.2⟩)
    (fun _ _ q h => ⟨q.accounted h.1, q.matchCounts h.1 h.2⟩) ⟨ha, hs⟩ h).2

theorem step_disciplined {s t : State} (ha : Accounted none s) (hs : Disciplined s) (h : step s = .next t) : Disciplined t :=
  (course_keeps (P := fun s => Accounted none s ∧ Disciplined s)
    (fun _ _ h => ⟨⟨⟨h.1.locked, h.1.draining, h.1.noQueue, h.1.empty, h.1.range, h.1.balanced⟩, h.1.ending⟩,
      ⟨⟨h.2.sequenced.rising, h.2.sequenced.known, h.2.sequenced.entries, h.2.sequenced.free⟩, h.2.idle⟩⟩)
    (fun _ _ _ _ _ => ⟨powerOnKeeping_accounted .., powerOnKeeping_disciplined ..⟩)
    (fun _ _ hc h => ⟨h.1.moves (hc true), h.2.sequenced.moves (hc true), Disciplined.of_moves (hc true) h.1 h.2.idle⟩)
    (fun _ _ q h => ⟨q.accounted h.1, q.sequenced h.1 h.2, q.idle h.2.idle⟩) ⟨ha, hs⟩ h).2

/-- Settles O58: every step is a chain of moves, each of which keeps the ledger of the records, or a request that does. -/
theorem recordsAreConserved : Obligations.RecordsAreConserved := by
  intro s t _ hs h
  have ha := accounted_iff.mpr hs
  exact ⟨accounted_iff.mp (step_accounted ha h), fun hm => step_matchCounts ha hm h,
    fun hd => disciplined_iff.mp (step_disciplined ha (disciplined_iff.mpr hd) h)⟩

theorem reset_eq : State.reset = powerOnKeeping true 1 true State.reset := rfl

/-- Settles O60: the state after reset is a power-on state. -/
theorem resetMeetsTheInvariants : Obligations.ResetMeetsTheInvariants := by
  unfold Obligations.ResetMeetsTheInvariants
  rw [reset_eq]
  exact ⟨powerOnKeeping_outputs _ _ _ _, powerOnKeeping_withinCapacity _ _ _ _, powerOnKeeping_serials _ _ _ _,
    powerOnKeeping_binsSound _ _ _ _, powerOnKeeping_trackSound _ _ _ _, accounted_iff.mp (powerOnKeeping_accounted _ _ _ _),
    powerOnKeeping_matchCounts _ _ _ _, disciplined_iff.mp (powerOnKeeping_disciplined _ _ _ _), powerOnKeeping_stocksSound _ _ _ _,
    powerOnKeeping_groupsSound _ _ _ _, powerOnKeeping_nodesDistinct _ _ _ _⟩

end Sys2Proof.Machine
end

section
/-! The machine, RESET_N and the encoder (R59, R60, R171): O1, O2, O3, O4 and O34. -/

namespace Sys2Proof.Machine

/-- Settles O1: the two arms of a step. -/
theorem stepRunsFrontCommand : Obligations.StepRunsFrontCommand := by
  refine ⟨fun c rest s hs => ?_, fun s hs => ?_⟩
  · rw [step, hs]
    rfl
  · rw [step, hs]

/-- No work touches the queue of commands, the strapped address or the level of RESET_N. -/
theorem Work.fixed {l : List Part} {s t : State} (w : Work l s t) :
    Part.pending ∉ l ∧ Part.supervisor ∉ l ∧ Part.resetHigh ∉ l := by
  induction w with
  | answer tag code content w ih =>
    obtain ⟨h1, h2, h3⟩ := ih
    simp only [List.mem_cons, not_or]
    exact ⟨⟨by decide, h1⟩, ⟨by decide, h2⟩, ⟨by decide, h3⟩⟩
  | _ => decide

theorem Ran.fixed {s t : State} (h : Ran s t) :
    t.pending = s.pending ∧ t.supervisor = s.supervisor ∧ t.resetHigh = s.resetHigh := by
  obtain ⟨u, ⟨l, w⟩, ht⟩ := h
  obtain ⟨h1, h2, h3⟩ := w.fixed
  have hu : u.pending = s.pending ∧ u.supervisor = s.supervisor ∧ u.resetHigh = s.resetHigh :=
    ⟨w.keeps .pending h1, w.keeps .supervisor h2, w.keeps .resetHigh h3⟩
  obtain rfl | ⟨f, rfl⟩ := ht
  · exact hu
  · have k := forwardFrame_keeps (List.Subset.refl _) (.start _ u) f
    obtain ⟨e1, e2, e3⟩ := hu
    exact ⟨(k .pending (by decide)).trans e1, (k .supervisor (by decide)).trans e2, (k .resetHigh (by decide)).trans e3⟩

/-- Every command has a meaning. -/
theorem exec_next (c : Instr) (s : State) : ∃ t, exec c s = .next t := by
  cases c <;> exact ⟨_, rfl⟩

/-- Settles O2: a command is a work, which touches none of the three, or a change of RESET_N. -/
theorem everyCommandCompletes : Obligations.EveryCommandCompletes := by
  intro c s
  obtain ⟨t, ht⟩ := exec_next c s
  by_cases hlow : c = .resetNLow
  · subst hlow
    exact ⟨_, rfl, rfl, fun h => absurd rfl h⟩
  by_cases hhigh : ∀ straps signal, c ≠ .resetNHigh straps signal
  · obtain ⟨h1, h2, h3⟩ := (exec_ran hlow hhigh ht).fixed
    exact ⟨t, ht, h1, fun _ _ => ⟨h2, h3⟩⟩
  · push Not at hhigh
    obtain ⟨straps, signal, rfl⟩ := hhigh
    refine ⟨_, rfl, ?_, fun _ h => absurd rfl (h straps signal)⟩
    unfold releaseReset
    split <;> rfl

/-- Settles O3: a release from a low level is the power-on state. -/
theorem resetReleaseStartsInIdle : Obligations.ResetReleaseStartsInIdle := by
  intro s straps signal hlow
  have h : releaseReset straps signal s = powerOnKeeping true straps signal s := if_neg (by simp [hlow])
  rw [exec, execResetNHigh, h]
  rfl

theorem take_of_low (work : State → State) {s : State} (h : s.resetHigh = false) : take work s = .next s := by
  rw [take, whileHigh, if_neg (by simp [h])]

theorem take_of_high (work : State → State) {s : State} (h : s.resetHigh = true) : take work s = .next (work s) := by
  rw [take, whileHigh, if_pos h]

/-- Settles O4: the part held is the power-on state, and every other command is taken while RESET_N is high only. -/
theorem resetLowHoldsThePart : Obligations.ResetLowHoldsThePart := by
  refine ⟨fun s => ⟨_, rfl, rfl, rfl, rfl, fun p hp => ?_⟩, fun c s hs hlow hhigh => ?_⟩
  · cases p <;> first | rfl | exact absurd (by decide) hp
  · cases c with
    | resetNLow => exact absurd rfl hlow
    | resetNHigh straps signal => exact absurd rfl (hhigh straps signal)
    | _ => exact take_of_low _ hs

/-! ### The encoder (R59, R60) -/

theorem runOpen_of_idle {s : State} (h : s.line.state = .idle) : runOpen s = false := by simp [runOpen, h]

theorem forwardPulse_of_ne {s : State} (h : s.track.position + 1 ≠ s.track.boundary) :
    forwardPulse s = s.setTrack { s.track with position := s.track.position + 1 } := if_neg h

theorem reversePulse_of_lt {s : State} (h : -2147483648 < s.track.position) :
    reversePulse s = s.setTrack { s.track with position := s.track.position - 1 } := by
  unfold reversePulse
  rw [if_neg (not_le.mpr h)]

theorem reversePulse_of_le {s : State} (h : s.track.position ≤ -2147483648) : reversePulse s = s := if_pos h

/-- Settles O34: each step of the two channels, in IDLE and in an open run. -/
theorem encoderPulseCounts : Obligations.EncoderPulseCounts := by
  intro s hs
  refine ⟨fun hidle => ?_, fun hopen => ⟨fun hne => ?_, fun hlt => ?_, fun hle => ?_⟩, ?_⟩
  · have hclosed := runOpen_of_idle hidle
    exact ⟨by rw [exec, execEncoderPulse, take_of_high _ hs, encoderStep, if_neg (by simp [hclosed])],
      by rw [exec, execEncoderPulse, take_of_high _ hs, encoderStep, if_neg (by simp [hclosed])]⟩
  · rw [exec, execEncoderPulse, take_of_high _ hs, encoderStep, if_pos (runOpen_iff.mpr hopen), forwardPulse_of_ne hne]
    rfl
  · rw [exec, execEncoderPulse, take_of_high _ hs, encoderStep, if_pos (runOpen_iff.mpr hopen), reversePulse_of_lt hlt]
    rfl
  · rw [exec, execEncoderPulse, take_of_high _ hs, encoderStep, if_pos (runOpen_iff.mpr hopen), reversePulse_of_le hle]
  · rw [exec, execEncoderPulse, take_of_high _ hs]
    rfl

end Sys2Proof.Machine
end

section
/-! The ring (R160 to R165, R168 to R170): O5, O6, O7, O8, O9, O10, O11 and O12. -/

namespace Sys2Proof.Machine

/-! ### The bytes of a frame (R160, R170) -/

theorem sourceByte_node (x : Node) (b : Bool) : (if b then x.setWidth 8 ||| 0x80#8 else x.setWidth 8).setWidth 6 = x := by
  cases b
  · exact (BitVec.setWidth_setWidth_of_le x (by decide)).trans (BitVec.setWidth_eq x)
  · refine (BitVec.setWidth_or ..).trans ?_
    rw [BitVec.setWidth_setWidth_of_le x (by decide), BitVec.setWidth_eq]
    exact BitVec.or_zero

theorem sourceByte_msb (x : Node) (b : Bool) : (if b then x.setWidth 8 ||| 0x80#8 else x.setWidth 8).msb = b := by
  cases b
  · revert x; decide
  · rw [if_pos rfl, BitVec.msb_or]
    exact Bool.or_true _

theorem sourceByte_unmarked (x : Node) (b : Bool) :
    (if b then x.setWidth 8 ||| 0x80#8 else x.setWidth 8) &&& 0x7F#8 = x.setWidth 8 := by
  cases b <;> revert x <;> decide

theorem ofBe_beBytes_two (v : BitVec 16) : ofBe (beBytes 2 v.toNat) = v.toNat := by
  have h := v.isLt
  simp [ofBe, beBytes]
  omega

theorem checkFrame_frameBytes {f : RingFrame} (h : f.payload.length ≤ 120) : checkFrame (frameBytes f) = some f := by
  obtain ⟨⟨dst, src, mark⟩, kind, payload⟩ := f
  have hlen : (byteOf payload.length).toNat = payload.length := by
    have : payload.length ≤ 120 := h
    exact (BitVec.toNat_ofNat ..).trans (Nat.mod_eq_of_lt (by omega))
  have htake : (payload ++ beBytes 2 (frameCrc ⟨⟨dst, src, mark⟩, kind, payload⟩).toNat).take payload.length = payload :=
    List.take_left ..
  have hdrop : (payload ++ beBytes 2 (frameCrc ⟨⟨dst, src, mark⟩, kind, payload⟩).toNat).drop payload.length =
      beBytes 2 (frameCrc ⟨⟨dst, src, mark⟩, kind, payload⟩).toNat := List.drop_left ..
  have hsize : (payload ++ beBytes 2 (frameCrc ⟨⟨dst, src, mark⟩, kind, payload⟩).toNat).length = payload.length + 2 :=
    List.length_append ..
  have hcrc : crc16 ([dst.setWidth 8, src.setWidth 8, kind, byteOf payload.length] ++ payload) =
      frameCrc ⟨⟨dst, src, mark⟩, kind, payload⟩ := rfl
  have hdst : (dst.setWidth 8).setWidth 6 = dst :=
    (BitVec.setWidth_setWidth_of_le dst (by decide)).trans (BitVec.setWidth_eq dst)
  unfold frameBytes frameBody
  simp only [List.cons_append, List.nil_append, checkFrame]
  rw [hlen, if_pos (by rw [hsize]; simp [h, Config.payloadLimit]), htake, hdrop, ofBe_beBytes_two, sourceByte_unmarked]
  rw [if_pos (by rw [← hcrc]; exact beq_self_eq_true _), sourceByte_node, sourceByte_msb, hdst]

/-- A command that leaves the state as it is while RESET_N is high leaves it as it is. -/
theorem take_of_idle {work : State → State} {s : State} (h : work s = s) : take work s = .next s := by
  rw [take, whileHigh, h, ite_self]

theorem exec_frameCheckFail_of_none {bytes : List Byte} (h : checkFrame bytes = none) (s : State) :
    exec (.frameCheckFail bytes) s = .next s :=
  take_of_idle (by rw [h])

/-- Settles O5: the check of the bytes of a frame succeeds with the frame. -/
theorem frameBytesReadBack : Obligations.FrameBytesReadBack := by
  intro f s h
  have hc := checkFrame_frameBytes h
  refine ⟨hc, ?_⟩
  simp only [exec, execFrameCheckFail, execForwardFrame, take, whileHigh, hc]

/-! ### Frames that are not for the part (R160, R161) -/

theorem checkFrame_of_short : ∀ {bytes : List Byte}, bytes.length < 4 → checkFrame bytes = none
  | [], _ => rfl
  | [_], _ => rfl
  | [_, _], _ => rfl
  | [_, _, _], _ => rfl
  | _ :: _ :: _ :: _ :: _, h => by simp only [List.length_cons] at h; omega

theorem checkFrame_of_bad {d f k n : Byte} {rest : List Byte}
    (h : 120 < n.toNat ∨ (d :: f :: k :: n :: rest).length ≠ n.toNat + 6 ∨
      (crc16 ([d, f &&& 0x7F#8, k, n] ++ rest.take n.toNat)).toNat ≠ ofBe (rest.drop n.toNat)) :
    checkFrame (d :: f :: k :: n :: rest) = none := by
  rw [checkFrame]
  split
  next hfits =>
    simp only [Bool.and_eq_true, decide_eq_true_eq, beq_iff_eq, Config.payloadLimit] at hfits
    obtain ⟨hlimit, hlen⟩ := hfits
    obtain h | h | h := h
    · omega
    · exact absurd (by simp only [List.length_cons]; omega) h
    · exact if_neg (by simpa using h)
  · rfl

theorem exec_forwardFrame {f : RingFrame} {s : State} (hs : Listening s) (hp : f.payload.length ≤ 120)
    (hsrc : f.header.src ≠ 0) : exec (.forwardFrame f) s = .next (
      if f.header.dst = 0 then
        match frameAction f s with
        | some t => forwardFrame (markedTaken f) t
        | none => forwardFrame f s
      else if f.header.dst = Config.broadcast then forwardFrame f ((frameAction f s).getD s)
      else forwardFrame f s) := by
  obtain ⟨hhigh, hlink⟩ := hs
  have hr : (!receivable f s || f.header.src == 0) = false := by
    rw [beq_eq_false_iff_ne.mpr hsrc]
    simp [receivable, hlink, hp, Config.payloadLimit]
  rw [exec, execForwardFrame, take_of_high _ hhigh, receive, if_neg hsrc, deliver, hr]
  rfl

theorem frameAction_of_management {f : RingFrame} {s : State} (h1 : 1 ≤ f.kind.toNat) (h6 : f.kind.toNat ≤ 6) :
    frameAction f s = manage f.header (managementWork f.kind f.payload) s :=
  if_pos (by simp [isManagement, h1, h6])

theorem fromSupervisor_iff {h : Header} {s : State} :
    fromSupervisor h s = true ↔ s.supervisor ≠ 0 ∧ s.supervisor ≠ Config.broadcast ∧ h.src = s.supervisor ∧ h.dst = 0 := by
  simp only [fromSupervisor, supervisorReachable, Bool.and_eq_true, bne_iff_ne, beq_iff_eq, and_assoc]

/-- Settles O6: the checks of the bytes, and the arms of the delivery. -/
theorem framesNotForThePart : Obligations.FramesNotForThePart := by
  refine ⟨fun bytes s h => exec_frameCheckFail_of_none (checkFrame_of_short h) s,
    fun d f k n rest s h => exec_frameCheckFail_of_none (checkFrame_of_bad h) s, fun f s hs hp hsrc => ⟨fun h0 h63 => ?_, fun h1 h6 hnot => ?_⟩⟩
  · rw [exec_forwardFrame hs hp hsrc, if_neg h0, if_neg h63, forwardFrame]
    congr 1
    by_cases hfull : s.ring.forward.length < 8
    · rw [if_neg (not_le.mpr hfull), if_pos hfull]
      rfl
    · rw [if_pos (not_lt.mp hfull), if_neg hfull]
  · have hmanage : frameAction f s = none := by
      rw [frameAction_of_management h1 h6, manage, if_neg]
      rw [fromSupervisor_iff]
      rintro ⟨k1, k2, k3, k4⟩
      obtain h | h | h | h := hnot
      · exact h k3
      · exact h k4
      · exact k1 h
      · exact k2 h
    rw [exec_forwardFrame hs hp hsrc, hmanage]
    simp only [Option.getD_none, ite_self]

/-! ### RING OUT (R163) -/

theorem sendNext_of_forward {s : State} {f : RingFrame} {rest : List RingFrame} (h : s.ring.forward = f :: rest) :
    sendNext s = s.setRing { s.ring with forward := rest, out := some f } := by
  rw [sendNext, h]

theorem sendNext_of_own {s : State} {o : OwnFrame} {rest : List OwnFrame} (hf : s.ring.forward = []) (h : s.ring.own = o :: rest) :
    sendNext s = s.setRing { s.ring with own := rest, out := some o.toRing } := by
  rw [sendNext, hf, h]

theorem sendNext_of_nil {s : State} (hf : s.ring.forward = []) (h : s.ring.own = []) : sendNext s = s := by
  rw [sendNext, hf, h]

/-- Settles O7: the three arms of the arbiter, and the row of each own frame. -/
theorem ringOutSendsForwardedFirst : Obligations.RingOutSendsForwardedFirst := by
  refine ⟨fun s hs => ⟨fun f rest hf => ?_, fun o rest hf ho => ?_, fun hf ho => ?_⟩, ?_, rfl, rfl, rfl, rfl⟩
  · rw [exec, execRingOutSend, take_of_high _ hs, sendNext_of_forward hf]
    rfl
  · rw [exec, execRingOutSend, take_of_high _ hs, sendNext_of_own hf ho]
    rfl
  · rw [exec, execRingOutSend, take_of_high _ hs, sendNext_of_nil hf ho]
  · refine ⟨fun tag code part content hpart => ⟨⟨rfl, ?_⟩, ⟨rfl, ?_⟩⟩, fun _ _ _ => ⟨rfl, rfl⟩, ⟨rfl, rfl⟩, ⟨rfl, rfl⟩,
      fun serial seq inc verdict => ⟨rfl, ?_⟩, ⟨rfl, rfl⟩, ⟨rfl, rfl⟩, fun n => ⟨⟨rfl, rfl⟩, ⟨rfl, rfl⟩, fun _ => ⟨rfl, rfl⟩,
        ⟨rfl, rfl⟩, ⟨rfl, rfl⟩, ⟨rfl, rfl⟩, ⟨rfl, rfl⟩, ⟨rfl, rfl⟩⟩⟩
    · rw [OwnBody.payload, Nat.mod_eq_of_lt hpart]
      rfl
    · rw [OwnBody.payload, Nat.mod_eq_of_lt hpart]
      rfl
    · rw [OwnBody.payload, beBytes_three]
      rfl

/-! ### The link (R164) -/

theorem requestStop_queues (r : StopReason) (s : State) : Queues [19, 9] s (requestStop r s) := by
  unfold requestStop
  split
  · exact Queues.trans (.of_eq rfl) (evalPermit_queues _)
  · exact .of_eq rfl

theorem Queues.own_eq {kinds : List Nat} {s t : State} (h : Queues kinds s t) : ∃ more, t.ring.own = s.ring.own ++ more := by
  obtain ⟨more, hmore, -⟩ := h
  exact ⟨more, hmore⟩

theorem loseSignal_keeps (s : State) :
    KeepsAllBut [.own, .alerts, .forward, .linkUp] s (s.setRing { s.ring with linkUp := false, forward := [] }) := by
  intro p hp
  cases p <;> first | rfl | exact absurd (by decide) hp

/-- Settles O8: the loss is an alert and a request to jam, and the return an alert. -/
theorem linkLossJamsAndReturnIsNoted : Obligations.LinkLossJamsAndReturnIsNoted := by
  refine ⟨fun s hs hup => ?_, fun s hs hdown => ?_⟩
  · intro noted
    have hline : noted.line = s.line := raiseAlert_line _ _
    have hnoted : KeepsAllBut [.own, .alerts, .forward, .linkUp] s noted :=
      raiseAlert_keeps (by decide) (loseSignal_keeps s) _
    have hstop := requestStop_keeps (List.Subset.refl stateParts) (.start _ noted) .linkDown
    have hup' : noted.ring.linkUp = false :=
      raiseAlert_keeps (List.Subset.refl _) (.start _ (s.setRing { s.ring with linkUp := false, forward := [] })) .linkDown .linkUp
        (by decide)
    have hforward : noted.ring.forward = [] :=
      raiseAlert_keeps (List.Subset.refl _) (.start _ (s.setRing { s.ring with linkUp := false, forward := [] })) .linkDown .forward
        (by decide)
    refine ⟨requestStop .linkDown noted, ?_, ?_, ?_, ?_, fun c h1 h2 => ?_, (requestStop_queues _ _).own_eq, fun hmoving => ?_,
      fun hstill => ?_, requestStop_keeps (by decide) (hnoted.more (by decide)) _⟩
    · rw [exec, execLinkLoss, take_of_high _ hs, if_pos hup]
      rfl
    · exact (hstop .linkUp (by decide)).trans hup'
    · exact (hstop .forward (by decide)).trans hforward
    · rw [requestStop_alert _ (by decide)]
      exact alertOf_raiseAlert_of_eq (d := .linkDown) rfl
    · rw [requestStop_alert _ h2]
      exact (alertOf_raiseAlert _ _ _).trans (if_neg h1)
    · exact requestStop_line_of_taken (by rw [hline]; obtain h | h | h := hmoving <;> rw [h] <;> rfl)
    · exact requestStop_of_not_taken (by rw [hline]; obtain h | h | h | h := hstill <;> rw [h] <;> rfl)
  · rw [exec, execLinkReturn, take_of_high _ hs, if_neg (by simp [hdown])]
    rfl

/-! ### Alerts (R168) -/

theorem raiseAlert_of_pending {d : AlertDetail} {s : State} (h : (alertOf d.cls s).pending = true) :
    (raiseAlert d s).ring = s.ring := by
  unfold raiseAlert
  dsimp only
  rw [if_pos h]
  rfl

theorem raiseAlert_of_not_pending {d : AlertDetail} {s : State} (h : (alertOf d.cls s).pending = false) :
    raiseAlert d s = sendSupervisor (.notice d.cls (min 255 ((alertOf d.cls s).count + 1)) d)
      (setAlert d.cls { pending := true, detail := some d, count := min 255 ((alertOf d.cls s).count + 1) } s) := by
  unfold raiseAlert
  dsimp only
  rw [if_neg (by simp [h])]

theorem supervisorReachable_iff {s : State} : supervisorReachable s = true ↔ s.supervisor ≠ 0 ∧ s.supervisor ≠ 63 := by
  simp only [supervisorReachable, Bool.and_eq_true, bne_iff_ne, Config.broadcast]

theorem sendSupervisor_of_room {body : OwnBody} {s : State} (h0 : s.supervisor ≠ 0) (h63 : s.supervisor ≠ 63)
    (hroom : s.ring.own.length < 32) : sendSupervisor body s = pushOwn s.supervisor body s := by
  rw [sendSupervisor, if_pos (supervisorReachable_iff.mpr ⟨h0, h63⟩), sendPlain,
    if_neg (by simpa [ownFull, Config.ownCapacity] using hroom)]

theorem sendSupervisor_of_none {body : OwnBody} {s : State} (h : s.supervisor = 0 ∨ s.supervisor = 63 ∨ 32 ≤ s.ring.own.length) :
    sendSupervisor body s = s := by
  unfold sendSupervisor
  split
  next hr =>
    obtain ⟨h0, h63⟩ := supervisorReachable_iff.mp hr
    obtain h | h | h := h
    · exact absurd h h0
    · exact absurd h h63
    · exact if_pos (by simpa [ownFull, Config.ownCapacity] using h)
  · rfl

/-- Settles O9: the record of the class, and the NOTICE of a class that was not pending. -/
theorem alertRaisedCountsAndNotifiesOnce : Obligations.AlertRaisedCountsAndNotifiesOnce := by
  intro d s
  have hclass : alertOf d.cls (raiseAlert d s) = _ := (alertOf_raiseAlert d d.cls s).trans (if_pos rfl)
  rw [hclass]
  refine ⟨rfl, rfl, fun hp => ⟨if_pos hp, raiseAlert_of_pending hp⟩, fun hp => ⟨if_neg (by simp [hp]), fun h0 h63 hroom => ?_,
    fun hnone => ?_⟩, fun c hc => (alertOf_raiseAlert d c s).trans (if_neg hc), raiseAlert_keeps (List.Subset.refl _) (.start _ s) d⟩
  · rw [raiseAlert_of_not_pending hp, sendSupervisor_of_room (s := setAlert _ _ s) h0 h63 hroom]
    rfl
  · rw [raiseAlert_of_not_pending hp, sendSupervisor_of_none (s := setAlert _ _ s) hnone]
    rfl

/-! ### The ANSWER (R165) -/

/-- The contents of an ANSWER's parts. -/
def answerChunks : Nat → List Byte → List (List Byte)
  | 0, content => [content]
  | fuel + 1, content =>
    if content.length ≤ 116 then [content] else content.take 116 :: answerChunks fuel (content.drop 116)

theorem answerChunks_ne_nil (fuel : Nat) (content : List Byte) : answerChunks fuel content ≠ [] := by
  cases fuel with
  | zero => exact List.cons_ne_nil _ _
  | succ fuel => unfold answerChunks; split <;> exact List.cons_ne_nil _ _

theorem answerParts_eq (tag : Byte) (code : AnswerCode) (fuel part : Nat) (content : List Byte) :
    answerParts tag code fuel part content = ((answerChunks fuel content).zipIdx part).map
      fun x => .answer tag code x.2 (x.2 + 1 == part + (answerChunks fuel content).length) x.1 := by
  induction fuel generalizing part content with
  | zero => simp [answerParts, answerChunks]
  | succ fuel ih =>
    unfold answerParts answerChunks
    by_cases h : content.length ≤ 116
    · rw [if_pos h, if_pos h]
      simp
    · rw [if_neg h, if_neg h, List.zipIdx_cons, List.map_cons, ih]
      have hne := List.length_pos_iff.mpr (answerChunks_ne_nil fuel (content.drop 116))
      congr 1
      · rw [List.length_cons]
        dsimp only [Config.answerChunk]
        rw [beq_eq_false_iff_ne.mpr (by omega)]
      · rw [List.length_cons]
        refine List.map_congr_left fun x _ => ?_
        rw [Nat.add_assoc part 1, Nat.add_comm 1]

theorem flatten_answerChunks (fuel : Nat) (content : List Byte) : (answerChunks fuel content).flatten = content := by
  induction fuel generalizing content with
  | zero => exact List.append_nil _
  | succ fuel ih =>
    unfold answerChunks
    split
    · exact List.append_nil _
    · rw [List.flatten_cons, ih, List.take_append_drop]

theorem length_of_mem_answerChunks {fuel : Nat} {content c : List Byte} (h : content.length ≤ 116 * (fuel + 1))
    (hc : c ∈ answerChunks fuel content) : c.length ≤ 116 := by
  induction fuel generalizing content with
  | zero => rw [List.mem_singleton.mp hc]; omega
  | succ fuel ih =>
    unfold answerChunks at hc
    split at hc
    next hle => rw [List.mem_singleton.mp hc]; exact hle
    · obtain rfl | hc := List.mem_cons.mp hc
      · rw [List.length_take]; omega
      · exact ih (by rw [List.length_drop]; omega) hc

theorem length_answerChunks (fuel : Nat) (content : List Byte) : (answerChunks fuel content).length ≤ fuel + 1 := by
  induction fuel generalizing content with
  | zero => exact Nat.le_refl _
  | succ fuel ih =>
    unfold answerChunks
    split
    · simp
    · rw [List.length_cons]; exact Nat.succ_le_succ (ih _)

/-- Frames to the supervisor that find room join the own-frame queue in order. -/
theorem sendSupervisors_of_room (l : List OwnBody) {s : State} (h0 : s.supervisor ≠ 0) (h63 : s.supervisor ≠ 63)
    (hroom : s.ring.own.length + l.length ≤ 32) :
    l.foldl (fun s b => sendSupervisor b s) s =
      s.setRing { s.ring with own := s.ring.own ++ l.map fun b => ⟨s.supervisor, b⟩ } := by
  induction l generalizing s with
  | nil => rw [List.map_nil, List.append_nil]; rfl
  | cons b l ih =>
    rw [List.length_cons] at hroom
    have hlen : (pushOwn s.supervisor b s).ring.own.length = s.ring.own.length + 1 := List.length_append
    rw [List.foldl_cons, sendSupervisor_of_room h0 h63 (by omega), ih (s := pushOwn s.supervisor b s) h0 h63 (by omega)]
    simp [pushOwn, State.setRing]

/-- Settles O10: the parts carry the chunks of the content. -/
theorem answerPartsCarryTheContent : Obligations.AnswerPartsCarryTheContent := by
  intro tag code content hlen
  refine ⟨answerChunks 7 content, answerChunks_ne_nil _ _, flatten_answerChunks _ _,
    fun c hc => length_of_mem_answerChunks (by omega) hc, length_answerChunks _ _, fun s h0 h63 hroom => ?_⟩
  rw [sendAnswer, answerParts_eq, sendSupervisors_of_room _ h0 h63 (by simpa using hroom)]
  simp only [List.map_map, Nat.zero_add]
  rfl

/-! ### Management requests (R165) -/

section
variable {h : Header} {kind : Byte} {payload : List Byte} {work : State → State} {s : State}

/-- A management frame of the supervisor is carried out, and goes on marked TAKEN. -/
theorem take_request (hc : Commanded h payload s) : take (request h kind payload work) s = .next (taken h kind payload (work s)) := by
  obtain ⟨⟨hhigh, hlink⟩, h0, h63, hsrc, hdst, hlen⟩ := hc
  have hr : (!receivable { header := h, kind := kind, payload := payload } s || h.src == 0) = false := by
    rw [beq_eq_false_iff_ne.mpr (hsrc ▸ h0)]
    simp [receivable, hlink, hlen]
  have hm : manage h work s = some (work s) := if_pos (fromSupervisor_iff.mpr ⟨h0, h63, hsrc, hdst⟩)
  rw [take_of_high _ hhigh, request, deliver, hr, if_neg (by decide), if_pos hdst, hm]
  rfl

/-- A request whose work is its ANSWER alone. -/
theorem take_request_answered {tag : Byte} {code : AnswerCode} {content : List Byte} {v : State} (hc : Commanded h payload s)
    (hw : work s = sendAnswer tag code content v) :
    take (request h kind payload work) s = .next (answered h kind payload tag code content v) := by
  rw [take_request hc, hw]
  rfl

end

theorem alertClassOf_code (c : AlertClass) : alertClassOf c.code = some c := by cases c <;> rfl

theorem alertClassOf_eq_none : ∀ {n : Nat}, n = 0 ∨ 8 < n → alertClassOf n = none
  | 0, _ => rfl
  | 1, h | 2, h | 3, h | 4, h | 5, h | 6, h | 7, h | 8, h => by omega
  | _ + 9, _ => rfl

/-- Settles O11: the class is found by its code, and its record is cleared. -/
theorem ackAlertClearsItsClass : Obligations.AckAlertClearsItsClass := by
  intro h tag operands s hc
  refine ⟨?_, fun hbad => ?_⟩
  · rintro b c rfl hb
    have hclass : alertClassOf (field [b] 0 1) = some c := by
      rw [field_one, byteAt, List.getElem?_cons_zero, Option.getD_some, hb, alertClassOf_code]
    refine ⟨setAlert c Alert.clear s, take_request_answered hc ?_, ?_, fun d hd => ?_, setAlert_keeps (List.Subset.refl _) (.start _ s) _ _⟩
    · rw [ackRequest, hclass]
      rfl
    · exact (alertOf_setAlert ..).trans (if_pos rfl)
    · exact (alertOf_setAlert ..).trans (if_neg hd)
  · refine take_request_answered hc ?_
    unfold ackRequest
    split
    next c hclass =>
      rw [if_neg]
      intro hlen
      obtain hne | ⟨b, rfl, hb⟩ := hbad
      · exact hne hlen
      · rw [field_one, byteAt, List.getElem?_cons_zero, Option.getD_some, alertClassOf_eq_none hb] at hclass
        exact absurd hclass (by simp)
    · rfl

/-! ### Requests that name nothing (R165) -/

theorem loadRequest_unknown {tag table : Byte} {items : List Byte} {s : State} (h : ¬(1 ≤ table.toNat ∧ table.toNat ≤ 5)) :
    loadRequest tag table items s = refuseRange tag s := by
  unfold loadRequest
  split <;> first | rfl | exact absurd ⟨by omega, by omega⟩ h

theorem querySubject_unknown {tag subject : Byte} {index : List Byte} {s : State} (h : ¬(1 ≤ subject.toNat ∧ subject.toNat ≤ 12)) :
    querySubject tag subject index s = refuseRange tag s := by
  unfold querySubject
  split <;> first | rfl | exact absurd ⟨by omega, by omega⟩ h

theorem controlRequest_unknown {tag operation : Byte} {operands : List Byte} {s : State}
    (h : ¬(1 ≤ operation.toNat ∧ operation.toNat ≤ 14)) : controlRequest tag operation operands s = refuseRange tag s := by
  unfold controlRequest
  split <;> first | rfl | exact absurd ⟨by omega, by omega⟩ h

theorem managementWork_unknown {kind tag : Byte} {rest : List Byte} (h : namesNothing kind (tag :: rest) = true) (s : State) :
    managementWork kind (tag :: rest) s = refuseRange tag s := by
  have hout {n lo hi : Nat} (h : (!(decide (lo ≤ n) && decide (n ≤ hi))) = true) : ¬(lo ≤ n ∧ n ≤ hi) := by
    rintro ⟨h1, h2⟩
    simp [h1, h2] at h
  have hkind : kind.toNat = 2 ∨ kind.toNat = 3 ∨ kind.toNat = 4 := by
    unfold namesNothing at h
    split at h
    · exact .inl ‹_›
    · exact .inl ‹_›
    · exact .inr (.inl ‹_›)
    · exact .inr (.inl ‹_›)
    · exact .inr (.inr ‹_›)
    · exact .inr (.inr ‹_›)
    · exact absurd h (by decide)
  obtain hk | hk | hk := hkind
  · obtain rfl : kind = 2 := BitVec.eq_of_toNat_eq hk
    cases rest with
    | nil => rfl
    | cons table items => exact loadRequest_unknown (hout h)
  · obtain rfl : kind = 3 := BitVec.eq_of_toNat_eq hk
    cases rest with
    | nil => rfl
    | cons subject index => exact querySubject_unknown (hout h)
  · obtain rfl : kind = 4 := BitVec.eq_of_toNat_eq hk
    cases rest with
    | nil => rfl
    | cons operation operands => exact controlRequest_unknown (hout h)

/-- Settles O12: every table of the codes ends with a refusal. -/
theorem unknownRequestIsRefused : Obligations.UnknownRequestIsRefused := by
  intro h kind tag rest s hc hn
  exact take_request_answered hc (managementWork_unknown hn s)

end Sys2Proof.Machine
end

section
/-! The queries (R167): O13 and O14. -/

namespace Sys2Proof.Machine

/-! ### Answers and refusals (R167) -/

theorem queryRequest_of_index {bound : Nat} {content : Nat → State → List Byte} {tag : Byte} {index : List Byte} {s : State}
    (hlen : index.length = 2) (hlt : field index 0 2 < bound) :
    queryRequest bound content tag index s = sendAnswer tag .ok (content (field index 0 2) s) s :=
  if_pos (by simp [hlen, hlt])

theorem queryRequest_of_bad {bound : Nat} {content : Nat → State → List Byte} {tag : Byte} {index : List Byte} {s : State}
    (h : index.length ≠ 2 ∨ bound ≤ field index 0 2) : queryRequest bound content tag index s = sendAnswer tag .range [] s :=
  if_neg (by
    rw [Bool.and_eq_true, decide_eq_true_eq, decide_eq_true_eq]
    rintro ⟨hlen, hlt⟩
    obtain h | h := h
    · exact h hlen
    · omega)

theorem answered_keeps (h : Header) (kind : Byte) (payload : List Byte) (tag : Byte) (code : AnswerCode) (content : List Byte)
    (s : State) : KeepsAllBut [.own, .forward, .alerts] s (answered h kind payload tag code content s) :=
  forwardFrame_keeps (by decide) (sendAnswer_keeps (by decide) (.start _ s) _ _ _) _

/-- A query of a subject, as the table of R167 gives its bound and its content. -/
theorem take_query {h : Header} {tag subject : Byte} {index : List Byte} {bound : State → Nat} {content : Nat → State → List Byte}
    {s : State} (hc : Commanded h (tag :: subject :: index) s) :
    let r := take (request h 3 (tag :: subject :: index) (fun s => queryRequest (bound s) content tag index s)) s
    (index.length = 2 → field index 0 2 < bound s →
      r = .next (answered h 3 (tag :: subject :: index) tag .ok (content (field index 0 2) s) s)) ∧
    (index.length ≠ 2 ∨ bound s ≤ field index 0 2 →
      r = .next (answered h 3 (tag :: subject :: index) tag .range [] s)) ∧
    ∀ t, r = .next t → KeepsAllBut [.own, .forward, .alerts] s t := by
  refine ⟨fun hlen hlt => ?_, fun h => ?_, fun t ht => ?_⟩
  · rw [take_request hc, queryRequest_of_index hlen hlt]
    rfl
  · rw [take_request hc, queryRequest_of_bad h]
    rfl
  · by_cases h : index.length = 2 ∧ field index 0 2 < bound s
    · obtain ⟨hlen, hlt⟩ := h
      rw [take_request hc, queryRequest_of_index hlen hlt] at ht
      cases ht
      exact answered_keeps _ _ _ _ _ _ _
    · rw [take_request hc, queryRequest_of_bad (by omega)] at ht
      cases ht
      exact answered_keeps _ _ _ _ _ _ _

/-- Settles O13: every query is the request of its row. -/
theorem queriesAnswerAndChangeNothing : Obligations.QueriesAnswerAndChangeNothing := by
  intro c q s hq hc
  cases c with
  | queryRun | queryQueue | queryTrack | queryPiece | queryStation | queryBin | queryGroup | queryScheme | queryStock
  | queryLog | queryReprint | queryAlerts =>
    obtain rfl := Option.some.inj hq
    exact take_query hc
  | _ => exact absurd hq (by simp [queryParts])

/-! ### Sets as numbers (R170) -/

/-- The number whose bits below `n` a test gives. -/
def bitsNat (test : Nat → Bool) (n : Nat) : Nat := (List.range n).foldl (fun a i => if test i then a + 2 ^ i else a) 0

theorem bitsNat_succ (test : Nat → Bool) (n : Nat) :
    bitsNat test (n + 1) = if test n then bitsNat test n + 2 ^ n else bitsNat test n := by
  rw [bitsNat, List.range_succ, List.foldl_append]
  rfl

theorem bitsNat_lt (test : Nat → Bool) (n : Nat) : bitsNat test n < 2 ^ n := by
  induction n with
  | zero => exact Nat.one_pos
  | succ n ih =>
    rw [bitsNat_succ, Nat.pow_succ]
    split <;> omega

theorem testBit_bitsNat (test : Nat → Bool) {n i : Nat} (hi : i < n) : (bitsNat test n).testBit i = test i := by
  induction n with
  | zero => omega
  | succ n ih =>
    have hlt := bitsNat_lt test n
    rw [bitsNat_succ]
    by_cases hin : i < n
    · split
      · rw [Nat.add_comm, Nat.testBit_two_pow_add_gt hin, ih hin]
      · exact ih hin
    · obtain rfl : i = n := by omega
      split
      next h => rw [Nat.add_comm, Nat.testBit_two_pow_add_eq, Nat.testBit_lt_two_pow hlt, h]; rfl
      next h => rw [Nat.testBit_lt_two_pow hlt]; simpa using h

theorem faultSetNat_eq (l : List FaultName) :
    faultSetNat l = bitsNat (fun i => ((FaultName.all[i]?).map l.contains).getD false) 14 := rfl

theorem testBit_faultSetNat (l : List FaultName) (f : FaultName) : (faultSetNat l).testBit (f.order - 1) = decide (f ∈ l) := by
  have hf : FaultName.all[f.order - 1]? = some f ∧ f.order - 1 < 14 := by cases f <;> decide
  rw [faultSetNat_eq, testBit_bitsNat _ hf.2, hf.1]
  exact List.contains_eq_mem f l

theorem stationSetNat_eq (l : List Nat) : stationSetNat l = bitsNat l.contains 24 := rfl

theorem testBit_stationSetNat (l : List Nat) {i : Nat} (hi : i < 24) : (stationSetNat l).testBit i = decide (i ∈ l) := by
  rw [stationSetNat_eq, testBit_bitsNat _ hi]
  exact List.contains_eq_mem i l

/-! ### The contents (R170) -/

theorem signedBytes_eq (v : Int) : signedBytes v = beBytes 4 (v % 4294967296).toNat := by
  rw [signedBytes, BitVec.toNat_ofInt]
  rfl

theorem jobBytes_of_short {r : JobRecord} {a b c d e : Nat} (h : r.dest.required = [a, b, c, d, e]) (hx : r.dest.extra = none) :
    r.bytes = beBytes 3 r.seq ++
      [byteOf (r.inc % 16 * 16 + (if r.reprint then 4 else 0) + (if r.matchRequired then 2 else 0) +
        (if r.handFinish then 1 else 0)), byteOf r.pages, byteOf r.panels, byteOf (a * 16 + b % 16), byteOf (c * 16 + d % 16)] ++
      [byteOf (e * 16), 0, 0] ++ byteOf r.selections.length :: r.selections.flatMap (fun x => [byteOf x.station, x.mode.byte]) := by
  unfold JobRecord.bytes Destination.positions
  rw [h, hx]
  rfl

theorem jobBytes_of_long {r : JobRecord} {a b c d e w x y z : Nat} (h : r.dest.required = [a, b, c, d, e])
    (hx : r.dest.extra = some [w, x, y, z]) :
    r.bytes = beBytes 3 r.seq ++
      [byteOf (r.inc % 16 * 16 + (if r.reprint then 4 else 0) + (if r.matchRequired then 2 else 0) +
        (if r.handFinish then 1 else 0)), byteOf r.pages, byteOf r.panels, byteOf (a * 16 + b % 16), byteOf (c * 16 + d % 16)] ++
      [byteOf (e * 16 + w % 16), byteOf (x * 16 + y % 16), byteOf (z * 16 + 1)] ++
      byteOf r.selections.length :: r.selections.flatMap (fun x => [byteOf x.station, x.mode.byte]) := by
  unfold JobRecord.bytes Destination.positions
  rw [h, hx]
  rfl

theorem highestPending_of_none {s : State} (h : ∀ c, (alertOf c s).pending = false) : highestPending s = none :=
  List.find?_eq_none.mpr fun c _ => by simp [h c]

theorem highestPending_of_first {s : State} {c : AlertClass} (hc : (alertOf c s).pending = true)
    (hk : ∀ k : AlertClass, k.code < c.code → (alertOf k s).pending = false) : highestPending s = some c := by
  obtain ⟨l, r, hl, hlt⟩ : ∃ l r, AlertClass.all = l ++ c :: r ∧ ∀ k ∈ l, k.code < c.code := by
    refine ⟨AlertClass.all.take (c.code - 1), AlertClass.all.drop c.code, ?_, ?_⟩ <;> cases c <;> decide
  refine List.find?_eq_some_iff_append.mpr ⟨hc, l, r, hl, fun k hm => ?_⟩
  simp [hk k (hlt k hm)]

theorem reprintContent_eq (i : Nat) (s : State) : reprintContent i s =
    beBytes 2 (s.reprints.countP fun e => e.state == .open) ++ beBytes 2 (s.reprints.countP fun e => e.state == .requested) ++
      beBytes 2 (s.reprints.countP fun e => e.state == .queued) ++ beBytes 2 (256 - s.reprints.length) ++
      match s.reprints[i]? with
      | none => [0]
      | some e => 1 :: (beBytes 3 e.seq ++ [byteOf e.inc, byteOf e.reason.code, byteOf e.state.code]) := by
  unfold reprintContent
  cases s.reprints[i]? with
  | none => rfl
  | some e => simp [presentBytes, ReprintEntry.bytes, entriesIn, reprintFree, Config.reprintCapacity]

theorem logContent_eq (s : State) : logContent s =
    beBytes 2 (logUsed s) ++ beBytes 2 (8192 - logUsed s) ++ beBytes 2 s.log.records.length ++
    (match s.log.records with
     | [] => [0]
     | r :: _ => 1 :: beBytes 2 r.serial) ++
    beBytes 2 s.log.serial ++ beBytes 2 s.log.lost ++
    (match s.log.records with
     | [] => [0]
     | r :: _ => [byteOf r.length]) ++ beBytes 2 s.log.reserve := by
  unfold logContent
  cases s.log.records <;> rfl

theorem groupContent_eq (g : Nat) (s : State) : groupContent g s =
    [byteOf (groupAt g s).chain.length] ++ (groupAt g s).chain.map byteOf ++
    [byteOf (groupAt g s).target, byteOf (groupAt g s).minimum, byteOf (groupAt g s).demote, byteOf (groupAt g s).refs] ++
    (groupAt g s).chain.flatMap fun b =>
      [byteOf (binAt b s).state.code] ++ beBytes 2 (binAt b s).committed ++ [byteOf (binAt b s).flights.length] := by
  have hchain : (groupAt g s).chain.flatMap (fun b => [byteOf b]) = (groupAt g s).chain.map byteOf := List.flatMap_pure_eq_map ..
  unfold groupContent
  simp only [listBytes, hchain, List.cons_append, List.nil_append]

theorem queueContent_eq (i : Nat) (s : State) : queueContent i s =
    [byteOf s.queue.records.length, if s.channel.held then 1 else 0, byteOf s.queue.high, byteOf s.queue.low] ++
    (match s.queue.last with
     | none => [0]
     | some n => 1 :: beBytes 3 n) ++
    (match s.queue.records[i]? with
     | none => [0]
     | some r => 1 :: r.bytes) := by
  unfold queueContent
  cases s.queue.last <;> cases s.queue.records[i]? <;> rfl

/-- A collation as QUERY RUN reports it (R41). -/
abbrev pocketBytes (c : Collation) : List Byte :=
  beBytes 3 c.job.seq ++ [byteOf c.job.inc, flagByte c.job.reprint, flagByte c.handFinish, byteOf c.sheets.length, byteOf c.next] ++
    beBytes 2 (faultSetNat c.faults)

theorem runContent_eq (s : State) : runContent s =
    [byteOf s.line.state.code, flagByte s.line.ending, byteOf (StopReason.code s.line.reason)] ++ beBytes 4 s.line.runId.toNat ++
    [flagByte s.line.locked] ++ [s.line.counters.accepted, s.line.counters.sorted, s.line.counters.handFinish,
      s.line.counters.handSort, s.line.counters.diverted, s.line.counters.cleared, s.line.counters.skipped,
      s.line.counters.aborted, s.line.counters.lost, s.line.counters.unfed].flatMap (beBytes 3) ++
    [flagByte s.line.permit, flagByte s.line.drive, if s.ring.linkUp then 1 else 2, byteOf s.queue.records.length,
      byteOf (pieceCount s)] ++
    beBytes 2 (flightTotal s) ++ beBytes 2 (256 - s.reprints.length) ++ beBytes 2 (8192 - logUsed s) ++
    (match s.collation.collecting with
     | .empty => [1]
     | .collecting c => 2 :: pocketBytes c
     | .complete c => 3 :: pocketBytes c) ++
    (match s.collation.staging with
     | none => [1]
     | some c => 2 :: pocketBytes c) ++ [byteOf s.collation.strays] := by
  unfold runContent
  cases s.collation.collecting <;> cases s.collation.staging <;> rfl

theorem optionTag_bytes : (fun x : Option Piece => optionBytes 1 (x.map Piece.tag)) = fun x => match x with
    | none => [0]
    | some p => [1, byteOf (p.serial % 256)] := by
  funext x
  cases x <;> rfl

theorem trackContent_eq (s : State) : trackContent s =
    [byteOf s.track.length] ++ beBytes 2 s.track.pulses ++ [byteOf s.sort.window] ++
    beBytes 4 (s.track.position % 4294967296).toNat ++ beBytes 4 (s.track.boundary % 4294967296).toNat ++
    [byteOf s.track.pitch, byteOf s.track.encoderErrors] ++ beBytes 2 s.track.nextSerial ++
    [byteOf (pieceCount s), byteOf s.track.slots.length] ++
    (s.track.slots.flatMap fun x => match x with
      | none => [0]
      | some p => [1, byteOf (p.serial % 256)]) ++ optionBytes 1 s.track.jamSlot := by
  unfold trackContent
  rw [optionTag_bytes, signedBytes_eq, signedBytes_eq]
  simp only [listBytes, List.append_assoc, List.cons_append, List.nil_append]

/-- A plan entry as QUERY PIECE reports it. -/
theorem planBytes_eq : (fun x : Nat × PlanEntry => x.2.bytes) = fun x => match x.2 with
    | .none => [0, 0]
    | .mandatory => [1, 0]
    | .optional k => [2, byteOf k]
    | .forced => [3, 0] := by
  funext x
  cases x.2 <;> rfl

theorem pieceBytes_eq (p : Piece) : p.bytes =
    beBytes 2 p.serial ++ [byteOf (p.serial % 256)] ++ p.job.bytes ++ beBytes 2 (faultSetNat p.collationFaults) ++
      [flagByte p.diverted] ++ beBytes 2 (faultSetNat p.faults) ++ beBytes 2 p.caliper ++ [byteOf p.plan.length] ++
      (p.plan.flatMap fun x => x.2.bytes) ++
      beBytes 3 (stationSetNat p.dropped) ++ beBytes 3 (stationSetNat p.withheld) ++ beBytes 3 (stationSetNat p.missed) ++
      beBytes 3 (stationSetNat p.fed) ++ [flagByte p.saturated] ++ optionBytes 2 p.scheme.entry ++ [byteOf p.scheme.group] ++
      keyBytes p.scheme.key ++ [byteOf p.scheme.level, byteOf p.windows.length] ++
      (p.windows.flatMap fun w => [byteOf w.station, byteOf w.closing]) ++ p.output.bytes ++ [byteOf p.verification.code] := by
  unfold Piece.bytes SchemeMatch.bytes
  simp only [listBytes, List.append_assoc, List.cons_append, List.nil_append]
  rfl

theorem binContent_eq (b : Nat) (s : State) : binContent b s =
    optionBytes 1 (binAt b s).node ++ optionBytes 2 (binAt b s).capacity ++ [byteOf (binAt b s).state.code] ++
    beBytes 2 (binAt b s).landed ++ beBytes 2 (binAt b s).committed ++ beBytes 2 (binAt b s).trayBundles ++
    presentBytes keyBytes (binAt b s).previousKey ++ [byteOf (binAt b s).flights.length] ++
    (binAt b s).flights.flatMap Flight.bytes ++ presentBytes Bundle.bytes (binAt b s).bundle ++ optionBytes 1 (groupOfBin b s) := by
  unfold binContent
  simp only [listBytes, List.append_assoc, List.cons_append, List.nil_append]

/-- Settles O14: the content of each query, spelled out. -/
theorem queryContentsFollowTheirRules : Obligations.QueryContentsFollowTheirRules := by
  unfold Obligations.QueryContentsFollowTheirRules
  intro flag opt
  refine ⟨fun v => ⟨beBytes_two v, beBytes_three v, beBytes_four v⟩,
    fun l => ⟨by rw [faultSetNat_eq]; exact bitsNat_lt _ 14, testBit_faultSetNat l⟩,
    fun l => ⟨by rw [stationSetNat_eq]; exact bitsNat_lt _ 24, fun i hi => testBit_stationSetNat l hi⟩,
    ⟨rfl, rfl, fun _ => rfl, rfl, rfl, rfl, rfl, rfl, rfl, rfl, rfl, rfl, rfl⟩, fun k => rfl,
    fun r a b c d e h => ⟨fun hx => ?_, fun w x y z hx => ?_⟩, ?_, ?_, ?_, ?_, ?_, ?_, ?_, ?_, ?_, ?_, ?_, ?_, ?_⟩
  · exact jobBytes_of_short h hx
  · exact jobBytes_of_long h hx
  · exact logContent_eq
  · exact fun i s => ⟨_, rfl, by simp only [stockContent, listBytes, List.append_assoc, List.cons_append, List.nil_append]⟩
  · exact fun g s => ⟨_, rfl, groupContent_eq g s⟩
  · exact queueContent_eq
  · exact runContent_eq
  · exact trackContent_eq
  · intro i s
    cases pieceAt i s with
    | none => rfl
    | some p =>
      refine congrArg (1 :: ·) ((pieceBytes_eq p).trans ?_)
      rw [planBytes_eq]
      cases p.output <;> rfl
  · intro i s
    cases stationAt i s <;> rfl
  · refine fun b s => ⟨_, rfl, (binContent_eq b s).trans ?_⟩
    cases (binAt b s).previousKey <;> cases (binAt b s).bundle <;> rfl
  · rintro i s x p q r t u v w y z rfl hp
    unfold schemeContent SchemeEntry.bytes SchemeEntry.specificity
    rw [hp]
    rfl
  · exact fun i s => reprintContent_eq i s
  · refine fun s => ⟨fun h => ?_, fun c d hc hd hk => ?_⟩
    · unfold alertsContent
      rw [highestPending_of_none h]
      rfl
    · unfold alertsContent
      rw [highestPending_of_first hc hk]
      dsimp only
      rw [hd]
      rfl
  · exact fun a b c d e f => ⟨rfl, rfl, rfl, by simp [AlertDetail.bytes, beBytes, byteOf], rfl, rfl, rfl, rfl, rfl, rfl, rfl, rfl,
      fun _ => rfl, rfl⟩

end Sys2Proof.Machine
end

section
/-! The run state and the feed permit: what a move of the run state queues and touches, and the requests and stops that only
move the line (R147 to R152, R157). -/

namespace Sys2Proof.Machine

/-! ### Requests without operands (R147, R165) -/

section
variable {takes : Bool} {work : State → State} {tag : Byte} {operands : List Byte} {s : State}

theorem plainRequest_of_taken (h : takes = true) : plainRequest takes work tag [] s = sendAnswer tag .ok [] (work s) := by
  rw [plainRequest, if_pos h]
  rfl

theorem plainRequest_of_operands (h : takes = true) (hne : operands ≠ []) :
    plainRequest takes work tag operands s = sendAnswer tag .range [] s := by
  rw [plainRequest, if_pos h, if_neg (by simpa using hne)]

theorem plainRequest_of_refused (h : takes = false) : plainRequest takes work tag operands s = sendAnswer tag .state [] s := by
  rw [plainRequest, if_neg (by simp [h])]

end

/-! ### The stations across steps (R73) -/

/-- Steps that leave stations and alerts alone. -/
theorem StationsKept.of_keeps {l : List Part} {room : Prop} {s t : State} (h : KeepsAllBut l s t) (hs : Part.stations ∉ l)
    (ha : Part.alerts ∉ l) : StationsKept id room s t :=
  have halerts : t.channel.alerts = s.channel.alerts := h .alerts ha
  .of_eq (by simp only [alertOf, halerts]) (h .stations hs)

theorem AlertsKeptBut.of_keeps {l : List Part} {c : List AlertClass} {s t : State} (h : KeepsAllBut l s t)
    (ha : Part.alerts ∉ l) : AlertsKeptBut c s t := .of_alerts_eq (h .alerts ha)

theorem StationsKept.mono {p r : Prop} {s t : State} (h : StationsKept id p s t) (hr : r → p) : StationsKept id r s t :=
  h.trans (q := True) (.of_eq rfl rfl) hr fun _ => trivial

/-- With room every station stands as before. -/
theorem StationsKept.stationAt_eq {room : Prop} {s t : State} (h : StationsKept id room s t) (hr : room) (i : Nat) :
    stationAt i t = stationAt i s := by
  obtain ⟨-, hs⟩ | ⟨hn, -⟩ := h
  · rw [hs i, Option.map_id, id]
  · exact absurd hr hn

theorem stationOfKind_congr {s t : State} (h : ∀ i, stationAt i t = stationAt i s) (k : StationKind) :
    stationOfKind k t = stationOfKind k s := by
  simp only [stationOfKind, stationsWhere, h]

/-! ### The permit's frame (R157) -/

/-- With room, a re-evaluation queues FEED_PERMIT to the SHEET_FEEDER exactly when the permit changes. -/
theorem evalPermit_own {s : State} {i : Nat} {e : StationEntry} (he : stationOfKind .sheetFeeder s = some (i, e))
    (hroom : s.ring.own.length < 32) : (evalPermit s).ring.own = s.ring.own ++
      if permitConditions s = s.line.permit then [] else [⟨e.dst, .feedPermit (permitConditions s)⟩] := by
  by_cases h : permitConditions s = s.line.permit
  · rw [evalPermit_of_eq h, if_pos h, List.append_nil]
  · rw [evalPermit_of_ne h, he, if_neg h]
    exact congrArg (·.ring.own) (sendStation_of_room (s := permitHeld s) hroom _ _)

/-- The line with its state moved, before the permit is looked at. -/
def stateMoved (st : RunState) (reason : Option StopReason) (s : State) : State :=
  s.setLine { s.line with state := st, reason := reason, drive := st.drives }

theorem enterState_eq (st : RunState) (reason : Option StopReason) (s : State) :
    enterState st reason s = evalPermit (stateMoved st reason s) := rfl

theorem stateMoved_keeps (st : RunState) (reason : Option StopReason) (s : State) :
    KeepsAllBut [.runState, .reason, .drive] s (stateMoved st reason s) := by
  intro p hp
  cases p <;> first | rfl | exact absurd (by decide) hp

theorem enterState_stations {st : RunState} {reason : Option StopReason} {s : State} {room : Prop}
    (hr : room → s.ring.own.length < 32) : StationsKept id room s (enterState st reason s) :=
  (StationsKept.of_keeps (room := True) (stateMoved_keeps st reason s) (by decide) (by decide)).trans
    (evalPermit_stations (s := stateMoved st reason s) hr) (fun _ => trivial) id

theorem enterState_alerts (st : RunState) (reason : Option StopReason) (s : State) {c : AlertClass} (hc : c ≠ .station) :
    alertOf c (enterState st reason s) = alertOf c s := evalPermit_alert hc (stateMoved st reason s)

theorem enterState_queues (st : RunState) (reason : Option StopReason) (s : State) :
    Queues [19, 9] s (enterState st reason s) :=
  Queues.trans (.of_eq rfl) (evalPermit_queues (stateMoved st reason s))

/-- Leaving RUNNING the permit falls, and the SHEET_FEEDER is told when it was on. -/
theorem enterState_own {st : RunState} {reason : Option StopReason} {s : State} {i : Nat} {e : StationEntry}
    (hst : st ≠ .running) (he : stationOfKind .sheetFeeder s = some (i, e)) (hroom : s.ring.own.length < 32) :
    (enterState st reason s).ring.own = s.ring.own ++ if s.line.permit then [⟨e.dst, .feedPermit false⟩] else [] := by
  have hc : permitConditions (stateMoved st reason s) = false := permitConditions_of_ne_running hst
  have h := evalPermit_own (s := stateMoved st reason s) he hroom
  rw [enterState_eq, h, hc]
  refine congrArg (s.ring.own ++ ·) ?_
  show (if false = s.line.permit then _ else _) = _
  cases s.line.permit <;> rfl

theorem enterState_permit_of_ne_running {st : RunState} (reason : Option StopReason) (s : State) (hst : st ≠ .running) :
    (enterState st reason s).line.permit = false := by
  obtain ⟨hs, -, -, hp⟩ := enterState_line st reason s
  rw [hp]
  exact permitConditions_of_ne_running (by rw [hs]; exact hst)

/-! ### Stops asked for by a block (R150) -/

theorem StopReason.target_eq (r : StopReason) :
    r.target = if r = .occupancy ∨ r = .accumulatorOverrun ∨ r = .linkDown then .jammed else .paused := by
  cases r <;> rfl

theorem StopReason.target_ne_running (r : StopReason) : r.target ≠ .running := by cases r <;> decide

theorem requestStop_of_taken {r : StopReason} {s : State} (h : r.takenIn s.line.state = true) :
    requestStop r s = enterState r.target (some r) s := if_pos h

/-- Settles O29: the stop is taken or not by the table, and a taken one is a move of the run state out of RUNNING. -/
theorem stopRequestsFollowTheTable : Obligations.StopRequestsFollowTheTable := by
  intro r s
  refine ⟨fun h => ?_, fun h => ?_⟩
  · have ht : r.takenIn s.line.state = true := by
      obtain h | ⟨h, hr⟩ | ⟨h, hr⟩ := h <;> rw [h]
      · cases r <;> rfl
      · obtain rfl | rfl | rfl | rfl | rfl := hr <;> rfl
      · obtain rfl | rfl | rfl := hr <;> rfl
    obtain ⟨hstate, hreason, hdrive, hpermit⟩ := requestStop_line_of_taken ht
    refine ⟨hstate.trans r.target_eq, hreason, hdrive, hpermit, ?_⟩
    rw [requestStop_of_taken ht]
    exact ⟨fun i e he hroom => enterState_own r.target_ne_running he hroom, enterState_stations id,
      enterState_alertsKept _ _ _, enterState_keeps (List.Subset.refl _) (.start _ s) _ _⟩
  · refine requestStop_of_not_taken ?_
    obtain h | h | h | h | ⟨h, hr⟩ := h <;> rw [h]
    · cases r <;> rfl
    · cases r <;> rfl
    · cases r <;> rfl
    · cases r <;> rfl
    · obtain rfl | rfl | rfl | rfl := hr <;> rfl

/-! ### The drain completion (R152) -/

theorem completeDrain_reason (s : State) : (completeDrain s).line.reason = none := by
  rw [completeDrain_eq, finishDrain, raiseAlert_line]
  exact (enterState_line .closed none _).2.1

theorem completeDrain_permit (s : State) : (completeDrain s).line.permit = false := by
  rw [completeDrain_eq, finishDrain, raiseAlert_line]
  exact enterState_permit_of_ne_running _ _ (by decide)

theorem completeDrain_counters (s : State) : (completeDrain s).line.counters = s.line.counters :=
  (completeDrain_keeps (List.Subset.refl _) (.start _ s)).counters_eq (by decide)

/-- Settles O30: the event is the drain check, which completes a DRAINING line with nothing held but its queue. -/
theorem drainCompleteClosesTheRun : Obligations.DrainCompleteClosesTheRun := by
  intro s hhigh
  have hexec : exec .drainComplete s = .next (drainCheck s) := take_of_high drainCheck hhigh
  refine ⟨fun hs hheld => ?_, fun hs hheld => ?_, fun hs => ?_⟩
  · have hdone : Completes s := ⟨hs, drained_iff_recordsHeld.mpr hheld⟩
    rw [drainCheck_of_completes hdone] at hexec
    obtain ⟨hstate, hdrive⟩ := completeDrain_line (s := s)
    refine ⟨completeDrain s, hexec, hstate, completeDrain_reason s, hdrive, completeDrain_permit s, binAt_completeDrain s,
      completeDrain_runAlert s, completeDrain_alertsKept s, ?_, completeDrain_took s,
      completeDrain_keeps (by decide) (.start _ s)⟩
    refine (completeDrain_stations (by rw [hs]; decide)).mono fun hroom hp => ?_
    split <;> omega
  · rw [hexec, drainCheck_of_not_completes fun h => hheld (drained_iff_recordsHeld.mp h.2)]
  · rw [hexec, drainCheck_of_not_completes fun h => hs h.1]

/-! ### START and PAUSE (R148) -/

/-- Outside RUNNING a write request leaves a permit that is off alone. -/
theorem writeLog_permit_of_off {b : LogBody} {s : State} (hs : s.line.state ≠ .running) (hp : s.line.permit = false) :
    (writeLog b s).line.permit = false := by
  have hraise : ∀ d t, (raiseAlert d t).line = t.line := raiseAlert_line
  have heval : ∀ t : State, t.line = s.line → (evalPermit t).line.permit = false := fun t ht => by
    have hst : t.line.state ≠ .running := ht ▸ hs
    rw [evalPermit_of_eq ((permitConditions_of_ne_running hst).trans (ht ▸ hp).symm), ht, hp]
  unfold writeLog
  split
  · split
    · exact heval _ rfl
    · rw [hraise]
      exact hp
  · split
    · exact heval _ rfl
    · exact hp

/-- Settles O22: START asks for its record and enters RUNNING, PAUSE enters PAUSED. -/
theorem startAndPauseMoveTheLine : Obligations.StartAndPauseMoveTheLine := by
  intro h tag operands s
  refine ⟨fun hc => ⟨?_, fun hs => ?_, fun hne hs => ?_⟩, fun hc => ⟨?_, fun hr hd => ?_, fun hne hs => ?_⟩⟩
  · rintro rfl hs
    have hw := writeLog_wrote (.run .start s.line.runId none) s
    obtain ⟨hstate, hreason, hdrive, hpermit⟩ := enterState_line .running none (writeLog (.run .start s.line.runId none) s)
    have hgrow := hw.grows.length_le
    refine ⟨startRun s, take_request_answered hc (plainRequest_of_taken (by simp [hs])), hstate, hreason, hdrive, hpermit, ?_,
      ?_, ?_, ?_, ?_⟩
    · have took := LogTookAll.one.mp hw.took
      refine took.of_log_eq rfl ?_ rfl (enterState_alerts _ _ _ (by decide))
      exact (enterState_keeps (List.Subset.refl stateParts) (.start _ _) _ _).log_eq (by decide) (by decide) (by decide)
        (by decide)
    · intro i e he hroom hoff hon
      have hfeeder : stationOfKind .sheetFeeder (writeLog (.run .start s.line.runId none) s) = some (i, e) :=
        (stationOfKind_congr (hw.stations.stationAt_eq (.inl (by omega))) _).trans he
      have hoff' := writeLog_permit_of_off (b := .run .start s.line.runId none) (s := s) (by rw [hs]; decide) hoff
      obtain ⟨before, hbefore⟩ := hw.queues.own_eq
      refine ⟨before, ?_⟩
      have hown := evalPermit_own (s := stateMoved .running none (writeLog (.run .start s.line.runId none) s)) hfeeder
        (show (writeLog (.run .start s.line.runId none) s).ring.own.length < 32 by omega)
      have hcond : permitConditions (stateMoved .running none (writeLog (.run .start s.line.runId none) s)) = true :=
        (permitConditions_evalPermit _).symm.trans (hpermit.symm.trans hon)
      rw [hcond, if_neg (fun h => absurd (h.trans hoff') (by decide))] at hown
      exact hown.trans (congrArg (· ++ _) hbefore)
    · refine hw.stations.trans (enterState_stations (room := s.ring.own.length + 2 ≤ 32) fun _ => by omega) (fun hr => .inl ?_) id
      omega
    · exact hw.alerts.trans ((enterState_alertsKept _ _ _).more (by decide))
    · exact enterState_keeps (by decide) (writeLog_keeps (by decide) (.start _ s) _) _ _
  · exact take_request_answered hc (plainRequest_of_refused (by simpa using hs))
  · exact take_request_answered hc (plainRequest_of_operands (by simp [hs]) hne)
  · rintro rfl hs
    obtain ⟨hstate, hreason, hdrive, -⟩ := enterState_line .paused (some .operator) s
    refine ⟨enterState .paused (some .operator) s, take_request_answered hc (plainRequest_of_taken ?_), hstate, hreason,
      hdrive, enterState_permit_of_ne_running _ _ (by decide), fun i e he hroom => enterState_own (by decide) he hroom,
      enterState_stations id, enterState_alertsKept _ _ _, enterState_keeps (List.Subset.refl _) (.start _ s) _ _⟩
    obtain hs | hs := hs <;> simp [hs]
  · exact take_request_answered hc (plainRequest_of_refused (by simp [hr, hd]))
  · refine take_request_answered hc (plainRequest_of_operands ?_ hne)
    obtain hs | hs := hs <;> simp [hs]

/-! ### RESUME (R149) -/

theorem resumeRun_of_running {s : State} (h : s.line.ending = false) : resumeRun s = enterState .running none s := by
  rw [resumeRun, if_neg (by simp [h])]

theorem resumeRun_of_draining {s : State} (h : s.line.ending = true) : resumeRun s = drainCheck (enterState .draining none s) :=
  if_pos h

/-- What is on the line does not depend on its state. -/
theorem drained_enterState (st : RunState) (reason : Option StopReason) (s : State) :
    drained (enterState st reason s) = drained s := by
  have hk := enterState_keeps (List.Subset.refl stateParts) (.start _ s) st reason
  rw [Bool.eq_iff_iff, drained_iff, drained_iff, (hk .collecting (by decide) : _ = s.collation.collecting),
    (hk .staging (by decide) : _ = s.collation.staging), (hk .slots (by decide) : _ = s.track.slots)]
  simp only [binAt, hk.bins_eq (by decide)]

/-- Settles O23: RESUME enters RUNNING, or DRAINING with the drain check made at once. -/
theorem resumeContinuesTheRun : Obligations.ResumeContinuesTheRun := by
  intro h tag operands s hc
  have hlink : s.ring.linkUp = true := hc.1.2
  refine ⟨?_, fun hp hj => ?_, fun hne hs => ?_⟩
  · rintro rfl hs
    refine ⟨resumeRun s, take_request_answered hc (plainRequest_of_taken ?_), ?_⟩
    · obtain hs | hs := hs <;> simp [hs, hlink]
    cases hend : s.line.ending with
    | false =>
      rw [resumeRun_of_running hend]
      obtain ⟨hstate, hreason, hdrive, hpermit⟩ := enterState_line .running none s
      exact ⟨hreason, hpermit, enterState_stations id,
        fun _ => ⟨hstate, hdrive, enterState_alertsKept _ _ _, enterState_keeps (List.Subset.refl _) (.start _ s) _ _⟩,
        nofun, nofun⟩
    | true =>
      rw [resumeRun_of_draining hend]
      obtain ⟨hstate, hreason, hdrive, hpermit⟩ := enterState_line .draining none s
      have hoff := enterState_permit_of_ne_running (st := .draining) none s (by decide)
      have hkeeps := enterState_keeps (List.Subset.refl stateParts) (.start _ s) .draining none
      have hstations : StationsKept id (s.ring.own.length < 32) s (enterState .draining none s) := enterState_stations id
      by_cases hheld : recordsHeld s = s.queue.records.length
      · have hdone : Completes (enterState .draining none s) :=
          ⟨hstate, (drained_enterState ..).trans (drained_iff_recordsHeld.mpr hheld)⟩
        rw [drainCheck_of_completes hdone]
        obtain ⟨hclosed, hstopped⟩ := completeDrain_line (s := enterState .draining none s)
        have hbins : ∀ c, binAt c (enterState .draining none s) = binAt c s := binAt_eq_of_keeps hkeeps (by decide)
        refine ⟨completeDrain_reason _, ?_, ?_, nofun, fun _ hne => absurd hheld hne, fun _ _ =>
          ⟨hclosed, hstopped, fun b => by rw [binAt_completeDrain, hbins], ?_, ?_, ?_, ?_⟩⟩
        · rw [completeDrain_permit, permitConditions_of_ne_running (by rw [hclosed]; decide)]
        · refine hstations.trans (completeDrain_stations (by rw [hstate]; decide)) id fun _ hon => ?_
          rw [hoff] at hon
          cases hon
        · exact (completeDrain_runAlert _).trans (alertOf_raiseAlert_of_eq (d := .drainComplete)
            (enterState_alerts _ _ _ (by decide)))
        · exact ((enterState_alertsKept _ _ _).more (by decide)).trans (completeDrain_alertsKept _)
        · have took : LogTookAll [] s (enterState .draining none s) :=
            ⟨hkeeps.log_eq (by decide) (by decide) (by decide) (by decide), enterState_alerts _ _ _ (by decide)⟩
          have hall := completeDrain_took_of hkeeps (by decide) (by decide) took fun c => by rw [hbins]
          rwa [completeDrain_counters, hkeeps.counters_eq (by decide)] at hall
        · exact completeDrain_keeps (by decide) (hkeeps.more (by decide))
      · rw [drainCheck_of_not_completes fun hdone =>
          hheld (drained_iff_recordsHeld.mp ((drained_enterState ..).symm.trans hdone.2))]
        exact ⟨hreason, hpermit, hstations, nofun, fun _ _ => ⟨hstate, hdrive, hoff, enterState_alertsKept _ _ _, hkeeps⟩,
          fun _ he => absurd he hheld⟩
  · exact take_request_answered hc (plainRequest_of_refused (by simp [hp, hj]))
  · refine take_request_answered hc (plainRequest_of_operands ?_ hne)
    obtain hs | hs := hs <;> simp [hs, hlink]

/-! ### CLOSE_RUN (R154) -/

/-- Settles O26: the run is freed, and IDLE entered. -/
theorem closeRunFreesThePart : Obligations.CloseRunFreesThePart := by
  intro h tag operands s hc
  refine ⟨?_, fun hs => ?_, fun hne hs => ?_⟩
  · rintro rfl hs
    have hfreed := freedRun_keeps s
    have hk := enterState_keeps (List.Subset.refl stateParts) (.start _ (freedRun s)) .idle none
    obtain ⟨hstate, hreason, hdrive, -⟩ := enterState_line .idle none (freedRun s)
    refine ⟨closeRun s, take_request_answered hc (plainRequest_of_taken (by simp [hs])), hstate, hreason,
      hk .ending (by decide), hk .runId (by decide), hk .locked (by decide), hk .counters (by decide), hdrive,
      enterState_permit_of_ne_running _ _ (by decide), hk .reprints (by decide), hk .last (by decide), ?_, ?_, ?_⟩
    · exact (StationsKept.of_keeps (room := True) hfreed (by decide) (by decide)).trans (enterState_stations id)
        (fun _ => trivial) id
    · exact (AlertsKeptBut.of_keeps hfreed (by decide)).trans (enterState_alertsKept _ _ _)
    · exact enterState_keeps (by decide) (hfreed.more (by decide)) _ _
  · exact take_request_answered hc (plainRequest_of_refused (by simpa using hs))
  · exact take_request_answered hc (plainRequest_of_operands (by simp [hs]) hne)

end Sys2Proof.Machine
end

section
/-! OPEN_RUN and RESET_LINE: the tables that they empty and the station table with its late counts cleared (R18, R70, R155). -/

namespace Sys2Proof.Machine

/-! ### The late counts cleared (R70, R74) -/

theorem stationAt_clearLate (i : Nat) (s : State) :
    stationAt i (clearLate s) = (stationAt i s).map fun e => { e with late := 0 } := by
  simp only [stationAt, clearLate, State.setTrack_track, Vector.getElem?_map]
  cases s.track.stations[i]? <;> rfl

theorem stationsWhere_clearLate {test : StationEntry → Bool} (htest : ∀ e : StationEntry, test { e with late := 0 } = test e)
    (s : State) : stationsWhere test (clearLate s) = (stationsWhere test s).map fun x => (x.1, { x.2 with late := 0 }) :=
  stationsWhere_of_map (change := fun _ e => { e with late := 0 }) (fun _ => htest) fun i => stationAt_clearLate i s

theorem stationOfKind_clearLate (k : StationKind) (s : State) :
    stationOfKind k (clearLate s) = (stationOfKind k s).map fun x => (x.1, { x.2 with late := 0 }) := by
  rw [stationOfKind, stationsWhere_clearLate fun e => rfl, List.head?_map, ← stationOfKind]

theorem stationOfNode_clearLate (n : Nat) (s : State) :
    stationOfNode n (clearLate s) = (stationOfNode n s).map fun x => (x.1, { x.2 with late := 0 }) := by
  rw [stationOfNode, stationsWhere_clearLate fun e => rfl, List.head?_map, ← stationOfNode]

/-- What follows the clearing of the late counts. -/
theorem StationsKept.of_clearLate {room : Prop} {s v : State} (h : StationsKept id room (clearLate s) v) :
    StationsKept (fun e => { e with late := 0 }) room s v := by
  obtain ⟨ha, hs⟩ | ⟨hroom, j, f, k, e, hf, he, hst, ha, hs⟩ := h
  · exact .inl ⟨ha, fun i => by rw [hs i, Option.map_id, id, stationAt_clearLate]⟩
  · rw [stationOfKind_clearLate, Option.map_eq_some_iff] at hf
    obtain ⟨⟨j, feeder⟩, hf, hfe⟩ := hf
    obtain ⟨rfl, rfl⟩ := Prod.mk.inj hfe
    rw [stationOfNode_clearLate, Option.map_eq_some_iff] at he
    obtain ⟨⟨k, entry⟩, he, hee⟩ := he
    obtain ⟨rfl, rfl⟩ := Prod.mk.inj hee
    have ha' := ha.trans (alertOf_raiseAlert_of_eq (d := .stationStatus k .absent) (t := Machine.clearLate s) (s := s) rfl)
    refine .inr ⟨hroom, j, feeder, k, entry, hf, he, hst, ha', fun i => ?_⟩
    rw [hs i, Option.map_id, id, stationAt_clearLate]
    rfl

/-- The late counts may be cleared on both sides of a step. -/
theorem StationsKept.clearLate {room : Prop} {s t : State} (h : StationsKept id room s t) :
    StationsKept id room (clearLate s) (clearLate t) := by
  obtain ⟨ha, hs⟩ | ⟨hroom, j, f, k, e, hf, he, hst, ha, hs⟩ := h
  · exact .inl ⟨ha, fun i => by simp only [stationAt_clearLate, hs i, Option.map_id, id]⟩
  · refine .inr ⟨hroom, j, { f with late := 0 }, k, { e with late := 0 }, ?_, ?_, hst, ?_, fun i => ?_⟩
    · rw [stationOfKind_clearLate, hf]
      rfl
    · rw [stationOfNode_clearLate]
      exact congrArg (Option.map _) he
    · exact ha.trans (alertOf_raiseAlert_of_eq (d := .stationStatus k .absent) (s := Machine.clearLate s) rfl)
    · rw [stationAt_clearLate, hs i, stationAt_clearLate]
      split
      · rfl
      · simp only [Option.map_id, id]

/-! ### OPEN_RUN (R18) -/

theorem writeLog_stations_of_off {b : LogBody} {s : State} {room : Prop} (hs : s.line.state ≠ .running)
    (hp : s.line.permit = false) : StationsKept id room s (writeLog b s) :=
  (writeLog_wrote b s).stations.mono fun _ => .inr ⟨hs, fun hon => by rw [hp] at hon; cases hon⟩

/-- The number of OPEN_RUN's four operand bytes. -/
theorem field_word (a b c d : Byte) : (BitVec.ofNat 32 (field [a, b, c, d] 0 4) : Word) = a ++ b ++ c ++ d := by
  refine BitVec.eq_of_toNat_eq ?_
  have h : field [a, b, c, d] 0 4 = ((a.toNat * 256 + b.toNat) * 256 + c.toNat) * 256 + d.toNat := by
    simp [field, ofBe]
  rw [h]
  simp only [BitVec.toNat_ofNat, BitVec.toNat_append]
  have ha := a.isLt
  have hb := b.isLt
  have hc := c.isLt
  have hd := d.isLt
  rw [← Nat.shiftLeft_add_eq_or_of_lt hb, ← Nat.shiftLeft_add_eq_or_of_lt hc, ← Nat.shiftLeft_add_eq_or_of_lt hd]
  simp only [Nat.shiftLeft_eq]
  omega

theorem openRun_took (id : Word) (s : State) : LogTook (.run .open id none) s (openRun id s) := by
  have hopened := openedRun_keeps id s
  have hready := enterState_keeps (List.Subset.refl stateParts) (.start _ (openedRun id s)) .ready none
  have hlog : (enterState .ready none (openedRun id s)).log = s.log :=
    (hready.log_eq (by decide) (by decide) (by decide) (by decide)).trans
      (hopened.log_eq (by decide) (by decide) (by decide) (by decide))
  have halert : alertOf .reserve (enterState .ready none (openedRun id s)) = alertOf .reserve s :=
    (enterState_alerts .ready none (openedRun id s) (by decide)).trans
      (AlertsKeptBut.of_keeps (c := []) hopened (by decide) .reserve (by decide))
  exact (writeLog_took (.run .open id none) (enterState .ready none (openedRun id s))).of_log_eq hlog.symm rfl halert.symm rfl

/-- Settles O21: the run is opened on empty tables, READY is entered and its record asked for. -/
theorem openRunReachesReady : Obligations.OpenRunReachesReady := by
  intro h tag operands s hc
  refine ⟨?_, fun hlen hlock => ?_, fun hlock => ?_⟩
  · rintro b3 b2 b1 b0 rfl hlock
    rw [← field_word b3 b2 b1 b0]
    generalize hid : (BitVec.ofNat 32 (field [b3, b2, b1, b0] 0 4) : Word) = name
    have hopened := openedRun_keeps name s
    have hk := openRun_keeps' name s
    have hoff := enterState_permit_of_ne_running (st := .ready) none (openedRun name s) (by decide)
    obtain ⟨hstate, hreason, hdrive, -⟩ := enterState_line .ready none (openedRun name s)
    have hne : (enterState .ready none (openedRun name s)).line.state ≠ .running := by rw [hstate]; decide
    have hw := writeLog_keeps (List.Subset.refl writeParts) (.start _ (enterState .ready none (openedRun name s)))
      (.run .open name none)
    refine ⟨openRun name s, take_request_answered hc ?_, openRun_state name s, (hw .reason (by decide)).trans hreason,
      hk .locked (by decide), hk .runId (by decide), (hw .drive (by decide)).trans hdrive,
      writeLog_permit_of_off hne hoff, hk .counters (by decide), hk .last (by decide),
      hk .collecting (by decide), hk .staging (by decide), hk .strays (by decide), fun i => ?_, hk .slots (by decide),
      hk .position (by decide), hk .boundary (by decide), hk .pitch (by decide), hk .encoderErrors (by decide),
      hk .nextSerial (by decide), hk .jamSlot (by decide), ?_, ?_, ?_, ?_⟩
    · rw [openRunRequest, if_neg (by simp [hlock])]
      exact (if_pos rfl).trans (by rw [hid])
    · have hstocks : (openRun name s).caliper.stocks = (emptyRings s).caliper.stocks := hk .stocks (by decide)
      have hstock : stockAt i (openRun name s) = stockAt i (emptyRings s) := by simp only [stockAt, hstocks]
      exact hstock.trans (stockAt_emptyRings i s)
    · refine StationsKept.of_clearLate ?_
      have hstart : StationsKept id True (clearLate s) (openedRun name s) := .of_eq rfl rfl
      refine (hstart.trans (enterState_stations id) (fun _ => trivial) id).trans
        (writeLog_stations_of_off (room := True) hne hoff) id fun _ => trivial
    · refine ((AlertsKeptBut.of_keeps hopened (by decide)).trans
        ((enterState_alertsKept _ _ _).more (by decide))).trans (writeLog_wrote _ _).alerts
    · exact openRun_took name s
    · exact openRun_keeps (by decide) (.start _ s) name
  · refine take_request_answered hc ?_
    rw [openRunRequest, if_neg (by simp [hlock]), if_neg hlen]
  · exact take_request_answered hc (if_pos hlock)

/-! ### RESET_LINE (R155) -/

theorem resetQueue_last (s : State) : (resetQueue s).queue.last = none := by
  unfold resetQueue
  dsimp only
  split
  · exact (releaseFlow_keeps (l := [.own, .held]) (by decide) (.start _ _) .last (by decide)).trans rfl
  · rfl

theorem releaseFlow_held (s : State) : (releaseFlow s).channel.held = false :=
  sendSupervisor_keeps (l := [.own]) (by decide) (.start _ (s.setChannel { s.channel with held := false })) _ .held (by decide)

theorem resetQueue_held (s : State) : (resetQueue s).channel.held = false := by
  unfold resetQueue
  dsimp only
  split
  · exact releaseFlow_held _
  · exact Bool.eq_false_iff.mpr ‹_›

theorem resetQueue_of_held {s : State} (h : s.channel.held = true) :
    resetQueue s = releaseFlow (s.setQueue { s.queue with records := [], last := none }) := if_pos h

theorem pageUseAt_resetSort (p : Nat) (s : State) : pageUseAt p (resetSort s) = 0 := by
  simp only [pageUseAt, resetSort, State.setSort_sort]
  by_cases hp : p < 32 <;> simp [hp]

/-- The log asked and the queue emptied, at the start of RESET_LINE. -/
def queueReset (s : State) : State := resetQueue (writeLog (.run .reset s.line.runId none) s)

/-- The line emptied, before it returns to IDLE. -/
def lineReset (s : State) : State := releaseHeader (resetTables s)

theorem queueReset_keeps (s : State) : KeepsAllBut (.records :: .last :: .held :: writeParts) s (queueReset s) :=
  resetQueue_keeps (by decide) (writeLog_keeps (by decide) (.start _ s) _)

theorem lineReset_keeps (s : State) : KeepsAllBut [.collecting, .staging, .strays, .slots, .position, .boundary, .pitch,
    .encoderErrors, .stations, .nextSerial, .jamSlot, .pageUse, .groups, .bins, .stocks, .reprints, .runId, .locked, .counters,
    .ending] (queueReset s) (lineReset s) := by
  unfold lineReset resetTables resetQueues
  refine releaseHeader_keeps (by decide) ?_
  refine State.setReprints_keeps (f := [.reprints]) (by decide) ?_ [] ?_
  · exact emptyRings_keeps (by decide) (resetSort_keeps (by decide) (clearTrack_keeps (by decide)
      (clearPockets_keeps (by decide) (.start _ _))))
  · intro p hp
    cases p <;> first | rfl | exact absurd (by decide) hp

theorem lineReset_stations (s : State) : StationsKept id True (clearLate (queueReset s)) (lineReset s) := by
  refine .of_eq ?_ rfl
  exact AlertsKeptBut.of_keeps (c := []) (lineReset_keeps s) (by decide) .station (by decide)

theorem resetLine_eq_enter (s : State) : Machine.resetLine s = enterState .idle none (lineReset s) := resetLine_eq s

theorem queueReset_grows (s : State) : (queueReset s).ring.own.length ≤ s.ring.own.length + 2 := by
  have h1 := (writeLog_wrote (.run .reset s.line.runId none) s).grows.length_le
  have h2 : (queueReset s).ring.own.length ≤ (writeLog (.run .reset s.line.runId none) s).ring.own.length + 1 := by
    unfold queueReset resetQueue
    dsimp only
    split
    · rw [releaseFlow, sendSupervisor_own]
      split
      · exact List.length_append.le
      · exact Nat.le_succ _
    · exact Nat.le_succ _
  omega

theorem queueReset_alerts (s : State) : AlertsKeptBut [.reserve, .station] s (queueReset s) :=
  (writeLog_wrote _ s).alerts.trans
    (AlertsKeptBut.of_keeps (l := [.own, .held, .records, .last]) (resetQueue_keeps (by decide) (.start _ _)) (by decide))

/-- A set held flag is released by RECORD_GO, if the supervisor can be told. -/
theorem queueReset_go {s : State} (hheld : s.channel.held = true) (h0 : s.supervisor ≠ 0) (h63 : s.supervisor ≠ 63)
    (hroom : s.ring.own.length + 3 ≤ 32) :
    ∃ more, (queueReset s).ring.own = s.ring.own ++ more ++ [⟨s.supervisor, .recordGo⟩] := by
  have hw := writeLog_wrote (.run .reset s.line.runId none) s
  have hgrow := hw.grows.length_le
  have hheld' : (writeLog (.run .reset s.line.runId none) s).channel.held = true :=
    (hw.keeps .held (by decide)).trans hheld
  have hsup : (writeLog (.run .reset s.line.runId none) s).supervisor = s.supervisor := hw.keeps .supervisor (by decide)
  obtain ⟨more, hmore⟩ := hw.queues.own_eq
  refine ⟨more, ?_⟩
  rw [queueReset, resetQueue_of_held hheld', releaseFlow, sendSupervisor_own, if_pos]
  · exact congrArg₂ (fun a (b : Node) => a ++ [⟨b, .recordGo⟩]) hmore hsup
  · exact ⟨hsup.symm ▸ h0, hsup.symm ▸ h63, show (writeLog _ s).ring.own.length < 32 by omega⟩

/-- Settles O27: the line is emptied without dispositions, and IDLE entered. -/
theorem resetLineReturnsToIdle : Obligations.ResetLineReturnsToIdle := by
  refine ⟨fun h tag s hc => ?_, fun h tag operands s hc hne => take_request_answered hc (plainRequest_of_operands rfl hne)⟩
  have hq := queueReset_keeps s
  have hl := lineReset_keeps s
  have hk : KeepsAllBut stateParts (lineReset s) (Machine.resetLine s) := resetLine_keeps' s
  obtain ⟨hstate, hreason, hdrive, -⟩ := enterState_line .idle none (lineReset s)
  have hqown : (lineReset s).ring.own = (queueReset s).ring.own := hl .own (by decide)
  have hgrow := queueReset_grows s
  have hlength : (queueReset s).track.length = s.track.length := hq .length (by decide)
  have hpulses : (queueReset s).track.pulses = s.track.pulses := hq .pulses (by decide)
  refine ⟨Machine.resetLine s, take_request_answered hc (plainRequest_of_taken rfl), hstate, hreason, hk .ending (by decide),
    hk .runId (by decide), hk .locked (by decide), hk .counters (by decide), hdrive,
    enterState_permit_of_ne_running _ _ (by decide), ?_, hk .reprints (by decide), ?_, ?_, hk .strays (by decide),
    hk .collecting (by decide), hk .staging (by decide), fun i => ?_, ?_, hk .position (by decide), ?_,
    hk .pitch (by decide), hk .encoderErrors (by decide), hk .nextSerial (by decide), hk .jamSlot (by decide), ?_, fun p => ?_,
    fun g => ?_, fun b => ?_, ?_, fun hheld h0 h63 hroom => ?_, ?_, ?_⟩
  · exact ((hk .held (by decide)).trans (hl .held (by decide))).trans (resetQueue_held _)
  · have hnone : lineSeqs none (Machine.resetLine s) = [] := by
      rw [lineSeqs_of_keeps hk (by decide)]
      exact (lineSeqs_of_keeps (releaseHeader_keeps' _) (by decide) none).trans (resetTables_lineSeqs s)
    rw [recordsHeld_eq]
    exact congrArg List.length hnone
  · exact ((hk .last (by decide)).trans (hl .last (by decide))).trans (resetQueue_last _)
  · have hstocks : (Machine.resetLine s).caliper.stocks = (emptyRings (queueReset s)).caliper.stocks := hk .stocks (by decide)
    have hbefore : (queueReset s).caliper.stocks = s.caliper.stocks := hq .stocks (by decide)
    have hstock : stockAt i (Machine.resetLine s) = stockAt i (emptyRings (queueReset s)) := by simp only [stockAt, hstocks]
    rw [hstock, stockAt_emptyRings, show stockAt i (queueReset s) = stockAt i s by simp only [stockAt, hbefore]]
    rfl
  · exact (hk .slots (by decide)).trans (congrArg (List.replicate · none) hlength)
  · exact (hk .boundary (by decide)).trans (congrArg Int.ofNat hpulses)
  · refine StationsKept.of_clearLate ?_
    have hstart : StationsKept id (s.ring.own.length + 3 ≤ 32) s (queueReset s) :=
      ((writeLog_wrote _ s).stations.mono fun hr => .inl (by omega)).trans (q := True)
        (.of_keeps (l := [.own, .held, .records, .last]) (resetQueue_keeps (by decide) (.start _ _)) (by decide) (by decide))
        id fun _ => trivial
    refine (hstart.clearLate.trans (lineReset_stations s) id fun _ => trivial).trans (enterState_stations (room := s.ring.own.length + 3 ≤ 32)
      fun hr => ?_) id id
    rw [hqown]
    omega
  · have huse : (Machine.resetLine s).sort.pageUse = (resetSort (queueReset s)).sort.pageUse := hk .pageUse (by decide)
    exact (by simp only [pageUseAt, huse] : _ = pageUseAt p (resetSort (queueReset s))).trans (pageUseAt_resetSort p _)
  · have hgroups : (Machine.resetLine s).sort.groups = (resetSort (queueReset s)).sort.groups := hk .groups (by decide)
    have hbefore : (queueReset s).sort.groups = s.sort.groups := hq .groups (by decide)
    refine (by simp only [groupAt, hgroups] : _ = groupAt g (resetSort (queueReset s))).trans ?_
    rw [groupAt_resetSort, show groupAt g (queueReset s) = groupAt g s by simp only [groupAt, hbefore]]
  · have hbins : (Machine.resetLine s).sort.bins = (resetSort (queueReset s)).sort.bins := hk .bins (by decide)
    refine (by simp only [binAt, hbins] : _ = binAt b (resetSort (queueReset s))).trans ?_
    rw [binAt_resetSort, binAt_eq_of_keeps hq (by decide)]
    rfl
  · exact ((queueReset_alerts s).trans (AlertsKeptBut.of_keeps hl (by decide))).trans
      ((enterState_alertsKept (lineReset s) .idle none).more (by decide))
  · obtain ⟨more, hmore⟩ := queueReset_go hheld h0 h63 hroom
    obtain ⟨after, hafter⟩ := (enterState_queues .idle none (lineReset s)).own_eq
    have hown : (Machine.resetLine s).ring.own = s.ring.own ++ (more ++ [⟨s.supervisor, .recordGo⟩] ++ after) := by
      rw [resetLine_eq_enter, hafter, hqown, hmore]
      simp only [List.append_assoc]
    rw [hown, List.drop_left]
    simp
  · refine (writeLog_took (.run .reset s.line.runId none) s).of_log_eq rfl ?_ rfl ?_
    · have e1 : (Machine.resetLine s).log = (lineReset s).log := hk.log_eq (by decide) (by decide) (by decide) (by decide)
      have e2 : (lineReset s).log = (queueReset s).log := hl.log_eq (by decide) (by decide) (by decide) (by decide)
      have e3 := KeepsAllBut.log_eq (l := [.own, .held, .records, .last])
        (resetQueue_keeps (by decide) (.start _ (writeLog (.run .reset s.line.runId none) s)))
        (by decide) (by decide) (by decide) (by decide)
      exact (e1.trans e2).trans e3
    · refine (enterState_alerts .idle none (lineReset s) (by decide)).trans ?_
      refine ((AlertsKeptBut.of_keeps (c := []) hl (by decide)) .reserve (by decide)).trans ?_
      exact (AlertsKeptBut.of_keeps (c := []) (l := [.own, .held, .records, .last])
        (resetQueue_keeps (by decide) (.start _ _)) (by decide)) .reserve (by decide)
  · exact hk.more (by decide) |> fun hk' => (hq.more (by decide)).trans ((hl.more (by decide)).trans hk')

end Sys2Proof.Machine
end

section
/-! LOAD SCHEME, LOAD GROUP and LOAD BIN: what their bytes read as, and what an accepted load writes (R103, R104, R108, R110). -/

namespace Sys2Proof.Machine

/-! ### Bytes -/

theorem byteAt_cons_zero (a : Byte) (l : List Byte) : byteAt (a :: l) 0 = a.toNat := rfl

theorem byteAt_cons_succ (a : Byte) (l : List Byte) (k : Nat) : byteAt (a :: l) (k + 1) = byteAt l k := rfl

theorem byteAt_append_right (l m : List Byte) (k : Nat) : byteAt (l ++ m) (l.length + k) = byteAt m k := by
  simp [byteAt, List.getElem?_append_right]

theorem toNat_byteOf {n : Nat} (h : n < 256) : (byteOf n).toNat = n := by
  simp [byteOf, Nat.mod_eq_of_lt h]

theorem byteOf_toNat (b : Byte) : byteOf b.toNat = b := BitVec.ofNat_toNat 8 b |>.trans (BitVec.setWidth_eq b)

/-! ### LOAD GROUP (R108) -/

/-- The bytes of a LOAD GROUP with a chain of at most four bins. -/
theorem readGroup_layout {bins : List Byte} (h : bins.length ≤ 4) (g target minimum demote : Byte) :
    readGroup (g :: byteOf bins.length :: (bins ++ [target, minimum, demote])) = some
      { group := g.toNat, chain := bins.map (·.toNat), target := target.toNat, minimum := minimum.toNat
        demote := demote.toNat } := by
  have hn : (byteOf bins.length).toNat = bins.length := toNat_byteOf (by omega)
  have hat (k : Nat) : byteAt (g :: byteOf bins.length :: (bins ++ [target, minimum, demote])) (k + 2 + bins.length) =
      byteAt [target, minimum, demote] k := by
    rw [show k + 2 + bins.length = bins.length + k + 1 + 1 by omega]
    exact byteAt_append_right _ _ _
  unfold readGroup
  simp only [field_one, byteAt_cons_succ, byteAt_cons_zero, hn]
  rw [if_pos (by simp; omega)]
  have h0 := hat 0
  have h1 := hat 1
  have h2 := hat 2
  simp only [Nat.zero_add, show 1 + 2 = 3 from rfl, show 2 + 2 = 4 from rfl] at h0 h1 h2
  rw [h0, h1, h2]
  simp [byteAt]

theorem readGroup_iff {items : List Byte} {f : GroupFields} : readGroup items = some f ↔
    ∃ (g target minimum demote : Byte) (bins : List Byte), bins.length ≤ 4 ∧
      items = g :: byteOf bins.length :: (bins ++ [target, minimum, demote]) ∧
      f = { group := g.toNat, chain := bins.map (·.toNat), target := target.toNat, minimum := minimum.toNat
            demote := demote.toNat } := by
  constructor
  · intro h
    have hread := h
    unfold readGroup at h
    simp only [field_one] at h
    split at h
    · rename_i hshape
      simp only [Bool.and_eq_true, decide_eq_true_eq, beq_iff_eq] at hshape
      obtain ⟨⟨-, hlen⟩, hn⟩ := hshape
      match items, hlen, hn with
      | g :: n :: rest, hlen, hn =>
        have hrest : rest.length = n.toNat + 3 := by
          rw [byteAt_cons_succ, byteAt_cons_zero] at hlen
          simp only [List.length_cons] at hlen
          omega
        have hbins : (rest.take n.toNat).length = n.toNat := by rw [List.length_take]; omega
        obtain ⟨target, minimum, demote, htail⟩ : ∃ target minimum demote, rest.drop n.toNat = [target, minimum, demote] :=
          List.length_eq_three.mp (by rw [List.length_drop]; omega)
        have hitems : g :: n :: rest =
            g :: byteOf (rest.take n.toNat).length :: (rest.take n.toNat ++ [target, minimum, demote]) := by
          rw [hbins, byteOf_toNat, ← htail, List.take_append_drop]
        refine ⟨g, target, minimum, demote, rest.take n.toNat, hbins.trans_le hn, hitems, ?_⟩
        rw [hitems, readGroup_layout (hbins.trans_le hn)] at hread
        exact (Option.some.inj hread).symm
    · cases h
  · rintro ⟨g, target, minimum, demote, bins, hlen, rfl, rfl⟩
    exact readGroup_layout hlen g target minimum demote

theorem groupInUse_iff {f : GroupFields} {s : State} : groupInUse f s = true ↔
    (groupAt f.group s).refs ≠ 0 ∨ (∃ b ∈ (groupAt f.group s).chain, BinInUse b s) ∨ ∃ b ∈ f.chain, BinInUse b s := by
  simp only [groupInUse, Bool.or_eq_true, bne_iff_ne, List.any_eq_true, binBusy_iff, or_assoc]

theorem loadGroupRequest_of_some {items : List Byte} {f : GroupFields} (h : readGroup items = some f) (tag : Byte) (s : State) :
    loadGroupRequest tag items s =
      if groupInRange f s then
        if groupInUse f s then sendAnswer tag .inUse [] s
        else sendAnswer tag .ok [] (putGroup f.group (f.toGroup (groupAt f.group s).refs) s)
      else sendAnswer tag .range [] s := by
  unfold loadGroupRequest
  rw [h]

theorem loadBinRequest_of_some {items : List Byte} {b node capacity : Nat} (h : readBin items = some (b, node, capacity))
    (tag : Byte) (s : State) : loadBinRequest tag items s =
      if binInRange b node capacity s then
        if (binAt b s).state = .off && !binBusy b s then
          sendAnswer tag .ok [] (putBin b { binAt b s with node := some node, capacity := some capacity } s)
        else sendAnswer tag .inUse [] s
      else sendAnswer tag .range [] s := by
  unfold loadBinRequest
  rw [h]

/-- Settles O53: each load is judged by its range step, then by what is in use. -/
theorem groupAndBinLoadsWriteWhole : Obligations.GroupAndBinLoadsWriteWhole := by
  intro h tag items s
  refine ⟨fun hc => ⟨fun f => readGroup_iff, fun hnone => take_request_answered hc ?_, fun f hf => ?_⟩, fun hc =>
    ⟨fun hlen => take_request_answered hc ?_, ?_⟩⟩
  · unfold loadGroupRequest
    rw [hnone]
  · refine ⟨readGroup_length hf, fun hbad => take_request_answered hc ?_, fun hsound => ⟨fun hused =>
      take_request_answered hc ?_, fun hfree => take_request_answered hc ?_⟩⟩
    · rw [loadGroupRequest_of_some hf, if_neg fun hr => hbad (groupInRange_iff.mp hr)]
    · rw [loadGroupRequest_of_some hf, if_pos (groupInRange_iff.mpr hsound), if_pos (groupInUse_iff.mpr hused)]
    · rw [loadGroupRequest_of_some hf, if_pos (groupInRange_iff.mpr hsound), if_neg fun hu => hfree (groupInUse_iff.mp hu)]
      rfl
  · unfold loadBinRequest readBin
    rw [if_neg hlen]
  · rintro b node c1 c0 rfl
    have hread : readBin [b, node, c1, c0] = some (b.toNat, node.toNat, c1.toNat * 256 + c0.toNat) := by
      simp [readBin, field, ofBe]
    refine ⟨fun hbad => take_request_answered hc ?_, fun hsound => ⟨fun hused => take_request_answered hc ?_,
      fun hoff hfree => take_request_answered hc ?_⟩⟩
    · rw [loadBinRequest_of_some hread, if_neg fun hr => hbad (binInRange_iff.mp hr)]
    · rw [loadBinRequest_of_some hread, if_pos (binInRange_iff.mpr hsound), if_neg]
      intro hfree
      simp only [Bool.and_eq_true, decide_eq_true_eq, Bool.not_eq_true'] at hfree
      obtain ⟨hoff, hidle⟩ := hfree
      obtain hon | hbusy := hused
      · exact hon hoff
      · rw [binBusy_iff.mpr hbusy] at hidle
        cases hidle
    · rw [loadBinRequest_of_some hread, if_pos (binInRange_iff.mpr hsound), if_pos]
      simp only [Bool.and_eq_true, decide_eq_true_eq, Bool.not_eq_true']
      exact ⟨hoff, Bool.eq_false_iff.mpr fun hb => hfree (binBusy_iff.mp hb)⟩

/-! ### Items written one after the other -/

section
variable {α : Type} {n : Nat} {pos : Nat → Nat} {i : Nat}

/-- Items written to a table one after the other, each at its position. -/
def writeItems (pos : Nat → Nat) (l : List α) (k : Nat) (t : Vector α n) : Vector α n :=
  (l.zipIdx k).foldl (fun t x => t.setIfInBounds (pos x.2) x.1) t

theorem writeItems_cons (x : α) (l : List α) (k : Nat) (t : Vector α n) :
    writeItems pos (x :: l) k t = writeItems pos l (k + 1) (t.setIfInBounds (pos k) x) := rfl

/-- A place that no item goes to. -/
theorem writeItems_of_ne : ∀ (l : List α) (k : Nat) (t : Vector α n), (∀ j < l.length, pos (k + j) ≠ i) →
    (writeItems pos l k t)[i]? = t[i]?
  | [], _, _, _ => rfl
  | x :: l, k, t, h => by
    have hk : pos k ≠ i := h 0 (Nat.zero_lt_succ _)
    rw [writeItems_cons, writeItems_of_ne l (k + 1) _ fun j hj => by
      have := h (j + 1) (Nat.succ_lt_succ hj)
      rwa [show k + 1 + j = k + (j + 1) by omega]]
    rw [Vector.getElem?_setIfInBounds, if_neg hk]

/-- The last item that goes to a place stays. -/
theorem writeItems_of_last (hi : i < n) : ∀ (l : List α) (k : Nat) (t : Vector α n) {j : Nat} {x : α}, l[j]? = some x →
    pos (k + j) = i → (∀ m, j < m → m < l.length → pos (k + m) ≠ i) → (writeItems pos l k t)[i]? = some x
  | y :: l, k, t, 0, x, hx, hpos, hlast => by
    obtain rfl : y = x := Option.some.inj hx
    rw [writeItems_cons, writeItems_of_ne l (k + 1) _ fun j hj => by
      have := hlast (j + 1) (Nat.succ_pos j) (Nat.succ_lt_succ hj)
      rwa [show k + 1 + j = k + (j + 1) by omega]]
    have hk : pos k = i := hpos
    rw [Vector.getElem?_setIfInBounds, if_pos hk, if_pos (hk ▸ hi)]
  | y :: l, k, t, j + 1, x, hx, hpos, hlast => by
    rw [writeItems_cons]
    refine writeItems_of_last hi l (k + 1) _ (j := j) hx ?_ fun m hm hlt => ?_
    · rwa [show k + 1 + j = k + (j + 1) by omega]
    · have := hlast (m + 1) (Nat.succ_lt_succ hm) (Nat.succ_lt_succ hlt)
      rwa [show k + 1 + m = k + (m + 1) by omega]

end

/-! ### LOAD SCHEME (R103, R104) -/

theorem caliperClassOf_eq_some {n : Nat} {c : CaliperClass} : caliperClassOf n = some c ↔ c.code = n := by
  constructor
  · unfold caliperClassOf
    split <;> intro h <;> cases h <;> rfl
  · rintro rfl
    cases c <;> rfl

/-- Pattern nibbles in their range, and what they stand for. -/
theorem patternNibbles_iff : ∀ {l : List Nat} {p : List (Option Nat)},
    ((l.all fun d => decide (d ≤ 9) || d == 15) = true ∧ p = l.map fun d => if d = 15 then none else some d) ↔
      List.Forall₂ PatternNibble l p
  | [], p => by simp
  | d :: l, [] => by simp
  | d :: l, x :: p => by
    rw [List.forall₂_cons, ← patternNibbles_iff]
    have hhead : ((decide (d ≤ 9) || d == 15) = true ∧ x = if d = 15 then none else some d) ↔ PatternNibble d x := by
      unfold PatternNibble
      simp only [Bool.or_eq_true, decide_eq_true_eq, beq_iff_eq]
      constructor
      · rintro ⟨h | h, rfl⟩
        · exact .inl ⟨h, if_neg (by omega)⟩
        · exact .inr ⟨h, if_pos h⟩
      · rintro (⟨h, rfl⟩ | ⟨h, rfl⟩)
        · exact ⟨.inl h, (if_neg (by omega)).symm⟩
        · exact ⟨.inr h, (if_pos h).symm⟩
    simp only [List.all_cons, Bool.and_eq_true, List.map_cons, List.cons.injEq, ← hhead]
    tauto

/-- A full item after its marker. -/
theorem readSchemeEntry_iff {p1 p2 p3 p4 p5 group flags level : Byte} {e : SchemeEntry} :
    readSchemeEntry [p1, p2, p3, p4, p5, group, flags, level] = some e ↔
      SchemeItemReads [1, p1, p2, p3, p4, p5, group, flags, level] e := by
  have hpattern : (([p1, p2, p3, p4, p5, group, flags, level].take 5).flatMap nibbles).take 9 =
      [p1.toNat / 16, p1.toNat % 16, p2.toNat / 16, p2.toNat % 16, p3.toNat / 16, p3.toNat % 16, p4.toNat / 16,
        p4.toNat % 16, p5.toNat / 16] := rfl
  have hlen : max 1 (min 9 (flags.toNat % 16)) = if flags.toNat % 16 = 0 then 1 else min 9 (flags.toNat % 16) := by
    split <;> omega
  have hon : (flags.toNat / 128 == 1) = decide (128 ≤ flags.toNat) := by
    have := flags.isLt
    rw [Bool.eq_iff_iff]
    simp only [beq_iff_eq, decide_eq_true_eq]
    omega
  unfold readSchemeEntry SchemeItemReads
  simp only [hpattern, field_one, byteAt_cons_succ, byteAt_cons_zero, hlen, hon]
  constructor
  · intro h
    split at h
    · cases h
    · rename_i c hclass
      split at h
      · rename_i hok
        simp only [Bool.and_eq_true, decide_eq_true_eq] at hok
        obtain ⟨⟨hall, hgroup⟩, hlevel⟩ := hok
        cases h
        exact .inr ⟨p1, p2, p3, p4, p5, group, flags, level, rfl, patternNibbles_iff.mp ⟨hall, rfl⟩, rfl, rfl, hgroup,
          caliperClassOf_eq_some.mp hclass, rfl, rfl, hlevel⟩
      · cases h
  · rintro (⟨h, -⟩ | ⟨q1, q2, q3, q4, q5, qg, qf, ql, hq, hp, henabled, hg, hgroup, hclass, hkey, hl, hlevel⟩)
    · cases h
    · simp only [List.cons.injEq, true_and, and_true] at hq
      obtain ⟨rfl, rfl, rfl, rfl, rfl, rfl, rfl, rfl⟩ := hq
      obtain ⟨hall, hmap⟩ := patternNibbles_iff.mpr hp
      rw [caliperClassOf_eq_some.mpr hclass]
      dsimp only
      rw [if_pos (by simp only [Bool.and_eq_true, decide_eq_true_eq]; exact ⟨⟨hall, hgroup⟩, hlevel⟩)]
      rw [← hmap, ← henabled, ← hg, ← hkey, ← hl]

/-- A DISABLED mark is the power-on entry, and every other item starts with marker 1 and eight bytes. -/
theorem schemeItemReads_zero {rest : List Byte} {e : SchemeEntry} :
    SchemeItemReads (0 :: rest) e ↔ rest = [] ∧ e = SchemeEntry.powerOn := by
  unfold SchemeItemReads
  constructor
  · rintro (⟨h, rfl⟩ | ⟨_, _, _, _, _, _, _, _, h, -⟩)
    · exact ⟨(List.cons.inj h).2, rfl⟩
    · exact absurd (List.cons.inj h).1 (by decide)
  · rintro ⟨rfl, rfl⟩
    exact .inl ⟨rfl, rfl⟩

theorem SchemeItemReads.marker {m : Byte} {rest : List Byte} {e : SchemeEntry} (h : SchemeItemReads (m :: rest) e) :
    (m = 0 ∧ rest = []) ∨ (m = 1 ∧ rest.length = 8) := by
  obtain ⟨h, -⟩ | ⟨_, _, _, _, _, _, _, _, h, -⟩ := h
  · exact .inl (List.cons.inj h)
  · obtain ⟨rfl, rfl⟩ := List.cons.inj h
    exact .inr ⟨rfl, rfl⟩

theorem SchemeItemReads.ne_nil {e : SchemeEntry} : ¬SchemeItemReads [] e := by
  rintro (⟨h, -⟩ | ⟨_, _, _, _, _, _, _, _, h, -⟩) <;> cases h

theorem schemeItemReads_one {rest : List Byte} {e : SchemeEntry} (h : rest.length = 8) :
    SchemeItemReads (1 :: rest) e ↔ readSchemeEntry rest = some e := by
  match rest, h with
  | [_, _, _, _, _, _, _, _], _ => exact readSchemeEntry_iff.symm

/-- The items of a LOAD SCHEME are read one after the other, and nothing is left. -/
theorem readSchemeItems_iff : ∀ {n : Nat} {bytes : List Byte} {l : List SchemeEntry}, readSchemeItems n bytes = some l ↔
    l.length = n ∧ ∃ chunks : List (List Byte), bytes = chunks.flatten ∧ List.Forall₂ SchemeItemReads chunks l
  | 0, [], l => by
    constructor
    · intro h
      cases h
      exact ⟨rfl, [], rfl, .nil⟩
    · rintro ⟨h, -⟩
      rw [List.length_eq_zero_iff.mp h]
      rfl
  | 0, b :: bytes, l => by
    constructor
    · intro h
      cases h
    · rintro ⟨h, chunks, hb, hf⟩
      obtain rfl := List.length_eq_zero_iff.mp h
      cases hf
      cases hb
  | n + 1, [], l => by
    constructor
    · intro h
      cases h
    · rintro ⟨h, chunks, hb, hf⟩
      cases hf with
      | nil => cases h
      | @cons c e cs es hc hcs =>
        rw [(List.append_eq_nil_iff.mp hb.symm).1] at hc
        exact absurd hc SchemeItemReads.ne_nil
  | n + 1, m :: bytes, l => by
    unfold readSchemeItems
    constructor
    · intro h
      split at h
      · rename_i hm
        subst hm
        split at h
        · rename_i rest hrest
          cases h
          obtain ⟨hlen, chunks, hb, hf⟩ := readSchemeItems_iff.mp hrest
          exact ⟨congrArg (· + 1) hlen, [0] :: chunks, by rw [hb]; rfl, .cons (schemeItemReads_zero.mpr ⟨rfl, rfl⟩) hf⟩
        · cases h
      · split at h
        · rename_i hm
          simp only [Bool.and_eq_true, decide_eq_true_eq] at hm
          obtain ⟨rfl, h8⟩ := hm
          split at h
          · rename_i e rest he hrest
            cases h
            obtain ⟨hlen, chunks, hb, hf⟩ := readSchemeItems_iff.mp hrest
            refine ⟨congrArg (· + 1) hlen, (1 :: bytes.take 8) :: chunks, ?_, .cons ?_ hf⟩
            · rw [List.flatten_cons, ← hb, List.cons_append, List.take_append_drop]
            · exact (schemeItemReads_one (by rw [List.length_take]; omega)).mpr he
          · cases h
        · cases h
    · rintro ⟨hlen, chunks, hb, hf⟩
      cases hf with
      | nil => cases hlen
      | @cons c e cs es hc hcs =>
        cases c with
        | nil => exact absurd hc SchemeItemReads.ne_nil
        | cons m' c =>
          obtain ⟨rfl, rfl⟩ := List.cons.inj hb
          have hrest : readSchemeItems n cs.flatten = some es :=
            readSchemeItems_iff.mpr ⟨Nat.succ.inj hlen, cs, rfl, hcs⟩
          obtain ⟨rfl, rfl⟩ | ⟨rfl, h8⟩ := hc.marker
          · rw [if_pos rfl]
            obtain ⟨-, rfl⟩ := schemeItemReads_zero.mp hc
            exact (congrArg (fun o => match o with | some l => some (SchemeEntry.powerOn :: l) | none => none) hrest)
          · have htake : (c ++ cs.flatten).take 8 = c := List.take_left' h8
            have hdrop : (c ++ cs.flatten).drop 8 = cs.flatten := List.drop_left' h8
            have hitem := (schemeItemReads_one h8).mp hc
            show (if (1 : Byte) = 0 then _ else if (decide ((1 : Byte) = 1) && decide (8 ≤ (c ++ cs.flatten).length)) = true then
              match readSchemeEntry ((c ++ cs.flatten).take 8), readSchemeItems n ((c ++ cs.flatten).drop 8) with
              | some e, some l => some (e :: l)
              | _, _ => none
              else none) = _
            rw [htake, hdrop, hitem, hrest, if_neg (by decide), if_pos (by simp; omega)]

theorem readScheme_iff {items : List Byte} {page start : Nat} {l : List SchemeEntry} :
    readScheme items = some (page, start, l) ↔
      page ≤ 31 ∧ start ≤ 15 ∧ 1 ≤ l.length ∧ l.length ≤ 32 ∧ ∃ chunks : List (List Byte),
        items = byteOf page :: byteOf start :: byteOf l.length :: chunks.flatten ∧
        List.Forall₂ SchemeItemReads chunks l := by
  unfold readScheme
  simp only [field_one]
  constructor
  · intro h
    split at h
    · rename_i hok
      simp only [Bool.and_eq_true, decide_eq_true_eq] at hok
      obtain ⟨⟨⟨⟨h3, hpage⟩, hstart⟩, h1⟩, h32⟩ := hok
      split at h
      · rename_i l' hl
        cases h
        obtain ⟨hlen, chunks, hb, hf⟩ := readSchemeItems_iff.mp hl
        refine ⟨hpage, hstart, hlen ▸ h1, hlen ▸ h32, chunks, ?_, hf⟩
        match items, h3, hb, hlen with
        | a :: b :: c :: rest, _, hb, hlen =>
          rw [hlen, ← hb]
          simp only [byteAt_cons_succ, byteAt_cons_zero, byteOf_toNat]
          rfl
      · cases h
    · cases h
  · rintro ⟨hpage, hstart, h1, h32, chunks, rfl, hf⟩
    simp only [byteAt_cons_succ, byteAt_cons_zero, toNat_byteOf (show page < 256 by omega),
      toNat_byteOf (show start < 256 by omega), toNat_byteOf (show l.length < 256 by omega)]
    rw [if_pos (by simp; omega)]
    have hread : readSchemeItems l.length chunks.flatten = some l := readSchemeItems_iff.mpr ⟨rfl, chunks, rfl, hf⟩
    simp only [List.drop_succ_cons, List.drop_zero, hread]

theorem writeScheme_keeps' (page start : Nat) (l : List SchemeEntry) (s : State) :
    KeepsAllBut [.scheme] s (writeScheme page start l s) := writeScheme_keeps (List.Subset.refl _) (.start _ s) _ _ _

theorem writeScheme_table (page start : Nat) (l : List SchemeEntry) (s : State) :
    (writeScheme page start l s).sort.scheme = writeItems (fun j => 16 * page + (start + j) % 16) l 0 s.sort.scheme := rfl

theorem schemeAt_writeScheme_of_ne {page start i : Nat} {l : List SchemeEntry} {s : State}
    (h : ∀ j < l.length, 16 * page + (start + j) % 16 ≠ i) : schemeAt i (writeScheme page start l s) = schemeAt i s := by
  unfold schemeAt
  rw [writeScheme_table, writeItems_of_ne l 0 _ fun j hj => by rw [Nat.zero_add]; exact h j hj]

theorem schemeAt_writeScheme_of_last {page start j : Nat} {e : SchemeEntry} {l : List SchemeEntry} {s : State}
    (hpage : page ≤ 31) (he : l[j]? = some e)
    (hlast : ∀ k, j < k → k < l.length → (start + k) % 16 ≠ (start + j) % 16) :
    schemeAt (16 * page + (start + j) % 16) (writeScheme page start l s) = e := by
  unfold schemeAt
  rw [writeScheme_table, writeItems_of_last (by omega) l 0 _ he (by rw [Nat.zero_add]) fun m hm hlt => by
    have := hlast m hm hlt
    rw [Nat.zero_add]
    omega]
  rfl

theorem loadSchemeRequest_of_some {items : List Byte} {page start : Nat} {l : List SchemeEntry} {s : State}
    (hs : schemeFrozen s = false) (h : readScheme items = some (page, start, l)) (tag : Byte) :
    loadSchemeRequest tag items s =
      if pageUseAt page s = 0 then sendAnswer tag .ok [] (writeScheme page start l s) else sendAnswer tag .inUse [] s := by
  unfold loadSchemeRequest
  rw [if_neg (by simp [hs]), h]

/-- Settles O52: the bytes are read item by item, and an accepted load writes them in order within its page. -/
theorem schemeLoadsWrapWithinThePage : Obligations.SchemeLoadsWrapWithinThePage := by
  intro h tag items s hc
  refine ⟨fun page start l => readScheme_iff, fun hs => take_request_answered hc (if_pos ?_), fun hr hd => ?_⟩
  · simpa [schemeFrozen] using hs
  · have hfree : schemeFrozen s = false := by simp [schemeFrozen, hr, hd]
    refine ⟨fun hnone => take_request_answered hc ?_, fun page start l hread => ?_⟩
    · unfold loadSchemeRequest
      rw [if_neg (by simp [hfree]), hnone]
    · obtain ⟨hpage, hstart, h1, h32, -⟩ := readScheme_iff.mp hread
      refine ⟨hpage, hstart, h1, h32, fun hused => take_request_answered hc ?_, fun hunused =>
        ⟨writeScheme page start l s, take_request_answered hc ?_, fun i hi hne => ?_, fun j e he hlast => ?_,
          fun o ho hfree => ?_, writeScheme_keeps' page start l s⟩⟩
      · rw [loadSchemeRequest_of_some hfree hread, if_neg (by omega)]
      · rw [loadSchemeRequest_of_some hfree hread, if_pos hunused]
      · exact schemeAt_writeScheme_of_ne fun j hj => by omega
      · exact schemeAt_writeScheme_of_last hpage he hlast
      · exact schemeAt_writeScheme_of_ne fun j hj => by have := hfree j hj; omega

end Sys2Proof.Machine
end

section
/-! LOAD STATION: what its bytes read as, and the checks of the table as it would stand (R71). -/

namespace Sys2Proof.Machine

/-! ### The items (R170) -/

theorem stationKindOf_eq_some {n : Nat} {k : StationKind} : stationKindOf n = some k ↔ k.code = n := by
  constructor
  · unfold stationKindOf
    split <;> intro h <;> cases h <;> rfl
  · rintro rfl
    cases k <;> rfl

theorem byteAt_drop_take {items : List Byte} {k n m : Nat} (hm : m < n) :
    byteAt ((items.drop k).take n) m = byteAt items (k + m) := by
  simp only [byteAt, List.getElem?_take_of_lt hm, List.getElem?_drop]

theorem StationKind.onTrack_iff (k : StationKind) :
    k.onTrack = true ↔ k = .insert ∨ k = .envelope ∨ k = .scanOut ∨ k = .slotCheck ∨ k = .exit := by
  cases k <;> decide

theorem StationKind.hasWindow_iff (k : StationKind) : k.hasWindow = true ↔ k = .insert ∨ k = .envelope ∨ k = .scanOut := by
  cases k <;> decide

/-- One item is read from its six bytes. -/
theorem readStation_iff {items : List Byte} {k : Nat} {x : Option StationEntry} (hk : k + 6 ≤ items.length) :
    readStation ((items.drop k).take 6) = some x ↔ StationItemReads items k x := by
  have hword : field ((items.drop k).take 6) 4 2 = wordAt items (k + 4) := by
    rw [field_two _ _ (by simp only [List.length_take, List.length_drop]; omega), wordAt, byteAt_drop_take (by decide),
      byteAt_drop_take (by decide)]
    rfl
  unfold readStation StationItemReads
  simp only [field_one, hword, byteAt_drop_take (show 0 < 6 by decide), byteAt_drop_take (show 1 < 6 by decide),
    byteAt_drop_take (show 2 < 6 by decide), byteAt_drop_take (show 3 < 6 by decide), Nat.add_zero,
    StationKind.onTrack_iff, StationKind.hasWindow_iff]
  by_cases h0 : byteAt items k = 0
  · rw [if_pos h0]
    constructor
    · intro h
      exact .inl ⟨h0, (Option.some.inj h).symm⟩
    · rintro (⟨-, rfl⟩ | ⟨hne, -⟩)
      · rfl
      · exact absurd h0 hne
  · rw [if_neg h0]
    constructor
    · intro h
      split at h
      · cases h
      · rename_i kind hkind
        exact .inr ⟨h0, kind, stationKindOf_eq_some.mp hkind, (Option.some.inj h).symm⟩
    · rintro (⟨h, -⟩ | ⟨-, kind, hkind, rfl⟩)
      · exact absurd h h0
      · rw [stationKindOf_eq_some.mpr hkind]

/-- The items are read one after the other, six bytes each. -/
theorem readStationItems_iff : ∀ {n : Nat} {bytes : List Byte} {l : List (Option StationEntry)},
    readStationItems n bytes = some l ↔
      l.length = n ∧ ∀ (j : Nat) x, l[j]? = some x → readStation ((bytes.drop (6 * j)).take 6) = some x
  | 0, bytes, l => by
    constructor
    · intro h
      cases h
      exact ⟨rfl, fun j x hx => by cases hx⟩
    · rintro ⟨h, -⟩
      rw [List.length_eq_zero_iff.mp h]
      rfl
  | n + 1, bytes, l => by
    have hdrop (j : Nat) : (bytes.drop 6).drop (6 * j) = bytes.drop (6 * (j + 1)) := by rw [List.drop_drop]; congr 1; omega
    unfold readStationItems
    constructor
    · intro h
      split at h
      · rename_i e rest he hrest
        cases h
        obtain ⟨hlen, hall⟩ := readStationItems_iff.mp hrest
        refine ⟨congrArg (· + 1) hlen, fun j x hx => ?_⟩
        cases j with
        | zero =>
          cases hx
          exact he
        | succ j =>
          rw [← hdrop]
          exact hall j x hx
      · cases h
    · rintro ⟨hlen, hall⟩
      cases l with
      | nil => cases hlen
      | cons e rest =>
        have he : readStation (bytes.take 6) = some e := hall 0 e rfl
        have hrest : readStationItems n (bytes.drop 6) = some rest :=
          readStationItems_iff.mpr ⟨Nat.succ.inj hlen, fun j x hx => by rw [hdrop]; exact hall (j + 1) x hx⟩
        rw [he, hrest]

theorem readStations_iff {items : List Byte} {first : Nat} {l : List (Option StationEntry)} :
    readStations items = some (first, l) ↔
      items.length = 2 + 6 * l.length ∧ byteAt items 0 = first ∧ byteAt items 1 = l.length ∧
        ∀ (j : Nat) x, l[j]? = some x → StationItemReads items (2 + 6 * j) x := by
  have hitem (hlen : items.length = 2 + 6 * l.length) (j : Nat) (x : Option StationEntry) (hx : l[j]? = some x) :
      readStation (((items.drop 2).drop (6 * j)).take 6) = some x ↔ StationItemReads items (2 + 6 * j) x := by
    obtain ⟨hj, -⟩ := List.getElem?_eq_some_iff.mp hx
    rw [List.drop_drop]
    exact readStation_iff (by omega)
  unfold readStations
  simp only [field_one]
  constructor
  · intro h
    split at h
    · rename_i hlen
      split at h
      · rename_i l' hl
        cases h
        obtain ⟨hn, hall⟩ := readStationItems_iff.mp hl
        rw [← hn] at hlen
        exact ⟨hlen, rfl, hn.symm, fun j x hx => (hitem hlen j x hx).mp (hall j x hx)⟩
      · cases h
    · cases h
  · rintro ⟨hlen, rfl, hn, hall⟩
    have hread : readStationItems (byteAt items 1) (items.drop 2) = some l :=
      readStationItems_iff.mpr ⟨hn.symm, fun j x hx => (hitem hlen j x hx).mpr (hall j x hx)⟩
    rw [if_pos (by rw [hn]; exact hlen), hread]

theorem StationItemReads.fresh {items : List Byte} {k : Nat} {x : StationEntry} (h : StationItemReads items k (some x)) :
    x.mode = .normal ∧ x.status = .unknown ∧ x.late = 0 := by
  obtain ⟨-, h⟩ | ⟨-, kind, -, h⟩ := h
  · cases h
  · cases h
    exact ⟨rfl, rfl, rfl⟩

/-! ### The table as it would stand (R71) -/

theorem entryOk_iff {e : StationEntry} {s : State} : entryOk e s = true ↔ StationSound e s := by
  unfold entryOk StationEntry.fits StationSound
  simp only [Bool.and_eq_true, Bool.or_eq_true, decide_eq_true_eq, bne_iff_ne, beq_iff_eq, Option.isNone_iff_eq_none,
    binOfNode_eq_none, ne_eq]
  tauto

theorem StationKind.single_iff (k : StationKind) : k.single = true ↔ ¬(k = .insert ∨ k = .slotCheck) := by
  cases k <;> decide

theorem entriesAgree_iff {a b : StationEntry} : entriesAgree a b = true ↔ StationsApart a b ∧ StationsApart b a := by
  unfold entriesAgree StationsApart
  simp only [Bool.and_eq_true, bne_iff_ne, Bool.not_eq_true', Bool.eq_false_iff, ne_eq, beq_iff_eq, decide_eq_true_eq, and_imp,
    StationKind.single_iff, not_and, Nat.not_le, Nat.not_lt]
  constructor
  · rintro ⟨⟨⟨⟨⟨hnode, hsingle⟩, hinsert⟩, hinsert'⟩, hscan⟩, hscan'⟩
    have hkind (hk : a.kind = b.kind) : a.kind = .insert ∨ a.kind = .slotCheck := by
      by_contra hn
      exact hsingle hn hk
    exact ⟨⟨hnode, hkind, hinsert, hscan⟩, fun h => hnode h.symm, fun hk => hk ▸ hkind hk.symm, hinsert', hscan'⟩
  · rintro ⟨⟨hnode, hkind, hinsert, hscan⟩, -, -, hinsert', hscan'⟩
    exact ⟨⟨⟨⟨⟨hnode, fun hn hk => hn (hkind hk)⟩, hinsert⟩, hinsert'⟩, hscan⟩, hscan'⟩

/-- The checks of a table of 24 positions, read by position. -/
theorem tableOk_iff {t : Vector (Option StationEntry) 24} {s : State} :
    tableOk (tableEntries t) s = true ↔ StationsSound (fun i => (t[i]?).getD none) s := by
  have hat {i : Nat} {e : StationEntry} : (t[i]?).getD none = some e ↔ t[i]? = some (some e) := by
    cases t[i]? <;> simp
  have hlt {i : Nat} {e : StationEntry} (h : t[i]? = some (some e)) : i < 24 := (Vector.getElem?_eq_some_iff.mp h).1
  simp only [tableOk, Bool.and_eq_true, List.all_eq_true, decide_eq_true_eq, pairwise_tableEntries, StationsSound, hat,
    entryOk_iff, entriesAgree_iff, mem_tableEntries]
  constructor
  · rintro ⟨h1, h2⟩
    refine ⟨fun i _ e he => h1 e ⟨i, he⟩, fun i _ j _ hne a ha b hb => ?_⟩
    obtain h | h := Nat.lt_or_gt_of_ne hne
    · exact (h2 i j h a b ha hb).1
    · exact (h2 j i h b a hb ha).2
  · rintro ⟨h1, h2⟩
    refine ⟨fun e ⟨i, he⟩ => h1 i (hlt he) e he, fun i j hij a b ha hb => ⟨?_, ?_⟩⟩
    · exact h2 i (hlt ha) j (hlt hb) hij.ne a ha b hb
    · exact h2 j (hlt hb) i (hlt ha) hij.ne' b hb a ha

theorem tableAfter_eq_writeItems (first : Nat) (l : List (Option StationEntry)) (t : Vector (Option StationEntry) 24) :
    tableAfter first l t = writeItems (fun j => first + j) l 0 t := rfl

/-- What stands at each position after the items are written. -/
theorem tableAfter_at {first i : Nat} {l : List (Option StationEntry)} {s : State} (hi : i < 24) :
    ((tableAfter first l s.track.stations)[i]?).getD none = stationsLoaded first l s i := by
  rw [tableAfter_eq_writeItems, stationsLoaded]
  by_cases h : first ≤ i ∧ i < first + l.length
  · obtain ⟨hle, hlt⟩ := h
    have hx : l[i - first]? = some l[i - first] := List.getElem?_eq_getElem (by omega)
    rw [if_pos ⟨hle, hlt⟩, hx, writeItems_of_last hi l 0 _ hx (by omega) fun m hm _ => by omega]
  · rw [if_neg h, writeItems_of_ne l 0 _ fun j hj => by omega]
    unfold stationAt
    cases s.track.stations[i]? <;> rfl

/-- The checks look at the 24 positions only. -/
theorem stationsSound_congr {t u : Nat → Option StationEntry} {s : State} (h : ∀ i < 24, t i = u i) :
    StationsSound t s ↔ StationsSound u s := by
  unfold StationsSound
  constructor
  · rintro ⟨h1, h2⟩
    exact ⟨fun i hi e he => h1 i hi e ((h i hi).trans he),
      fun i hi j hj hne a ha b hb => h2 i hi j hj hne a ((h i hi).trans ha) b ((h j hj).trans hb)⟩
  · rintro ⟨h1, h2⟩
    exact ⟨fun i hi e he => h1 i hi e ((h i hi).symm.trans he),
      fun i hi j hj hne a ha b hb => h2 i hi j hj hne a ((h i hi).symm.trans ha) b ((h j hj).symm.trans hb)⟩

theorem loadedTableOk_iff {first : Nat} {l : List (Option StationEntry)} {s : State} :
    tableOk (tableEntries (tableAfter first l s.track.stations)) s = true ↔ StationsSound (stationsLoaded first l s) s :=
  tableOk_iff.trans (stationsSound_congr fun _ hi => tableAfter_at hi)

/-! ### The request -/

theorem loadStationRequest_of_some {items : List Byte} {first : Nat} {l : List (Option StationEntry)} {s : State}
    (hs : s.line.state = .idle) (h : readStations items = some (first, l)) (tag : Byte) :
    loadStationRequest tag items s =
      if 1 ≤ l.length && l.length ≤ 8 && first + l.length ≤ 24 &&
          tableOk (tableEntries (tableAfter first l s.track.stations)) s then
        sendAnswer tag .ok [] (s.setTrack { s.track with stations := tableAfter first l s.track.stations })
      else sendAnswer tag .range [] s := by
  unfold loadStationRequest
  rw [if_pos hs, h]

/-- Settles O51: the bytes are read item by item, and the table that would result is checked before it is written. -/
theorem stationLoadsKeepTheTableSound : Obligations.StationLoadsKeepTheTableSound := by
  intro h tag items s hc
  refine ⟨fun first l => readStations_iff, fun hs => take_request_answered hc (if_neg hs), fun hs =>
    ⟨fun hnone => take_request_answered hc ?_, fun first l hread => ⟨fun e he x hx => ?_, fun hbad =>
      take_request_answered hc ?_, fun h1 h8 h24 => ⟨fun hbad => take_request_answered hc ?_, fun hsound =>
        ⟨s.setTrack { s.track with stations := tableAfter first l s.track.stations }, take_request_answered hc ?_,
          fun i hi => ?_, ?_⟩⟩⟩⟩⟩
  · unfold loadStationRequest
    rw [if_pos hs, hnone]
  · obtain ⟨-, -, -, hall⟩ := readStations_iff.mp hread
    obtain ⟨j, hj⟩ := List.mem_iff_getElem?.mp he
    exact (hx ▸ hall j e hj).fresh
  · rw [loadStationRequest_of_some hs hread, if_neg]
    simp only [Bool.and_eq_true, decide_eq_true_eq]
    rintro ⟨⟨⟨h1, h8⟩, h24⟩, -⟩
    omega
  · rw [loadStationRequest_of_some hs hread, if_neg]
    simp only [Bool.and_eq_true]
    exact fun hok => hbad (loadedTableOk_iff.mp hok.2)
  · rw [loadStationRequest_of_some hs hread, if_pos]
    simp only [Bool.and_eq_true, decide_eq_true_eq]
    exact ⟨⟨⟨h1, h8⟩, h24⟩, loadedTableOk_iff.mpr hsound⟩
  · exact tableAfter_at hi
  · intro p hp
    cases p <;> first | rfl | exact absurd (by decide) hp

end Sys2Proof.Machine
end

section
/-! LOAD PROFILE: what its bytes read as, and what an accepted load leaves in every field (R14, R42, R50, R61, R144, R166). -/

namespace Sys2Proof.Machine

/-! ### The held flag (R14 to R16) -/

theorem holdFlow_held (s : State) : (holdFlow s).channel.held = true :=
  sendSupervisor_keeps (l := [.own]) (by decide) (.start _ (s.setChannel { s.channel with held := true })) _ .held (by decide)

/-- The check after a change of a mark sets the flag at H and clears it at the low mark. -/
theorem checkMarks_held (s : State) : (checkMarks s).channel.held =
    if s.channel.held then decide (s.queue.low < s.queue.records.length)
    else decide (s.queue.high ≤ s.queue.records.length) := by
  unfold checkMarks checkGo
  cases hheld : s.channel.held with
  | true =>
    rw [if_neg (by simp), if_pos rfl]
    split
    · rename_i h
      simp only [Bool.true_and, decide_eq_true_eq] at h
      rw [releaseFlow_held, eq_comm, decide_eq_false_iff_not]
      omega
    · rename_i h
      simp only [Bool.true_and, decide_eq_true_eq] at h
      rw [hheld, eq_comm, decide_eq_true_eq]
      omega
  | false =>
    rw [if_neg (c := false = true) (by decide)]
    split
    · rename_i h
      simp only [Bool.not_false, Bool.true_and] at h
      rw [holdFlow_held, h]
    · rename_i h
      simp only [Bool.not_false, Bool.true_and, Bool.not_eq_true] at h
      rw [if_neg (by simp), hheld, h]

/-! ### The bytes (R170) -/

theorem readProfile_of_length {items : List Byte} (h : items.length = 42) : readProfile items = some
    { stocks := [0, 6, 12, 18].map fun k =>
        StockFields.mk (byteAt items k) (wordAt items (k + 1)) (byteAt items (k + 3)) (wordAt items (k + 4))
      allowance := wordAt items 24, limit := wordAt items 26, letterLimit := wordAt items 28, flatLimit := wordAt items 30
      sheetLimit := byteAt items 32, strayLimit := byteAt items 33, length := byteAt items 34, pulses := wordAt items 35
      window := byteAt items 37, high := byteAt items 38, low := byteAt items 39, reserve := wordAt items 40 } := by
  have hword {k : Nat} (hk : k + 2 ≤ 42) : field items k 2 = wordAt items k := field_two items k (h ▸ hk)
  have hstock {k : Nat} (hk : k + 6 ≤ 42) : readStock items k =
      StockFields.mk (byteAt items k) (wordAt items (k + 1)) (byteAt items (k + 3)) (wordAt items (k + 4)) := by
    rw [readStock, field_one, field_one, hword (by omega), hword (by omega)]
  rw [readProfile, if_pos h]
  simp only [field_one, hword (show 24 + 2 ≤ 42 by decide), hword (show 26 + 2 ≤ 42 by decide),
    hword (show 28 + 2 ≤ 42 by decide), hword (show 30 + 2 ≤ 42 by decide), hword (show 35 + 2 ≤ 42 by decide),
    hword (show 40 + 2 ≤ 42 by decide), hstock (show 0 + 6 ≤ 42 by decide), hstock (show 6 + 6 ≤ 42 by decide),
    hstock (show 12 + 6 ≤ 42 by decide), hstock (show 18 + 6 ≤ 42 by decide), List.map_cons, List.map_nil]

theorem readProfile_stocks {items : List Byte} {p : ProfileFields} (h : readProfile items = some p) : p.stocks.length = 4 := by
  unfold readProfile at h
  split at h
  · cases h
    rfl
  · cases h

/-! ### The fields (R42, R50, R61) -/

theorem stockLoaded_eq (f : StockFields) (x : Stock) : x.load f.clamp = stockLoaded f x := by
  unfold Stock.load stockLoaded StockFields.clamp clampTo trimRing
  simp only [Bool.and_eq_true, decide_eq_true_eq, and_assoc]

theorem stockAt_loadStock {i j : Nat} (f : StockFields) (s : State) (h : i < 4) :
    stockAt j (loadStock i f s) = if j = i then stockLoaded f (stockAt i s) else stockAt j s := by
  rw [loadStock, stockAt_putStock _ _ _ _ h, stockLoaded_eq]

/-- Profiles loaded from stock `k` on. -/
def loadStocksFrom (k : Nat) (l : List StockFields) (s : State) : State := (l.zipIdx k).foldl (fun s x => loadStock x.2 x.1 s) s

theorem loadStocksFrom_cons (k : Nat) (f : StockFields) (l : List StockFields) (s : State) :
    loadStocksFrom k (f :: l) s = loadStocksFrom (k + 1) l (loadStock k f s) := rfl

theorem stockAt_loadStocksFrom_of_lt {i : Nat} : ∀ {k : Nat} {l : List StockFields} (s : State), i < k → k + l.length ≤ 4 →
    stockAt i (loadStocksFrom k l s) = stockAt i s
  | _, [], _, _, _ => rfl
  | k, f :: l, s, hi, hl => by
    rw [List.length_cons] at hl
    rw [loadStocksFrom_cons, stockAt_loadStocksFrom_of_lt _ (by omega) (by omega), stockAt_loadStock _ _ (by omega),
      if_neg (by omega)]

/-- Each profile loads its own stock. -/
theorem stockAt_loadStocksFrom {l : List StockFields} {f : StockFields} {k i : Nat} {s : State} (hl : k + l.length ≤ 4)
    (hf : l[i]? = some f) : stockAt (k + i) (loadStocksFrom k l s) = stockLoaded f (stockAt (k + i) s) := by
  induction l generalizing k i s with
  | nil => cases hf
  | cons g l ih =>
    rw [List.length_cons] at hl
    rw [loadStocksFrom_cons]
    cases i with
    | zero =>
      obtain rfl : g = f := Option.some.inj hf
      rw [stockAt_loadStocksFrom_of_lt _ (by omega) (by omega), stockAt_loadStock _ _ (by omega), if_pos (Nat.add_zero k)]
      rfl
    | succ i =>
      have hrest := ih (k := k + 1) (i := i) (s := loadStock k g s) (by omega) hf
      rwa [show k + 1 + i = k + (i + 1) by omega, stockAt_loadStock _ _ (by omega), if_neg (by omega)] at hrest

theorem stockAt_loadStocks {l : List StockFields} {i : Nat} {f : StockFields} (s : State) (hl : l.length = 4)
    (hf : l[i]? = some f) : stockAt i (loadStocks l s) = stockLoaded f (stockAt i s) := by
  have h := stockAt_loadStocksFrom (k := 0) (s := s) (by omega) hf
  rwa [Nat.zero_add] at h

/-- The fields written, with the held-flag check where a mark changed, before the permit is looked at. -/
def fieldsMarked (p : ProfileFields) (s : State) : State :=
  if p.high = s.queue.high && lowMark p = s.queue.low then loadFields p s else checkMarks (loadFields p s)

theorem writeProfile_eq_marked (p : ProfileFields) (s : State) : writeProfile p s = evalPermit (fieldsMarked p s) := rfl

theorem fieldsMarked_keeps (p : ProfileFields) (s : State) : KeepsAllBut [.own, .held] (loadFields p s) (fieldsMarked p s) := by
  unfold fieldsMarked
  split
  · exact .start _ _
  · exact checkMarks_keeps (by decide) (.start _ _)

theorem writeProfile_keeps_fields (p : ProfileFields) (s : State) :
    KeepsAllBut (.held :: permitParts) (loadFields p s) (writeProfile p s) := by
  rw [writeProfile_eq_marked]
  exact evalPermit_keeps (by decide) ((fieldsMarked_keeps p s).more (by decide))

theorem loadFields_held (p : ProfileFields) (s : State) : (loadFields p s).channel.held = s.channel.held :=
  loadFields_keeps p s .held (by decide)

theorem writeProfile_held (p : ProfileFields) (s : State) : (writeProfile p s).channel.held =
    if p.high ≠ s.queue.high ∨ min (p.high - 1) p.low ≠ s.queue.low then
      if s.channel.held then decide (min (p.high - 1) p.low < s.queue.records.length)
      else decide (p.high ≤ s.queue.records.length)
    else s.channel.held := by
  have hk := evalPermit_keeps (List.Subset.refl permitParts) (.start _ (fieldsMarked p s))
  have hrecords : (loadFields p s).queue.records = s.queue.records := loadFields_keeps p s .records (by decide)
  have hlow : (loadFields p s).queue.low = min (p.high - 1) p.low := rfl
  have hhigh : (loadFields p s).queue.high = p.high := rfl
  have hsame : (decide (p.high = s.queue.high) && decide (lowMark p = s.queue.low)) = true ↔
      p.high = s.queue.high ∧ min (p.high - 1) p.low = s.queue.low := by
    rw [Bool.and_eq_true, decide_eq_true_eq, decide_eq_true_eq, lowMark]
  rw [writeProfile_eq_marked]
  refine (hk .held (by decide)).trans ?_
  unfold fieldsMarked
  by_cases h : p.high = s.queue.high ∧ min (p.high - 1) p.low = s.queue.low
  · rw [if_pos (hsame.mpr h), if_neg (fun hn => hn.elim (· h.1) (· h.2)), loadFields_held]
  · rw [if_neg (fun hn => h (hsame.mp hn)), if_pos (Classical.not_and_iff_not_or_not.mp h), checkMarks_held, loadFields_held,
      hrecords, hlow, hhigh]

theorem profileInUse_iff {p : ProfileFields} {s : State} : profileInUse p s = true ↔ ProfileInUse p s := by
  simp only [profileInUse, ProfileInUse, Bool.and_eq_true, Bool.or_eq_true, bne_iff_ne, or_assoc]

theorem loadProfileRequest_of_some {items : List Byte} {p : ProfileFields} {s : State}
    (hs : s.line.state = .idle ∨ s.line.state = .ready) (h : readProfile items = some p) (tag : Byte) :
    loadProfileRequest tag items s =
      if profileInRange p s then
        if profileInUse p s then sendAnswer tag .inUse [] s else sendAnswer tag .ok [] (writeProfile p s)
      else sendAnswer tag .range [] s := by
  unfold loadProfileRequest
  rw [if_pos (by simpa using hs), h]

/-- Settles O50: the bytes are read by place, judged by the two steps, and each field's load is said once. -/
theorem profileLoadsWholeOrNotAtAll : Obligations.ProfileLoadsWholeOrNotAtAll := by
  intro h tag items s hc
  refine ⟨fun hlen => if_neg hlen, fun hlen => readProfile_of_length hlen, fun hi hr => take_request_answered hc (if_neg ?_),
    fun hs => ⟨fun hlen => take_request_answered hc ?_, fun p hread => ⟨fun hbad => take_request_answered hc ?_,
      fun hsound huse => take_request_answered hc ?_, fun hsound hfree => ⟨writeProfile p s, take_request_answered hc ?_, ?_⟩⟩⟩⟩
  · simp [hi, hr]
  · unfold loadProfileRequest
    rw [if_pos (by simpa using hs), show readProfile items = none from if_neg hlen]
  · rw [loadProfileRequest_of_some hs hread, if_neg fun hr => hbad (profileInRange_iff.mp hr)]
  · rw [loadProfileRequest_of_some hs hread, if_pos (profileInRange_iff.mpr hsound), if_pos (profileInUse_iff.mpr huse)]
  · rw [loadProfileRequest_of_some hs hread, if_pos (profileInRange_iff.mpr hsound),
      if_neg fun hu => hfree (profileInUse_iff.mp hu)]
  · have hk := writeProfile_keeps_fields p s
    obtain ⟨hlength, hpulses, hslots, hboundary, -⟩ := loadFields_track p s
    refine ⟨fun i f hf => ?_, hk .allowance (by decide), hk .limit (by decide), hk .letterLimit (by decide),
      hk .flatLimit (by decide), hk .sheetLimit (by decide), hk .strayLimit (by decide),
      (hk .length (by decide)).trans hlength, (hk .pulses (by decide)).trans hpulses, (hk .slots (by decide)).trans hslots,
      (hk .boundary (by decide)).trans hboundary, hk .window (by decide), hk .high (by decide), hk .low (by decide),
      hk .reserve (by decide), writeProfile_held p s, fun ho => ?_, ?_⟩
    · have hstocks : (writeProfile p s).caliper.stocks = (loadStocks p.stocks s).caliper.stocks := hk .stocks (by decide)
      refine Eq.trans ?_ (stockAt_loadStocks s (readProfile_stocks hread) hf)
      simp only [stockAt, hstocks]
    · have hfields : KeepsAllBut (.own :: .held :: fieldParts) s (fieldsMarked p s) :=
        ((loadFields_keeps p s).more (by decide)).trans ((fieldsMarked_keeps p s).more (by decide))
      exact evalPermit_outputs hfields (by decide) (by decide) ho
    · exact ((loadFields_keeps p s).more (by decide)).trans (hk.more (by decide))

end Sys2Proof.Machine
end

section
/-! STATION_MODE, BIN_MODE and RELEARN (R44, R78, R111). -/

namespace Sys2Proof.Machine

/-! ### STATION_MODE (R78) -/

theorem stationModeOf_eq_none : ∀ {n : Nat}, n = 0 ∨ 4 < n → stationModeOf n = none
  | 0, _ => rfl
  | 1, h | 2, h | 3, h | 4, h => absurd h (by decide)
  | _ + 5, _ => rfl

theorem stationModeRequest_of_length {operands : List Byte} (h : operands.length ≠ 2) (tag : Byte) (s : State) :
    stationModeRequest tag operands s = sendAnswer tag .range [] s := by
  unfold stationModeRequest
  dsimp only
  split
  · rfl
  · exact if_pos h

theorem stationModeRequest_of_none {m : Byte} (h : stationModeOf m.toNat = none) (tag position : Byte) (s : State) :
    stationModeRequest tag [position, m] s = sendAnswer tag .range [] s := by
  unfold stationModeRequest
  rw [field_one, field_one, byteAt_cons_succ, byteAt_cons_zero, byteAt_cons_zero, h]

theorem stationModeRequest_of_some {m : Byte} {x : StationMode} (h : stationModeOf m.toNat = some x) (tag position : Byte)
    (s : State) : stationModeRequest tag [position, m] s =
      if position.toNat = 255 then sendAnswer tag .ok [] (setAllModes x s)
      else match stationAt position.toNat s with
        | some e => sendAnswer tag .ok [] (putStation position.toNat (some { e with mode := x }) s)
        | none => sendAnswer tag .range [] s := by
  unfold stationModeRequest
  rw [field_one, field_one, byteAt_cons_succ, byteAt_cons_zero, byteAt_cons_zero, h]
  rfl

theorem stationAt_setAllModes (i : Nat) (m : StationMode) (s : State) :
    stationAt i (setAllModes m s) = (stationAt i s).map fun e => { e with mode := m } := by
  simp only [stationAt, setAllModes, State.setTrack_track, Vector.getElem?_map]
  cases s.track.stations[i]? <;> rfl

theorem byte_eq_255_iff {b : Byte} : b = 255 ↔ b.toNat = 255 :=
  ⟨fun h => h ▸ rfl, fun h => BitVec.eq_of_toNat_eq h⟩

theorem setAllModes_keeps' (m : StationMode) (s : State) : KeepsAllBut [.stations] s (setAllModes m s) :=
  setAllModes_keeps (List.Subset.refl _) (.start _ s) m

theorem stationMode_acts {h : Header} {tag position m : Byte} {s : State} (hc : Commanded h [tag, 11, position, m] s) :
    let went := fun code v => exec (.stationMode h tag [position, m]) s =
      .next (answered h 4 [tag, 11, position, m] tag code [] v)
    (m = 0 ∨ 4 < m.toNat → went .range s) ∧
    ∀ x, (m = 1 ∧ x = .normal) ∨ (m = 2 ∧ x = .force) ∨ (m = 3 ∧ x = .skip) ∨ (m = 4 ∧ x = .off) →
      (position = 255 → ∃ v, went .ok v ∧
        (∀ i, stationAt i v = (stationAt i s).map fun e => { e with mode := x }) ∧ KeepsAllBut [.stations] s v) ∧
      (∀ e, stationAt position.toNat s = some e →
        went .ok (putStation position.toNat (some { e with mode := x }) s)) ∧
      (position ≠ 255 → stationAt position.toNat s = none → went .range s) := by
  refine ⟨fun hm => take_request_answered hc (stationModeRequest_of_none (stationModeOf_eq_none ?_) ..), fun x hx => ?_⟩
  · exact hm.imp_left fun h => congrArg BitVec.toNat h
  · have hmode : stationModeOf m.toNat = some x := by
      obtain ⟨rfl, rfl⟩ | ⟨rfl, rfl⟩ | ⟨rfl, rfl⟩ | ⟨rfl, rfl⟩ := hx <;> rfl
    refine ⟨fun hall => ⟨setAllModes x s, take_request_answered hc ?_, fun i => stationAt_setAllModes i x s,
      setAllModes_keeps' x s⟩, fun e he => take_request_answered hc ?_, fun hne hnone => take_request_answered hc ?_⟩
    · exact (stationModeRequest_of_some hmode ..).trans (if_pos (byte_eq_255_iff.mp hall))
    · have hlt := stationAt_lt he
      rw [stationModeRequest_of_some hmode, if_neg (by omega), he]
    · rw [stationModeRequest_of_some hmode, if_neg fun h => hne (byte_eq_255_iff.mpr h), hnone]

/-! ### BIN_MODE (R111) -/

/-- A bin beyond 31 is not loaded. -/
theorem binLoaded_iff {b : Nat} {s : State} : binLoaded b s = true ↔ (binAt b s).node ≠ none := by
  simp only [binLoaded, Bool.and_eq_true, decide_eq_true_eq, Option.isSome_iff_ne_none]
  refine ⟨fun h => h.2, fun h => ⟨?_, h⟩⟩
  by_contra hb
  rw [binAt_of_le (by omega)] at h
  exact h rfl

theorem binOnRequest_of_loaded {bin : Byte} {s : State} (h : (binAt bin.toNat s).node ≠ none) (tag : Byte) :
    binOnRequest tag bin s = sendAnswer tag .ok [] (binOn bin.toNat s) := if_pos (binLoaded_iff.mpr h)

theorem binOnRequest_of_unloaded {bin : Byte} {s : State} (h : (binAt bin.toNat s).node = none) (tag : Byte) :
    binOnRequest tag bin s = sendAnswer tag .range [] s := if_neg fun hl => binLoaded_iff.mp hl h

theorem binOffRequest_of_loaded {bin : Byte} {s : State} (h : (binAt bin.toNat s).node ≠ none) (tag : Byte) :
    binOffRequest tag bin s = sendAnswer tag .ok [] (binOff bin.toNat s) := if_pos (binLoaded_iff.mpr h)

theorem binOffRequest_of_unloaded {bin : Byte} {s : State} (h : (binAt bin.toNat s).node = none) (tag : Byte) :
    binOffRequest tag bin s = sendAnswer tag .range [] s := if_neg fun hl => binLoaded_iff.mp hl h

/-- A bin turned OFF, its bundle still open. -/
def binTurnedOff (b : Nat) (s : State) : State := putBin b { binAt b s with state := .off } s

theorem binAt_binTurnedOff {b : Nat} (hb : b < 32) (c : Nat) (s : State) :
    binAt c (binTurnedOff b s) = if c = b then { binAt b s with state := .off } else binAt c s :=
  binAt_putBin _ _ _ _ hb

theorem binTurnedOff_self {b : Nat} (hb : b < 32) (s : State) :
    binAt b (binTurnedOff b s) = { binAt b s with state := .off } := (binAt_binTurnedOff hb b s).trans (if_pos rfl)

/-- Turned OFF with pieces in flight, or without an open bundle, the bin is only turned off. -/
theorem binOff_of_open {b : Nat} {s : State} (hb : b < 32) (h : (binAt b s).flights ≠ [] ∨ (binAt b s).bundle = none) :
    binOff b s = binTurnedOff b s := by
  obtain h | h := h
  · refine (closeIfOff_eq b (binTurnedOff b s)).trans (if_neg fun he => h ?_)
    rw [Bin.Emptied, binTurnedOff_self hb] at he
    exact he.2
  · exact closeIfOff_of_none (s := binTurnedOff b s) (by rw [binTurnedOff_self hb]; exact h)

/-- Turned OFF with nothing in flight, the bin closes its bundle. -/
theorem binOff_of_emptied {b : Nat} {s : State} (hb : b < 32) (h : (binAt b s).flights = []) :
    binOff b s = closeBundle b .binOff (binTurnedOff b s) := by
  refine (closeIfOff_eq b (binTurnedOff b s)).trans (if_pos ?_)
  rw [Bin.Emptied, binTurnedOff_self hb]
  exact ⟨rfl, h⟩

/-- The BUNDLE record of a bin whose group is known. -/
theorem bundleLog_of_group {b g : Nat} {s : State} (h : groupOfBin b s = some g) (cause : CloseCause) (u : Bundle) :
    bundleLog b cause u s =
      { bin := b, group := g, key := u.key, count := u.count
        level := if (groupAt g s).minimum ≤ u.count then u.level else (groupAt g s).demote
        cause := cause, entry := u.entry, first := u.first, last := u.last
        demoted := decide (u.count < (groupAt g s).minimum), continued := u.continued } := by
  unfold bundleLog judgingGroup
  rw [h]
  rfl

theorem binModeOff_closes {h : Header} {tag bin : Byte} {s : State} (hc : Commanded h [tag, 12, bin, 2] s)
    (hloaded : (binAt bin.toNat s).node ≠ none) (hflights : (binAt bin.toNat s).flights = [])
    (hbundle : (binAt bin.toNat s).bundle ≠ none) : ∃ v,
      exec (.binModeOff h tag bin) s = .next (answered h 4 [tag, 12, bin, 2] tag .ok [] v) ∧
      binAt bin.toNat v = { binAt bin.toNat s with
        state := .off, bundle := none, trayBundles := (binAt bin.toNat s).trayBundles + 1 } ∧
      (∀ c, c ≠ bin.toNat → binAt c v = binAt c s) ∧
      (∀ u g, (binAt bin.toNat s).bundle = some u → groupOfBin bin.toNat s = some g → LogTook (.bundle
        { bin := bin.toNat, group := g, key := u.key, count := u.count
          level := if (groupAt g s).minimum ≤ u.count then u.level else (groupAt g s).demote
          cause := .binOff, entry := u.entry, first := u.first, last := u.last
          demoted := decide (u.count < (groupAt g s).minimum), continued := u.continued }) s v) ∧
      StationsKept id (s.ring.own.length < 32) s v ∧ AlertsKeptBut [.reserve, .station] s v ∧
      KeepsAllBut closeParts s v := by
  have hb : bin.toNat < 32 := lt_of_binLoaded (binLoaded_iff.mpr hloaded)
  have hoff : Wrote [] 0 s (binTurnedOff bin.toNat s) := putBin_wrote _ _ s
  have hw := hoff.trans (closeBundle_wrote (b := bin.toNat) (cause := .binOff) (by decide) (binTurnedOff bin.toNat s))
  have hself := binTurnedOff_self hb s
  refine ⟨binOff bin.toNat s, take_request_answered hc (binOffRequest_of_loaded hloaded tag), ?_⟩
  rw [binOff_of_emptied hb hflights]
  refine ⟨?_, fun c hne => ?_, fun u g hu hg => ?_, hw.stations.mono fun hroom => .inl (by omega), hw.alerts, ?_⟩
  · rw [binAt_closeBundle hb (by decide), if_pos rfl, hself, Bin.bundleClosed, if_neg hbundle]
  · rw [binAt_closeBundle hb (by decide), if_neg hne, binAt_binTurnedOff hb, if_neg hne]
  · have took := hw.took
    rw [List.nil_append, hself] at took
    rw [closeRecord_eq_of_keeps hoff.keeps (by decide)] at took
    have hrec : closeRecord bin.toNat .binOff (binAt bin.toNat s).bundle s = [.bundle (bundleLog bin.toNat .binOff u s)] := by
      rw [hu]
      rfl
    rw [← bundleLog_of_group hg]
    exact LogTookAll.one.mp (hrec ▸ took)
  · exact closeBundle_keeps (List.Subset.refl _) (putBin_keeps (by decide) (.start _ s) _ _) _ _

/-- A BIN_MODE frame that is neither ON nor OFF. -/
theorem binModeRequest_of_bad {operands : List Byte}
    (h : operands.length ≠ 2 ∨ ∃ bin m, operands = [bin, m] ∧ m ≠ 1 ∧ m ≠ 2) (tag : Byte) (s : State) :
    binModeRequest tag operands s = sendAnswer tag .range [] s := by
  unfold binModeRequest
  split
  · rename_i bin mode
    obtain h | ⟨_, _, heq, h1, h2⟩ := h
    · exact absurd rfl h
    · cases heq
      rw [if_neg h1, if_neg h2]
  · rfl

/-- A management frame of the supervisor that no command of its own stands for acts as the row of its kind. -/
theorem exec_forwardFrame_of_commanded {h : Header} {kind : Byte} {payload : List Byte} {tag : Byte} {code : AnswerCode}
    {content : List Byte} {s v : State} (hc : Commanded h payload s) (h1 : 1 ≤ kind.toNat) (h6 : kind.toNat ≤ 6)
    (hw : managementWork kind payload s = sendAnswer tag code content v) :
    exec (.forwardFrame { header := h, kind := kind, payload := payload }) s =
      .next (answered h kind payload tag code content v) := by
  obtain ⟨hs, h0, h63, hsrc, hdst, hlen⟩ := hc
  have haction : frameAction { header := h, kind := kind, payload := payload } s = some (sendAnswer tag code content v) := by
    rw [frameAction_of_management h1 h6, manage, if_pos (fromSupervisor_iff.mpr ⟨h0, h63, hsrc, hdst⟩), hw]
  rw [exec_forwardFrame hs hlen (hsrc ▸ h0), if_pos hdst, haction]
  rfl

/-! ### RELEARN (R44) -/

theorem relearn_acts {h : Header} {tag : Byte} {operands : List Byte} {s : State} (hc : Commanded h (tag :: 13 :: operands) s) :
    let went := fun code v => exec (.relearn h tag operands) s =
      .next (answered h 4 (tag :: 13 :: operands) tag code [] v)
    (operands.length ≠ 1 → went .range s) ∧
    ∀ i, operands = [i] →
      (3 < i.toNat → i ≠ 255 → went .range s) ∧
      (i.toNat ≤ 3 → went .ok (putStock i.toNat { stockAt i.toNat s with ring := [] } s)) ∧
      (i = 255 → ∃ v, went .ok v ∧ (∀ k, k < 4 → stockAt k v = { stockAt k s with ring := [] }) ∧
        KeepsAllBut [.stocks] s v) := by
  refine ⟨fun hlen => take_request_answered hc (if_pos hlen), ?_⟩
  rintro i rfl
  have hwork : relearnRequest tag [i] s =
      if i.toNat = 255 then sendAnswer tag .ok [] (emptyRings s)
      else if i.toNat ≤ 3 then sendAnswer tag .ok [] (putStock i.toNat (stockAt i.toNat s).relearn s)
      else sendAnswer tag .range [] s := by
    unfold relearnRequest
    rw [field_one, byteAt_cons_zero]
    rfl
  refine ⟨fun h3 hne => take_request_answered hc ?_, fun h3 => take_request_answered hc ?_, fun hall =>
    ⟨emptyRings s, take_request_answered hc ?_, fun k _ => stockAt_emptyRings k s,
      emptyRings_keeps (List.Subset.refl _) (.start _ s)⟩⟩
  · rw [hwork, if_neg fun h => hne (byte_eq_255_iff.mpr h), if_neg (by omega)]
  · rw [hwork, if_neg (by omega), if_pos h3]
    rfl
  · rw [hwork, if_pos (byte_eq_255_iff.mp hall)]

/-- Settles O54: each request by what it names. -/
theorem modesAndRelearnAct : Obligations.ModesAndRelearnAct := by
  refine ⟨fun h tag operands s hc hlen => take_request_answered hc (stationModeRequest_of_length hlen tag s),
    fun h tag position m s hc => stationMode_acts hc, fun h tag bin s => ⟨fun hc => ⟨fun hnone => ?_, fun hloaded => ?_⟩,
      fun hc => ⟨fun hnone => ?_, fun hloaded hopen => ?_, fun hloaded hflights hbundle => ?_⟩⟩,
    fun h tag operands s hc hbad => ?_, fun h tag operands s hc => relearn_acts hc⟩
  · exact take_request_answered hc (binOnRequest_of_unloaded hnone tag)
  · exact take_request_answered hc (binOnRequest_of_loaded hloaded tag)
  · exact take_request_answered hc (binOffRequest_of_unloaded hnone tag)
  · have hb : bin.toNat < 32 := lt_of_binLoaded (binLoaded_iff.mpr hloaded)
    refine take_request_answered hc ((binOffRequest_of_loaded hloaded tag).trans ?_)
    rw [binOff_of_open hb hopen]
    rfl
  · exact binModeOff_closes hc hloaded hflights hbundle
  · exact exec_forwardFrame_of_commanded hc (by decide) (by decide) (binModeRequest_of_bad hbad tag s)

end Sys2Proof.Machine
end

section
/-! Job records: the bytes of a RECORD, its four steps, its acceptance, and REPRINT_READ (R2 to R9, R15, R129, R170). -/

namespace Sys2Proof.Machine

/-! ### The bytes of a record (R170) -/

theorem toNat_byteOf_mod (n : Nat) : (byteOf n).toNat = n % 256 := BitVec.toNat_ofNat n 8

theorem readSelections_bytes : ∀ {l : List Selection},
    (∀ x ∈ l, x.station < 256 ∧ ∀ p, x.mode = .optional p → p < 8) →
    readSelections (l.flatMap fun x => [byteOf x.station, x.mode.byte]) = l
  | [], _ => rfl
  | ⟨station, mode⟩ :: l, h => by
    obtain ⟨hx, hl⟩ := List.forall_mem_cons.mp h
    obtain ⟨hstation, hmode⟩ := hx
    have hread : (if mode.byte.msb then SelectionMode.mandatory else .optional (mode.byte.toNat % 8)) = mode := by
      cases mode with
      | mandatory => rfl
      | optional p =>
        have hp := hmode p rfl
        have hb : (SelectionMode.optional p).byte.toNat = p := by
          rw [SelectionMode.byte, toNat_byteOf_mod]
          omega
        rw [BitVec.msb_eq_decide, hb, if_neg (by simp; omega), Nat.mod_eq_of_lt hp]
    rw [List.flatMap_cons]
    show Selection.mk (byteOf station).toNat _ :: readSelections (l.flatMap _) = _
    rw [hread, toNat_byteOf hstation, readSelections_bytes hl]

/-- Eleven bytes, the number of selections and the selections read as a record. -/
theorem readRecord_layout (b0 b1 b2 b3 b4 b5 b6 b7 b8 b9 b10 : Byte) {l : List Selection} (hlen : l.length < 256)
    (hl : ∀ x ∈ l, x.station < 256 ∧ ∀ p, x.mode = .optional p → p < 8) :
    readRecord ([b0, b1, b2, b3, b4, b5, b6, b7, b8, b9, b10] ++
      byteOf l.length :: l.flatMap fun x => [byteOf x.station, x.mode.byte]) = some
      { seq := (b0.toNat * 256 + b1.toNat) * 256 + b2.toNat, inc := b3.toNat / 16, reprint := b3.toNat / 4 % 2 == 1
        pages := b4.toNat, panels := b5.toNat, selections := l
        dest :=
          { required := [b6.toNat / 16, b6.toNat % 16, b7.toNat / 16, b7.toNat % 16, b8.toNat / 16]
            extra := if b10.toNat % 2 == 1 then some [b8.toNat % 16, b9.toNat / 16, b9.toNat % 16, b10.toNat / 16] else none }
        matchRequired := b3.toNat / 2 % 2 == 1, handFinish := b3.toNat % 2 == 1 } := by
  have hbytes : (l.flatMap fun x => [byteOf x.station, x.mode.byte]).length = 2 * l.length := by
    rw [List.length_flatMap]
    simp [Nat.mul_comm]
  have hseq (rest : List Byte) : field (b0 :: b1 :: b2 :: rest) 0 3 = (b0.toNat * 256 + b1.toNat) * 256 + b2.toNat := by
    simp [field, ofBe]
  unfold readRecord destinationNibbles
  simp only [List.cons_append, List.nil_append, hseq, field_one, byteAt_cons_succ, byteAt_cons_zero, toNat_byteOf hlen]
  rw [if_pos (by simp [hbytes]; omega)]
  simp only [List.drop_succ_cons, List.drop_zero, readSelections_bytes hl]
  rfl

/-- The flag byte of a record. -/
theorem recordFlags (inc : Nat) (a b c : Bool) (h : inc < 16) :
    let n := (byteOf (inc % 16 * 16 + (if a then 4 else 0) + (if b then 2 else 0) + (if c then 1 else 0))).toNat
    n / 16 = inc ∧ (n / 4 % 2 == 1) = a ∧ (n / 2 % 2 == 1) = b ∧ (n % 2 == 1) = c := by
  dsimp only
  rw [toNat_byteOf_mod]
  refine ⟨?_, ?_, ?_, ?_⟩
  · cases a <;> cases b <;> cases c <;> simp only [Bool.false_eq_true, if_true, if_false] <;> omega
  · rw [Bool.eq_iff_iff, beq_iff_eq]
    cases a <;> cases b <;> cases c <;> simp only [Bool.false_eq_true, if_true, if_false, iff_true, iff_false] <;> omega
  · rw [Bool.eq_iff_iff, beq_iff_eq]
    cases a <;> cases b <;> cases c <;> simp only [Bool.false_eq_true, if_true, if_false, iff_true, iff_false] <;> omega
  · rw [Bool.eq_iff_iff, beq_iff_eq]
    cases a <;> cases b <;> cases c <;> simp only [Bool.false_eq_true, if_true, if_false, iff_true, iff_false] <;> omega

theorem nibblePair {a b : Nat} (ha : a < 16) (hb : b < 16) :
    (byteOf (a * 16 + b % 16)).toNat / 16 = a ∧ (byteOf (a * 16 + b % 16)).toNat % 16 = b := by
  rw [toNat_byteOf_mod]
  omega

theorem sequenceBytes {n : Nat} (h : n < 16777216) :
    ((byteOf (n / 65536)).toNat * 256 + (byteOf (n / 256)).toNat) * 256 + (byteOf n).toNat = n := by
  simp only [toNat_byteOf_mod]
  omega

/-- Settles O17: each field of the layout is read back. -/
theorem recordBytesReadBack : Obligations.RecordBytesReadBack := by
  intro r hseq hinc hpages hpanels hlen hsel hreq hdigits hextra
  obtain ⟨i0, i1, i2, i3⟩ := recordFlags r.inc r.reprint r.matchRequired r.handFinish hinc
  have hseqs := sequenceBytes hseq
  match hr : r.dest.required, hreq, hdigits with
  | [a, b, c, d, e], _, hdigits =>
    have ha : a < 16 := hdigits a (by simp)
    have hb : b < 16 := hdigits b (by simp)
    have hc : c < 16 := hdigits c (by simp)
    have hd : d < 16 := hdigits d (by simp)
    have he : e < 16 := hdigits e (by simp)
    obtain ⟨j0, j1⟩ := nibblePair ha hb
    obtain ⟨k0, k1⟩ := nibblePair hc hd
    cases hx : r.dest.extra with
    | none =>
      have hbody := readRecord_layout (byteOf (r.seq / 65536)) (byteOf (r.seq / 256)) (byteOf r.seq)
        (byteOf (r.inc % 16 * 16 + (if r.reprint then 4 else 0) + (if r.matchRequired then 2 else 0) +
          (if r.handFinish then 1 else 0))) (byteOf r.pages) (byteOf r.panels) (byteOf (a * 16 + b % 16))
        (byteOf (c * 16 + d % 16)) (byteOf (e * 16)) 0 0 (l := r.selections) (by omega) hsel
      rw [i0, i1, i2, i3, hseqs, j0, j1, k0, k1, toNat_byteOf hpages, toNat_byteOf hpanels, toNat_byteOf_mod,
        show e * 16 % 256 / 16 = e by omega] at hbody
      rw [jobBytes_of_short hr hx, beBytes_three]
      refine hbody.trans (congrArg some ?_)
      rw [← hr]
      exact (congrArg (fun o => { r with dest := { r.dest with extra := o } }) hx).symm
    | some l =>
      obtain ⟨hlength, hl⟩ := hextra l hx
      match l, hlength, hl with
      | [w, x, y, z], _, hl =>
        have hw : w < 16 := hl w (by simp)
        have hx' : x < 16 := hl x (by simp)
        have hy : y < 16 := hl y (by simp)
        have hz : z < 16 := hl z (by simp)
        obtain ⟨m0, m1⟩ := nibblePair he hw
        obtain ⟨n0, n1⟩ := nibblePair hx' hy
        have hbody := readRecord_layout (byteOf (r.seq / 65536)) (byteOf (r.seq / 256)) (byteOf r.seq)
          (byteOf (r.inc % 16 * 16 + (if r.reprint then 4 else 0) + (if r.matchRequired then 2 else 0) +
            (if r.handFinish then 1 else 0))) (byteOf r.pages) (byteOf r.panels) (byteOf (a * 16 + b % 16))
          (byteOf (c * 16 + d % 16)) (byteOf (e * 16 + w % 16)) (byteOf (x * 16 + y % 16)) (byteOf (z * 16 + 1))
          (l := r.selections) (by omega) hsel
        have hlast : (byteOf (z * 16 + 1)).toNat % 2 = 1 ∧ (byteOf (z * 16 + 1)).toNat / 16 = z := by
          rw [toNat_byteOf_mod]
          omega
        obtain ⟨o0, o1⟩ := hlast
        rw [i0, i1, i2, i3, hseqs, j0, j1, k0, k1, m0, m1, n0, n1, o0, o1, toNat_byteOf hpages, toNat_byteOf hpanels] at hbody
        rw [jobBytes_of_long hr hx, beBytes_three]
        refine hbody.trans (congrArg some ?_)
        rw [← hr]
        exact (congrArg (fun o => { r with dest := { r.dest with extra := o } }) hx).symm

/-! ### The four steps (R2, R3, R5, R6) -/

theorem namesInsert_iff {x : Selection} {s : State} :
    namesInsert x s = true ↔ ∃ e, stationAt x.station s = some e ∧ e.kind = .insert := by
  unfold namesInsert
  cases stationAt x.station s with
  | none => simp
  | some e => simp

theorem structureOk_iff {r : JobRecord} {s : State} : structureOk r s = true ↔ RecordSound r s := by
  have hextra : (r.dest.extra.getD []).all (fun d => decide (d ≤ 9)) = true ↔
      ∀ l, r.dest.extra = some l → ∀ d ∈ l, d ≤ 9 := by
    cases r.dest.extra <;> simp
  have hinc : (r.reprint || r.inc == 0) = true ↔ (r.reprint = false → r.inc = 0) := by
    cases r.reprint <;> simp
  unfold structureOk RecordSound
  rw [← hextra, ← hinc]
  simp only [Bool.and_eq_true, decide_eq_true_eq, List.all_eq_true, namesInsert_iff, and_assoc]

theorem judgeRecord_of_closed {body : List Byte} {s : State} (h : ¬IntakeOpen s) : judgeRecord body s = .error .state :=
  if_neg fun ho => h (intakeOpen_iff.mp ho)

theorem judgeRecord_of_unsound {body : List Byte} {s : State} (ho : IntakeOpen s)
    (h : ∀ r, readRecord body = some r → ¬RecordSound r s) : judgeRecord body s = .error .range := by
  unfold judgeRecord
  rw [if_pos (intakeOpen_iff.mpr ho)]
  cases hr : readRecord body with
  | none => rfl
  | some r => exact if_neg fun hs => h r hr (structureOk_iff.mp hs)

section
variable {body : List Byte} {r : JobRecord} {s : State}

/-- A sound record is judged by its sequence and then by the queue. -/
theorem judgeRecord_of_sound (ho : IntakeOpen s) (hr : readRecord body = some r) (hs : RecordSound r s) :
    judgeRecord body s = match sequenceRefusal r s with
      | some code => .error code
      | none => if 64 ≤ s.queue.records.length then .error .full else .ok (r.clamp s.collation.sheetLimit) := by
  unfold judgeRecord
  rw [if_pos (intakeOpen_iff.mpr ho), hr]
  exact if_pos (structureOk_iff.mpr hs)

theorem sequenceRefusal_of_limit (h : s.line.counters.accepted = 16777215) : sequenceRefusal r s = some .limit := if_pos h

theorem sequenceRefusal_of_reprint (h : s.line.counters.accepted ≠ 16777215) (hr : r.reprint = true) :
    sequenceRefusal r s = reprintRefusal r s := by
  unfold sequenceRefusal
  rw [if_neg h, if_pos hr]

theorem sequenceRefusal_of_late {n : Nat} (h : s.line.counters.accepted ≠ 16777215) (hr : r.reprint = false)
    (hn : s.queue.last = some n) (hle : r.seq ≤ n) : sequenceRefusal r s = some .sequence := by
  unfold sequenceRefusal
  rw [if_neg h, if_neg (by simp [hr]), hn]
  exact if_neg (by omega)

theorem reprintRefusal_of_unknown
    (h : entryOf r.seq s = none ∨ ∃ e, entryOf r.seq s = some e ∧ (e.state = .queued ∨ (e.inc ≠ 15 ∧ r.inc ≠ e.inc + 1))) :
    reprintRefusal r s = some .unknownReprint := by
  unfold reprintRefusal
  obtain h | ⟨e, h, hq⟩ := h
  · rw [h]
  · rw [h]
    dsimp only
    obtain hq | ⟨h15, hinc⟩ := hq
    · exact if_pos hq
    · rw [if_neg h15, if_neg hinc, ite_self]

theorem reprintRefusal_of_limit {e : ReprintEntry} (h : entryOf r.seq s = some e) (hq : e.state ≠ .queued) (h15 : e.inc = 15) :
    reprintRefusal r s = some .limit := by
  unfold reprintRefusal
  rw [h]
  dsimp only
  rw [if_neg hq, if_pos h15]

theorem sequenceRefusal_of_admits (h : SequenceAdmits r s) : sequenceRefusal r s = none := by
  obtain ⟨hlimit, hnew, hre⟩ := h
  cases hr : r.reprint with
  | true =>
    obtain ⟨e, he, hq, h15, hinc⟩ := hre hr
    rw [sequenceRefusal_of_reprint hlimit hr, reprintRefusal, he]
    dsimp only
    rw [if_neg hq, if_neg h15, if_pos hinc]
  | false =>
    unfold sequenceRefusal
    rw [if_neg hlimit, if_neg (by simp [hr])]
    split
    · rfl
    · rename_i n hn
      exact if_pos (hnew hr n hn)

theorem recordRequest_of_refused {code : AnswerCode} (h : judgeRecord body s = .error code) (hc : code ≠ .full) (tag : Byte) :
    recordRequest tag body s = sendAnswer tag code [] s := by
  unfold recordRequest
  rw [h]
  cases code <;> first | rfl | exact absurd rfl hc

theorem recordRequest_of_full (h : judgeRecord body s = .error .full) (tag : Byte) :
    recordRequest tag body s = sendAnswer tag .full [] (raiseAlert .recordOverrun s) := by
  unfold recordRequest
  rw [h]

theorem recordRequest_of_accepted {x : JobRecord} (h : judgeRecord body s = .ok x) (tag : Byte) :
    recordRequest tag body s = acceptRecord x s := by
  unfold recordRequest
  rw [h]

end

/-- Settles O16: the first step that refuses gives the code. -/
theorem recordRefusedInOrder : Obligations.RecordRefusedInOrder := by
  intro h tag body s hc
  refine ⟨fun hclosed => ?_, fun ho hbad => ?_, fun r ho hr hs => ⟨fun hlimit => ?_, fun hne hnew hlate => ?_,
    fun hne hre hunknown => ?_, fun hne hre hlimit => ?_, fun hadmits hfull => ?_⟩⟩
  · exact take_request_answered hc (recordRequest_of_refused (judgeRecord_of_closed hclosed) (by decide) tag)
  · exact take_request_answered hc (recordRequest_of_refused (judgeRecord_of_unsound ho hbad) (by decide) tag)
  · have hj := judgeRecord_of_sound ho hr hs
    rw [sequenceRefusal_of_limit hlimit] at hj
    exact take_request_answered hc (recordRequest_of_refused hj (by decide) tag)
  · obtain ⟨n, hn, hle⟩ := hlate
    have hj := judgeRecord_of_sound ho hr hs
    rw [sequenceRefusal_of_late hne hnew hn hle] at hj
    exact take_request_answered hc (recordRequest_of_refused hj (by decide) tag)
  · have hj := judgeRecord_of_sound ho hr hs
    rw [sequenceRefusal_of_reprint hne hre, reprintRefusal_of_unknown hunknown] at hj
    exact take_request_answered hc (recordRequest_of_refused hj (by decide) tag)
  · obtain ⟨e, he, hq, h15⟩ := hlimit
    have hj := judgeRecord_of_sound ho hr hs
    rw [sequenceRefusal_of_reprint hne hre, reprintRefusal_of_limit he hq h15] at hj
    exact take_request_answered hc (recordRequest_of_refused hj (by decide) tag)
  · have hj := judgeRecord_of_sound ho hr hs
    rw [sequenceRefusal_of_admits hadmits] at hj
    dsimp only at hj
    rw [if_pos hfull] at hj
    exact take_request_answered hc (recordRequest_of_full hj tag)

/-! ### The acceptance (R4, R7, R15) -/

theorem clamp_eq_adjusted (limit : Nat) (r : JobRecord) : r.clamp limit = adjusted limit r := by
  have h (x : Selection) : x.clamp = { x with mode := if x.mode = .optional 0 then .optional 1 else x.mode } := by
    unfold Selection.clamp
    split
    · rename_i hm
      rw [if_pos hm]
    · rename_i hm
      rw [if_neg hm]
  unfold JobRecord.clamp adjusted
  rw [funext h]

theorem find?_updateEntry {test : ReprintEntry → Bool} {change : ReprintEntry → ReprintEntry}
    (hc : ∀ e, test (change e) = test e) (l : List ReprintEntry) :
    (updateEntry test change l).find? test = (l.find? test).map change := by
  induction l with
  | nil => rfl
  | cons e rest ih =>
    unfold updateEntry
    cases h : test e with
    | true => rw [if_pos rfl, List.find?_cons_of_pos (by rw [hc, h]), List.find?_cons_of_pos h]; rfl
    | false => rw [if_neg (by decide), List.find?_cons_of_neg (by simp [h]), List.find?_cons_of_neg (by simp [h]), ih]

/-- An entry that the test does not pick stays in its place. -/
theorem getElem?_updateEntry_of_not {test : ReprintEntry → Bool} {change : ReprintEntry → ReprintEntry} {e : ReprintEntry}
    (he : test e = false) : ∀ {l : List ReprintEntry} {i : Nat}, l[i]? = some e → (updateEntry test change l)[i]? = some e
  | x :: l, 0, h => by
    obtain rfl : x = e := Option.some.inj h
    unfold updateEntry
    rw [if_neg (by simp [he])]
    rfl
  | x :: l, i + 1, h => by
    unfold updateEntry
    split
    · exact h
    · exact getElem?_updateEntry_of_not he (l := l) h

/-- The record joined, and the permit looked at where the queue was empty. -/
def recordJoined (x : JobRecord) (s : State) : State :=
  if s.queue.records.isEmpty then evalPermit (joinQueue x s) else joinQueue x s

theorem acceptRecord_eq_checkHold (x : JobRecord) (s : State) : acceptRecord x s = checkHold (recordJoined x s) :=
  acceptRecord_eq x s

theorem recordJoined_keeps (x : JobRecord) (s : State) : KeepsAllBut permitParts (joinQueue x s) (recordJoined x s) := by
  unfold recordJoined
  split
  · exact evalPermit_keeps (List.Subset.refl _) (.start _ _)
  · exact .start _ _

theorem checkHold_held (s : State) : (checkHold s).channel.held =
    (s.channel.held || decide (s.queue.records.length = s.queue.high)) := by
  unfold checkHold
  by_cases h : s.queue.records.length = s.queue.high
  · rw [decide_eq_true h, Bool.or_true]
    split
    · exact holdFlow_held s
    · rename_i hn
      simpa [h] using hn
  · rw [if_neg (by simp [h]), decide_eq_false h, Bool.or_false]

/-- RECORD_HOLD is queued when the count reaches H with the flag clear and the supervisor can be told. -/
theorem checkHold_own {s : State} (h0 : s.supervisor ≠ 0) (h63 : s.supervisor ≠ 63) : (checkHold s).ring.own =
    if s.channel.held = false ∧ s.queue.records.length = s.queue.high ∧ s.ring.own.length < 32
    then s.ring.own ++ [⟨s.supervisor, .recordHold⟩] else s.ring.own := by
  unfold checkHold
  by_cases h : s.channel.held = false ∧ s.queue.records.length = s.queue.high
  · obtain ⟨hheld, hhigh⟩ := h
    rw [if_pos (by simp [hheld, hhigh]), holdFlow, sendSupervisor_own]
    show (if s.supervisor ≠ 0 ∧ s.supervisor ≠ 63 ∧ s.ring.own.length < 32 then s.ring.own ++ [⟨s.supervisor, .recordHold⟩]
      else s.ring.own) = _
    simp only [h0, h63, hheld, hhigh, ne_eq, not_false_eq_true, true_and]
  · rw [if_neg (by simpa using h), if_neg fun hn => h ⟨hn.1, hn.2.1⟩]

theorem checkHold_keeps' (s : State) : KeepsAllBut [.own, .held] s (checkHold s) :=
  checkHold_keeps (List.Subset.refl _) (.start _ s)

theorem recordJoined_stations (x : JobRecord) (s : State) :
    StationsKept id (s.ring.own.length < 32) s (recordJoined x s) := by
  have hjoin : StationsKept id True s (joinQueue x s) := .of_keeps (joinQueue_keeps x s) (by decide) (by decide)
  have hown : (joinQueue x s).ring.own = s.ring.own := joinQueue_keeps x s .own (by decide)
  unfold recordJoined
  split
  · exact hjoin.trans (evalPermit_stations (room := s.ring.own.length < 32) fun hr => by rw [hown]; exact hr) (fun _ => trivial)
      id
  · exact hjoin.mono fun _ => trivial

theorem recordJoined_alerts (x : JobRecord) (s : State) : AlertsKeptBut [.station] s (recordJoined x s) := by
  have hjoin : AlertsKeptBut [.station] s (joinQueue x s) := .of_keeps (joinQueue_keeps x s) (by decide)
  unfold recordJoined
  split
  · exact hjoin.trans (evalPermit_alertsKept (by decide) _)
  · exact hjoin

theorem recordJoined_of_nonempty {x : JobRecord} {s : State} (h : s.queue.records ≠ []) : recordJoined x s = joinQueue x s :=
  if_neg (by simpa using h)

/-- Settles O15: the record joins the queue, the permit follows, and the held flag is looked at. -/
theorem recordAccepted : Obligations.RecordAccepted := by
  intro h tag body r s hc ho hr hs hadmits hlen hlimit
  have hj := judgeRecord_of_sound ho hr hs
  rw [sequenceRefusal_of_admits hadmits] at hj
  dsimp only at hj
  rw [if_neg (by omega), clamp_eq_adjusted] at hj
  generalize hx : adjusted s.collation.sheetLimit r = x at hj
  have hseq : x.seq = r.seq := by rw [← hx]; rfl
  have hre : x.reprint = r.reprint := by rw [← hx]; rfl
  have hjoin := joinQueue_keeps x s
  have hk := acceptRecord_keeps' x s
  have hrecords : (recordJoined x s).queue.records = s.queue.records ++ [x] :=
    ((recordJoined_keeps x s).records_eq (by decide)).trans (joinQueue_records x s)
  have hhigh : (recordJoined x s).queue.high = s.queue.high :=
    (recordJoined_keeps x s .high (by decide)).trans (hjoin .high (by decide))
  have hheld : (recordJoined x s).channel.held = s.channel.held :=
    (recordJoined_keeps x s .held (by decide)).trans (hjoin .held (by decide))
  have hsup : (recordJoined x s).supervisor = s.supervisor :=
    (recordJoined_keeps x s .supervisor (by decide)).trans (hjoin .supervisor (by decide))
  have hreprints : (acceptRecord x s).reprints = if r.reprint
      then updateEntry (fun e => e.seq == r.seq) (fun e => { e with state := .queued }) s.reprints else s.reprints := by
    rw [(hk .reprints (by decide) : _ = (joinQueue x s).reprints), joinQueue_reprints, hre, hseq]
  refine ⟨acceptRecord x s, ?_, ?_, ?_, ?_, ?_, ?_, fun i e he hother => ?_, fun e hrep he => ?_, acceptRecord_outputs,
    fun hne => ?_, ?_, ?_, ?_⟩
  · exact (take_request (work := recordRequest tag body) hc).trans (by rw [recordRequest_of_accepted hj])
  · exact (hk.records_eq (by decide)).trans (joinQueue_records x s)
  · rw [(hk .last (by decide) : _ = (joinQueue x s).queue.last), joinQueue_last, hre, hseq]
  · rw [hk.counters_eq (by decide), joinQueue_counters, countUp, Nat.min_eq_right (by rw [Config.counterLimit]; omega)]
  · rw [acceptRecord_eq_checkHold, checkHold_held, hrecords, hhigh, hheld, List.length_append, List.length_singleton]
  · rw [hreprints]
    split
    · exact updateEntry_length _ _ _
    · rfl
  · rw [hreprints]
    split
    · rename_i hrep
      refine getElem?_updateEntry_of_not ?_ he
      obtain hn | hne := hother
      · rw [hn] at hrep
        cases hrep
      · exact beq_eq_false_iff_ne.mpr hne
    · exact he
  · unfold entryOf
    rw [hreprints, if_pos hrep, find?_updateEntry (test := fun e => e.seq == r.seq) (change := fun e => { e with state := .queued }) (fun _ => rfl)]
    exact congrArg (Option.map _) he
  · obtain ⟨-, h0, h63, -⟩ := hc
    have hown : (recordJoined x s).ring.own = s.ring.own := by
      rw [recordJoined_of_nonempty hne]
      exact hjoin .own (by decide)
    rw [acceptRecord_eq_checkHold, checkHold_own (hsup.symm ▸ h0) (hsup.symm ▸ h63), hrecords, hhigh, hheld, hsup, hown,
      List.length_append, List.length_singleton]
  · rw [acceptRecord_eq_checkHold]
    exact (recordJoined_stations x s).trans (q := True) (.of_keeps (checkHold_keeps' _) (by decide) (by decide)) id
      fun _ => trivial
  · rw [acceptRecord_eq_checkHold]
    exact (recordJoined_alerts x s).trans (.of_keeps (checkHold_keeps' _) (by decide))
  · exact (hjoin.more (by decide)).trans (hk.more (by decide))

/-! ### REPRINT_READ (R129) -/

/-- The codes that the items of a PIECE record take. -/
theorem pieceCodes : PieceCodes := by
  refine ⟨rfl, rfl, rfl, rfl, fun l => ⟨?_, fun f => testBit_faultSetNat l f⟩,
    fun l => ⟨?_, fun i hi => testBit_stationSetNat l hi⟩⟩
  · rw [faultSetNat_eq]
    exact bitsNat_lt _ 14
  · rw [stationSetNat_eq]
    exact bitsNat_lt _ 24

/-- An OPEN entry with fewer than `n` OPEN ones before it becomes REQUESTED in its place. -/
theorem getElem?_requestEntries {e : ReprintEntry} : ∀ {n : Nat} {l : List ReprintEntry} {i : Nat}, l[i]? = some e →
    (requestEntries n l)[i]? = some
      (if e.state = .open ∧ ((l.take i).countP fun x => x.state == .open) < n then { e with state := .requested } else e)
  | 0, l, i, h => by
    have hzero : requestEntries 0 l = l := by cases l <;> rfl
    rw [hzero, if_neg fun hn => Nat.not_lt_zero _ hn.2, h]
  | n + 1, x :: l, 0, h => by
    obtain rfl : x = e := Option.some.inj h
    unfold requestEntries
    by_cases ho : x.state = .open
    · rw [if_pos ho, if_pos ⟨ho, Nat.succ_pos n⟩]
      rfl
    · rw [if_neg ho, if_neg fun hn => ho hn.1]
      rfl
  | n + 1, x :: l, i + 1, h => by
    have hl : l[i]? = some e := h
    unfold requestEntries
    rw [List.take_succ_cons, List.countP_cons]
    by_cases ho : x.state = .open
    · rw [if_pos ho, List.getElem?_cons_succ, getElem?_requestEntries hl]
      simp only [ho, BEq.rfl, if_true, Nat.add_lt_add_iff_right]
    · rw [if_neg ho, List.getElem?_cons_succ, getElem?_requestEntries hl]
      simp only [beq_iff_eq, ho, if_false, Nat.add_zero]

/-- The OPEN entries left. -/
theorem countP_requestEntries : ∀ (n : Nat) (l : List ReprintEntry),
    ((requestEntries n l).countP fun e => e.state == .open) = (l.countP fun e => e.state == .open) - n
  | 0, l => by
    have hzero : requestEntries 0 l = l := by cases l <;> rfl
    rw [hzero, Nat.sub_zero]
  | n + 1, [] => (Nat.zero_sub _).symm
  | n + 1, x :: l => by
    unfold requestEntries
    by_cases ho : x.state = .open
    · rw [if_pos ho, List.countP_cons_of_neg (by simp), List.countP_cons_of_pos (by simp [ho]), countP_requestEntries n l]
      omega
    · rw [if_neg ho, List.countP_cons_of_neg (by simp [ho]), List.countP_cons_of_neg (by simp [ho]),
        countP_requestEntries (n + 1) l]

/-- Settles O20: the first OPEN entries are sent and become REQUESTED. -/
theorem reprintReadRequestsOpenEntries : Obligations.ReprintReadRequestsOpenEntries := by
  refine ⟨pieceCodes, fun h tag operands s hc => ⟨?_, fun hbad => take_request_answered hc (if_neg ?_)⟩⟩
  · rintro n rfl h1 h16
    refine ⟨s.setReprints (requestEntries n.toNat s.reprints), take_request_answered hc ?_, requestEntries_length _ _,
      fun i e he => getElem?_requestEntries he, fun p hp => ?_⟩
    · unfold reprintReadRequest
      simp only [field_one, byteAt_cons_zero]
      rw [if_pos (by simp [h1, h16])]
      refine congrArg (fun c => sendAnswer tag .ok c _) ?_
      rw [beBytes_two, State.setReprints_reprints, countP_requestEntries]
      refine congrArg₂ (· ++ ·) ?_ rfl
      refine congrArg (_ :: ·) ?_
      refine congrArg (fun g => List.flatMap g _) (funext fun e => ?_)
      rw [ReprintEntry.bytes, beBytes_three]
      rfl
    · cases p <;> first | rfl | exact absurd (by decide) hp
  · simp only [Bool.and_eq_true, decide_eq_true_eq, not_and]
    obtain hlen | ⟨n, rfl, hn⟩ := hbad
    · exact fun h => absurd h.1 hlen
    · rw [field_one, byteAt_cons_zero]
      omega

end Sys2Proof.Machine
end

section
/-! LOG_READ: the records that it takes, and the words and bytes of each kind of record (R136 to R143, R170). -/

namespace Sys2Proof.Machine

/-! ### Words (R170) -/

/-- A number as a word of four bytes, high byte first. -/
def wordBytes (n : Nat) : List Byte := [byteOf (n / 16777216), byteOf (n / 65536), byteOf (n / 256), byteOf n]

theorem byteOf_congr {a b : Nat} (h : a % 256 = b % 256) : byteOf a = byteOf b :=
  BitVec.eq_of_toNat_eq (by rw [toNat_byteOf_mod, toNat_byteOf_mod, h])

theorem beBytes_ofNat (n : Nat) : beBytes 4 (BitVec.ofNat 32 n : Word).toNat = wordBytes n := by
  rw [beBytes_four, BitVec.toNat_ofNat, wordBytes, byteOf_congr (show n % 2 ^ 32 / 16777216 % 256 = n / 16777216 % 256 by omega),
    byteOf_congr (show n % 2 ^ 32 / 65536 % 256 = n / 65536 % 256 by omega),
    byteOf_congr (show n % 2 ^ 32 / 256 % 256 = n / 256 % 256 by omega),
    byteOf_congr (show n % 2 ^ 32 % 256 = n % 256 by omega)]

/-- A record whose words after the header are known numbers. -/
theorem record_spells {serial : Nat} {body : LogBody} {rest : List Nat} (hlen : body.length = rest.length + 1)
    (hwords : body.words = rest.map (BitVec.ofNat 32 ·)) :
    LogRecord.length ⟨serial, body⟩ = rest.length + 1 ∧
      LogRecord.bytes ⟨serial, body⟩ =
        wordBytes (body.kindCode * 2 ^ 28 + (rest.length + 1) * 2 ^ 24 + body.eventCode * 2 ^ 20 + serial % 65536) ++
          rest.flatMap wordBytes := by
  refine ⟨hlen, ?_⟩
  have hrest : (rest.map (BitVec.ofNat 32 · : Nat → Word)).flatMap (fun w => beBytes 4 w.toNat) = rest.flatMap wordBytes := by
    rw [List.flatMap_map]
    exact congrArg (fun g => rest.flatMap g) (funext beBytes_ofNat)
  rw [LogRecord.bytes, LogRecord.words, List.flatMap_cons, hwords, hrest, LogRecord.header, beBytes_ofNat, LogRecord.length, hlen]

/-! ### The words of each kind (R137 to R141) -/

theorem logCode_eq (c : Option CaliperClass) : CaliperClass.logCode c =
    match c with | none => 0 | some .letter => 1 | some .flat => 2 | some .bulk => 3 := by
  obtain _ | c := c
  · rfl
  · cases c <;> rfl

theorem outputCode_eq (o : OutputRead) : o.code = match o with | .none => 0 | .noRead => 1 | .value _ _ => 2 := by
  cases o <;> rfl

theorem matchKind_eq (m : Option LoggedMatch) :
    matchKind m = match m with | none => 0 | some ⟨some _, _, _⟩ => 1 | some ⟨none, _, _⟩ => 2 := by
  obtain _ | ⟨_ | _, _, _⟩ := m <;> rfl

theorem isEmpty_not_bit (l : List Nat) : bit (!l.isEmpty) = if decide (l ≠ []) then 1 else 0 := by
  cases l <;> rfl

/-- The place word of a PIECE record, where it has one. -/
def placeWords : Option (Nat × Nat) → List Nat
  | none => []
  | some (first, position) => [first * 2 ^ 8 + position % 256]

/-- The read word of a PIECE record: a read value that is not the piece's own. -/
def readWords (p : PieceLog) : List Nat :=
  match p.output with
  | .value seq inc => if seq = p.seq ∧ inc = p.inc then [] else [seq * 2 ^ 8 + inc % 16 * 2 ^ 4]
  | _ => []

/-- The words of a station set, where it is not empty. -/
def setWords (l : List Nat) : List Nat := if l = [] then [] else [stationSetNat l]

/-- The match part of the fourth word of a PIECE record. -/
def matchPart : Option LoggedMatch → Nat
  | none => 0
  | some m => m.entry.getD 0 * 2 ^ 16 + m.group * 2 ^ 12 + m.level * 2 ^ 9

theorem setWords_map (l : List Nat) : (if l.isEmpty then [] else [(BitVec.ofNat 32 (stationSetNat l) : Word)]) =
    (setWords l).map (BitVec.ofNat 32 ·) := by
  cases l <;> rfl

theorem setWords_length (l : List Nat) : (if l.isEmpty then 0 else 1) = (setWords l).length := by
  cases l <;> rfl

theorem placeWords_map (x : Option (Nat × Nat)) : (match x with
    | some (first, place) => [(BitVec.ofNat 32 (first * 2 ^ 8 + place % 256) : Word)]
    | none => []) = (placeWords x).map (BitVec.ofNat 32 ·) := by
  cases x <;> rfl

theorem placeWords_length (x : Option (Nat × Nat)) : (if x.isSome then 1 else 0) = (placeWords x).length := by
  cases x <;> rfl

theorem readPart_words (p : PieceLog) : readWords p = match p.readPart with
    | some (seq, inc) => [seq * 2 ^ 8 + inc % 16 * 2 ^ 4]
    | none => [] := by
  unfold readWords PieceLog.readPart
  cases p.output with
  | value seq inc =>
    dsimp only
    by_cases h : seq = p.seq ∧ inc = p.inc
    · rw [if_pos h, if_pos (by simpa using h)]
    · rw [if_neg h, if_neg (by simpa using h)]
  | _ => rfl

/-- The numbers of a PIECE record's words after its header. -/
def pieceNumbers (p : PieceLog) : List Nat :=
  [p.seq * 2 ^ 8 + p.inc % 16 * 2 ^ 4 + p.disposition.code,
    p.bin.getD 0 * 2 ^ 27 + bit p.bin.isSome * 2 ^ 26 + CaliperClass.logCode p.caliperClass * 2 ^ 24 + p.output.code * 2 ^ 22 +
      p.verification.code * 2 ^ 20 + bit p.saturated * 2 ^ 19 + p.reason.code * 2 ^ 14 + faultSetNat p.faults,
    p.serial.getD 0 * 2 ^ 16 + p.caliper % 65536,
    bit p.serial.isSome * 2 ^ 31 + matchKind p.scheme * 2 ^ 29 + bit (!p.fed.isEmpty) * 2 ^ 28 +
      bit (!p.stations.isEmpty) * 2 ^ 27 + matchPart p.scheme] ++
  setWords p.fed ++ setWords p.stations ++ placeWords p.place ++ readWords p

theorem matchPart_eq (m : Option LoggedMatch) (n : Nat) :
    n + (m.bind (·.entry)).getD 0 * 2 ^ 16 + (m.map (·.group)).getD 0 * 2 ^ 12 + (m.map (·.level)).getD 0 * 2 ^ 9 =
      n + matchPart m := by
  cases m with
  | none => rfl
  | some m => simp only [matchPart, Option.bind_some, Option.map_some, Option.getD_some, Nat.add_assoc]

theorem piece_words (p : PieceLog) : (LogBody.piece p).words = (pieceNumbers p).map (BitVec.ofNat 32 ·) := by
  have hread : (match p.readPart with
      | some (seq, inc) => [(BitVec.ofNat 32 (seq * 2 ^ 8 + inc % 16 * 2 ^ 4) : Word)]
      | none => []) = (readWords p).map (BitVec.ofNat 32 ·) := by
    rw [readPart_words]
    cases p.readPart <;> rfl
  simp only [pieceNumbers, List.map_append, ← setWords_map, ← placeWords_map, ← hread, ← matchPart_eq]
  rfl

theorem piece_length (p : PieceLog) : (LogBody.piece p).length = (pieceNumbers p).length + 1 := by
  have hread : (if p.readPart.isSome then 1 else 0) = (readWords p).length := by
    rw [readPart_words]
    cases p.readPart <;> rfl
  show p.length = _
  rw [PieceLog.length, setWords_length, setWords_length, placeWords_length, hread]
  simp only [pieceNumbers, List.length_append, List.length_cons, List.length_nil]
  omega

theorem pieceNumbers_eq (p : PieceLog) :
    let one := fun b : Bool => if b then 1 else 0
    pieceNumbers p =
    [p.seq * 2 ^ 8 + p.inc % 16 * 2 ^ 4 + p.disposition.code,
      p.bin.getD 0 * 2 ^ 27 + one p.bin.isSome * 2 ^ 26 +
        (match p.caliperClass with | none => 0 | some .letter => 1 | some .flat => 2 | some .bulk => 3) * 2 ^ 24 +
        (match p.output with | .none => 0 | .noRead => 1 | .value _ _ => 2) * 2 ^ 22 + p.verification.code * 2 ^ 20 +
        one p.saturated * 2 ^ 19 + p.reason.code * 2 ^ 14 + faultSetNat p.faults,
      p.serial.getD 0 * 2 ^ 16 + p.caliper % 65536,
      one p.serial.isSome * 2 ^ 31 +
        (match p.scheme with | none => 0 | some ⟨some _, _, _⟩ => 1 | some ⟨none, _, _⟩ => 2) * 2 ^ 29 +
        one (decide (p.fed ≠ [])) * 2 ^ 28 + one (decide (p.stations ≠ [])) * 2 ^ 27 + matchPart p.scheme] ++
    setWords p.fed ++ setWords p.stations ++ placeWords p.place ++ readWords p := by
  dsimp only
  rw [← logCode_eq, ← outputCode_eq, ← matchKind_eq, ← isEmpty_not_bit, ← isEmpty_not_bit]
  rfl

theorem keyNibbles_fold (k : BundleKey) : (List.range 8).foldl (fun a i => a * 16 + keyNibble k i) 0 =
    keyNibble k 0 * 2 ^ 28 + keyNibble k 1 * 2 ^ 24 + keyNibble k 2 * 2 ^ 20 + keyNibble k 3 * 2 ^ 16 + keyNibble k 4 * 2 ^ 12 +
      keyNibble k 5 * 2 ^ 8 + keyNibble k 6 * 2 ^ 4 + keyNibble k 7 := by
  simp only [List.range, List.range.loop, List.foldl_cons, List.foldl_nil]
  omega

/-- The numbers of a BUNDLE record's words after its header. -/
def bundleNumbers (b : BundleLog) : List Nat :=
  [b.bin * 2 ^ 27 + b.group * 2 ^ 23 + b.count * 2 ^ 15 + b.level * 2 ^ 12 + b.cause.code * 2 ^ 9 + bit b.demoted * 2 ^ 8 +
      bit b.continued * 2 ^ 7,
    keyNibble b.key 0 * 2 ^ 28 + keyNibble b.key 1 * 2 ^ 24 + keyNibble b.key 2 * 2 ^ 20 + keyNibble b.key 3 * 2 ^ 16 +
      keyNibble b.key 4 * 2 ^ 12 + keyNibble b.key 5 * 2 ^ 8 + keyNibble b.key 6 * 2 ^ 4 + keyNibble b.key 7,
    keyNibble b.key 8 * 2 ^ 28 + b.key.length * 2 ^ 24 + bit b.entry.isNone * 2 ^ 9 + b.entry.getD 0,
    b.first * 2 ^ 8, b.last * 2 ^ 8]

theorem bundle_words (b : BundleLog) : (LogBody.bundle b).words = (bundleNumbers b).map (BitVec.ofNat 32 ·) := by
  show b.words = _
  rw [BundleLog.words, keyNibbles_fold]
  rfl

theorem word_ofNat (id : Word) : (BitVec.ofNat 32 id.toNat : Word) = id :=
  BitVec.eq_of_toNat_eq (by rw [BitVec.toNat_ofNat, Nat.mod_eq_of_lt id.isLt])

/-- The numbers of a RUN record's words after its header. -/
def runNumbers (id : Word) (c : Option Counters) : List Nat := id.toNat :: (c.map Counters.list).getD []

theorem run_words (event : RunEvent) (id : Word) (c : Option Counters) :
    (LogBody.run event id c).words = (runNumbers id c).map (BitVec.ofNat 32 ·) := by
  cases c with
  | none => exact congrArg (fun w => [w]) (word_ofNat id).symm
  | some c => exact congrArg (fun w => w :: c.list.map (BitVec.ofNat 32 ·)) (word_ofNat id).symm

theorem run_length (event : RunEvent) (id : Word) (c : Option Counters) :
    (LogBody.run event id c).length = (runNumbers id c).length + 1 := by
  cases c <;> rfl

/-! ### The records taken (R143) -/

/-- The records taken are a first part of the log of at most `n` words, and the next one does not fit. -/
theorem takeRecords_spec (n : Nat) (l : List LogRecord) :
    l = takeRecords n l ++ l.drop (takeRecords n l).length ∧ ((takeRecords n l).map LogRecord.length).sum ≤ n ∧
      ∀ r, (l.drop (takeRecords n l).length).head? = some r → n < ((takeRecords n l).map LogRecord.length).sum + r.length := by
  induction l generalizing n with
  | nil => exact ⟨rfl, Nat.zero_le _, fun r hr => by cases hr⟩
  | cons x rest ih =>
    unfold takeRecords
    split
    · rename_i hx
      obtain ⟨h1, h2, h3⟩ := ih (n - x.length)
      refine ⟨?_, ?_, fun r hr => ?_⟩
      · exact congrArg (x :: ·) h1
      · rw [List.map_cons, List.sum_cons]
        omega
      · have := h3 r hr
        rw [List.map_cons, List.sum_cons]
        omega
    · rename_i hx
      refine ⟨rfl, Nat.zero_le _, fun r hr => ?_⟩
      obtain rfl : x = r := Option.some.inj hr
      simp only [List.map_nil, List.sum_nil]
      omega

/-- The log with its oldest records taken. -/
def logTaken (k : Nat) (s : State) : State := s.setLog { s.log with records := s.log.records.drop k }

theorem logTaken_zero (s : State) : logTaken 0 s = s := rfl

theorem logTaken_keeps (k : Nat) (s : State) : KeepsAllBut [.logRecords] s (logTaken k s) := by
  intro p hp
  cases p <;> first | rfl | exact absurd (by decide) hp

/-- The permit is looked at where a record was taken. -/
def logRead (k : Nat) (s : State) : State := if k = 0 then logTaken k s else evalPermit (logTaken k s)

theorem logRead_keeps (k : Nat) (s : State) : KeepsAllBut (permitParts ++ [.logRecords]) s (logRead k s) := by
  unfold logRead
  split
  · exact (logTaken_keeps k s).more (by decide)
  · exact evalPermit_keeps (by decide) ((logTaken_keeps k s).more (by decide))

theorem logRead_log (k : Nat) (s : State) : (logRead k s).log = { s.log with records := s.log.records.drop k } := by
  unfold logRead
  split
  · rfl
  · exact (evalPermit_keeps (List.Subset.refl permitParts) (.start _ (logTaken k s))).log_eq (by decide) (by decide)
      (by decide) (by decide)

theorem logRead_outputs {k : Nat} {s : State} (h : OutputsFollowState s) : OutputsFollowState (logRead k s) := by
  unfold logRead
  split
  · rename_i hk
    rw [hk, logTaken_zero]
    exact h
  · exact evalPermit_outputs (logTaken_keeps k s) (by decide) (by decide) h

theorem logRead_stations (k : Nat) (s : State) : StationsKept id (s.ring.own.length < 32) s (logRead k s) := by
  have htaken : StationsKept id True s (logTaken k s) := .of_keeps (logTaken_keeps k s) (by decide) (by decide)
  unfold logRead
  split
  · exact htaken.mono fun _ => trivial
  · exact htaken.trans (evalPermit_stations (s := logTaken k s) id) (fun _ => trivial) id

theorem logRead_alerts (k : Nat) (s : State) : AlertsKeptBut [.station] s (logRead k s) := by
  have htaken : AlertsKeptBut [.station] s (logTaken k s) := .of_keeps (logTaken_keeps k s) (by decide)
  unfold logRead
  split
  · exact htaken
  · exact htaken.trans (evalPermit_alertsKept (by decide) _)

theorem logReadRequest_of_count {n : Byte} (h1 : 1 ≤ n.toNat) (h30 : n.toNat ≤ 30) (tag : Byte) (s : State) :
    logReadRequest tag [n] s =
      sendAnswer tag .ok (listBytes LogRecord.bytes (takeRecords n.toNat s.log.records))
        (logRead (takeRecords n.toNat s.log.records).length s) := by
  unfold logReadRequest
  simp only [field_one, byteAt_cons_zero]
  rw [if_pos (by simp [h1, h30])]
  refine congrArg (sendAnswer tag .ok _) ?_
  unfold logRead
  cases takeRecords n.toNat s.log.records <;> rfl

/-- Settles O19: the records are taken from the oldest end, and each kind is spelled word by word. -/
theorem logReadRemovesWholeRecords : Obligations.LogReadRemovesWholeRecords := by
  refine ⟨fun h tag operands s hc => ⟨?_, fun hbad => take_request_answered hc (if_neg ?_)⟩, fun serial =>
    ⟨fun p => ?_, fun b => ?_, fun bin landed bundles => record_spells rfl rfl, fun seq inc => record_spells rfl rfl,
      fun event id => ⟨?_, fun a b c d e f g h i j => ?_⟩, fun lost => record_spells rfl rfl⟩, pieceCodes, rfl, rfl⟩
  · rintro n rfl h1 h30
    obtain ⟨hsplit, hsum, hnext⟩ := takeRecords_spec n.toNat s.log.records
    exact ⟨_, _, logRead (takeRecords n.toNat s.log.records).length s, hsplit, hsum, hnext,
      take_request_answered hc (logReadRequest_of_count h1 h30 tag s), logRead_log _ s, logRead_outputs, logRead_stations _ s,
      logRead_alerts _ s, logRead_keeps _ s⟩
  · simp only [Bool.and_eq_true, decide_eq_true_eq, not_and]
    obtain hlen | ⟨n, rfl, hn⟩ := hbad
    · exact fun h => absurd h.1 hlen
    · rw [field_one, byteAt_cons_zero]
      omega
  · have hspell := record_spells (serial := serial) (piece_length p) (piece_words p)
    rw [pieceNumbers_eq] at hspell
    exact hspell
  · exact record_spells (body := .bundle b) (rest := bundleNumbers b) rfl (bundle_words b)
  · exact record_spells (run_length event id none) (run_words event id none)
  · exact record_spells (run_length event id (some ⟨a, b, c, d, e, f, g, h, i, j⟩)) (run_words event id _)

end Sys2Proof.Machine
end


section
/-! Windows that close (05, R67, R68, R87, R90, R94): what the windows that end without a result do to their piece, and the
pieces on the track when the windows they have passed are closed. -/

namespace Sys2Proof.Machine

/-! ### Sets held as lists -/

theorem mem_addOnce {α : Type} [DecidableEq α] {x y : α} {l : List α} : y ∈ addOnce x l ↔ y ∈ l ∨ y = x := by
  unfold addOnce
  split
  · refine ⟨Or.inl, fun hy => hy.elim id ?_⟩
    rintro rfl
    assumption
  · simp

/-! ### The windows that end without a result (R87, R90, R94) -/

/-- A piece after some of its windows ended without a result: the faults, the divert mark, the notes and the failed read that
the kinds of these windows give it, and all else as it was. -/
structure Piece.Unanswered (ended : List Window) (p q : Piece) : Prop where
  kept : q = { p with diverted := q.diverted, faults := q.faults, missed := q.missed, verification := q.verification }
  faults : ∀ f, f ∈ q.faults ↔ f ∈ p.faults ∨ ∃ w ∈ ended, (f = .insertUnconfirmed ∧ w.kind = .feed .mandatory) ∨
    (f = .envelopeFault ∧ w.kind = .envelope) ∨ (f = .unverified ∧ w.kind = .scan ∧ p.job.matchRequired = true)
  diverted : q.diverted = true ↔ p.diverted = true ∨ ∃ w ∈ ended, w.kind = .feed .mandatory ∨ w.kind = .envelope ∨
    (w.kind = .scan ∧ p.job.matchRequired = true)
  missed : ∀ i, i ∈ q.missed ↔ i ∈ p.missed ∨ ∃ w ∈ ended, w.kind = .feed .optional ∧ w.station = i
  verification : q.verification = if ∃ w ∈ ended, w.kind = .scan then
    if p.job.matchRequired then .unverified else .unread else p.verification

theorem Piece.unanswered_nil (p : Piece) : Piece.Unanswered [] p p where
  kept := rfl
  faults := by simp
  diverted := by simp
  missed := by simp
  verification := by simp

theorem Piece.unanswered_one (w : Window) (p : Piece) : Piece.Unanswered [w] p (p.unanswered w) := by
  obtain ⟨station, closing, kind⟩ := w
  cases kind with
  | feed k =>
    cases k with
    | mandatory => constructor <;> simp [Piece.unanswered, Piece.addFault, mem_addOnce]
    | optional => constructor <;> simp [Piece.unanswered, mem_addOnce, eq_comm (b := station)]
  | envelope => constructor <;> simp [Piece.unanswered, Piece.addFault, mem_addOnce]
  | scan =>
    cases h : p.job.matchRequired <;>
      constructor <;> simp [Piece.unanswered, Piece.failedRead, Piece.addFault, mem_addOnce, h]

/-- Windows that end after others add their effects to theirs. -/
theorem Piece.Unanswered.append {a b : List Window} {p q r : Piece} (h : Piece.Unanswered a p q)
    (h' : Piece.Unanswered b q r) : Piece.Unanswered (a ++ b) p r := by
  have hjob : q.job = p.job := by rw [h.kept]
  constructor
  · rw [h'.kept, h.kept]
  · intro f
    simp only [h'.faults, h.faults, hjob, List.mem_append, or_and_right, exists_or, or_assoc]
  · simp only [h'.diverted, h.diverted, hjob, List.mem_append, or_and_right, exists_or, or_assoc]
  · intro i
    simp only [h'.missed, h.missed, List.mem_append, or_and_right, exists_or, or_assoc]
  · rw [h'.verification, h.verification, hjob]
    by_cases hb : ∃ w ∈ b, w.kind = .scan
    · have hab : ∃ w ∈ a ++ b, w.kind = .scan := hb.imp fun w hw => ⟨List.mem_append_right _ hw.1, hw.2⟩
      rw [if_pos hb, if_pos hab]
    · have hiff : (∃ w ∈ a ++ b, w.kind = .scan) ↔ ∃ w ∈ a, w.kind = .scan := by
        simp only [List.mem_append, or_and_right, exists_or, hb, or_false]
      simp only [if_neg hb, hiff]

theorem Piece.unanswered_foldl (ws : List Window) (p : Piece) :
    Piece.Unanswered ws p (ws.foldl (fun p w => p.unanswered w) p) := by
  induction ws generalizing p with
  | nil => exact Piece.unanswered_nil p
  | cons w ws ih => exact (Piece.unanswered_one w p).append (ih _)

/-- The windows that pass a test end without a result, and the others stay open (R67). -/
theorem Piece.expireWhere_unanswered (test : Window → Bool) (p : Piece) :
    Piece.Unanswered (p.windows.filter test) { p with windows := p.windows.filter (fun w => !test w) }
      (p.expireWhere test) :=
  Piece.unanswered_foldl _ _

/-! ### Closing by passing, on the track (R67) -/

theorem pieceAt_passAllWindows (n : Nat) (s : State) :
    pieceAt n (passAllWindows s) = (pieceAt n s).map (·.passWindows n) := by
  simp only [pieceAt, passAllWindows]
  rw [show (s.setTrack { s.track with slots := s.track.slots.mapIdx fun n x => x.map (·.passWindows n) }).track.slots =
    s.track.slots.mapIdx (fun n x => x.map (·.passWindows n)) from rfl, List.getElem?_mapIdx]
  cases s.track.slots[n]? <;> rfl

theorem passAllWindows_keeps' (s : State) : KeepsAllBut [.slots] s (passAllWindows s) := by
  intro p hp
  cases p <;> first | rfl | exact absurd (by decide) hp

/-- Settles O39, by the effect of the windows that end in one advance, kind by kind. -/
theorem passedWindowsCloseWithoutResult : Obligations.PassedWindowsCloseWithoutResult := by
  refine ⟨fun n p => ⟨rfl, rfl⟩, fun test p => ?_, fun s hs => ⟨fun hidle => ?_, fun hopen => ?_⟩⟩
  · have h := Piece.expireWhere_unanswered test p
    refine ⟨h.kept, fun f => ?_, ?_, fun i => ?_, ?_⟩
    · rw [h.faults f]
      simp only [List.mem_filter]
      grind
    · rw [h.diverted]
      simp only [List.mem_filter]
      grind
    · rw [h.missed i]
      simp only [List.mem_filter, and_assoc]
    · rw [h.verification]
      simp only [List.mem_filter, and_assoc]
  · exact (take_of_high _ hs).trans (by rw [if_neg (by simp [runOpen, hidle])])
  · refine ⟨passAllWindows s, (take_of_high _ hs).trans (by rw [if_pos (by simp [runOpen, hopen])]), ?_, fun n hn => ?_,
      fun n p hp => ⟨p.passWindows n, ?_, ?_⟩, passAllWindows_keeps' s⟩
    · exact List.length_mapIdx
    · rw [pieceAt_passAllWindows, hn]; rfl
    · rw [pieceAt_passAllWindows, hp]; rfl
    · have h := Piece.expireWhere_unanswered (fun w => decide (w.closing < n)) p
      refine ⟨?_, fun f => ?_, ?_, fun i => ?_, ?_⟩
      · refine h.kept.trans ?_
        simp only [← decide_not, Nat.not_lt]
        rfl
      · refine (h.faults f).trans ?_
        simp only [List.mem_filter, decide_eq_true_eq, and_assoc]
      · refine h.diverted.trans ?_
        simp only [List.mem_filter, decide_eq_true_eq, and_assoc]
      · refine (h.missed i).trans ?_
        simp only [List.mem_filter, decide_eq_true_eq, and_assoc]
      · refine h.verification.trans ?_
        simp only [List.mem_filter, decide_eq_true_eq, and_assoc]

end Sys2Proof.Machine
end


section
/-! The reports of the ENVELOPE and SCAN_OUT stations (05, R90, R92, R93, R94): the piece after each result within its
window. -/

namespace Sys2Proof.Machine

section
variable {h : Header} {i n : Nat} {e : StationEntry} {tag result inc : Byte} {seq : BitVec 24} {p : Piece} {w : Window}
  {s : State}

/-- A piece that awaits a result of a kind is changed in its slot. -/
theorem updatePiece_of_awaits (ha : Awaits n i tag.toNat p w s) (f : Piece → Piece) :
    updatePiece n f s = putSlot n (some (f p)) s :=
  updatePiece_of_some ha.1 f

/-- The result values that R90 and R92 leave without a meaning are all those but 1 and 2. -/
theorem result_reserved_iff : result = 0 ∨ 2 < result.toNat ↔ ¬(result = 1 ∨ result = 2) := by
  bv_omega

theorem ignored_of_discarded (hd : s.line.state = .idle ∨ result = 0 ∨ 2 < result.toNat) :
    (!runOpen s || !(result == 1 || result == 2)) = true := by
  rw [result_reserved_iff] at hd
  simpa [runOpen, ← not_or] using hd

theorem not_ignored_of_judged (hopen : s.line.state ≠ .idle) (hr : result = 1 ∨ result = 2) :
    ¬(!runOpen s || !(result == 1 || result == 2)) = true := by
  rcases hr with rfl | rfl <;> simp [runOpen, hopen]

/-! ### ENV_RESULT (R90) -/

theorem exec_envResult_of_foreign (hr : Reached h s) (hs : stationFor .envelope h.src s = none) :
    exec (.envResult h tag result) s = .next (forwardFrame { header := h, kind := 24, payload := [tag, result] } s) :=
  take_report_of_none hr (by simp [Config.payloadLimit]) (by simp [envAction, hs])

theorem exec_envResult_of_station (hr : Reached h s) (hs : stationFor .envelope h.src s = some (i, e)) :
    exec (.envResult h tag result) s = .next (actedOn h 24 [tag, result] (envReport i e tag result s)) :=
  take_report_of_some hr (by simp [Config.payloadLimit]) (by simp [envAction, hs])

theorem envReport_of_discarded (hd : s.line.state = .idle ∨ result = 0 ∨ 2 < result.toNat) :
    envReport i e tag result s = s :=
  if_pos (ignored_of_discarded hd)

theorem envReport_of_nothingAwaits (hopen : s.line.state ≠ .idle) (hr : result = 1 ∨ result = 2)
    (hn : NothingAwaits [.envelope] i tag.toNat s) : envReport i e tag result s = lateReport i e s := by
  rw [envReport, if_neg (not_ignored_of_judged hopen hr), slotOfWindow_none.mpr hn]

theorem envReport_of_awaits (hopen : s.line.state ≠ .idle) (hr : result = 1 ∨ result = 2)
    (ha : Awaits n i tag.toNat p w s) (hk : w.kind = .envelope) :
    envReport i e tag result s = putSlot n
      (some (if result = 1 then p.closeWindow i else (p.closeWindow i).addFault .envelopeFault)) s := by
  rw [envReport, if_neg (not_ignored_of_judged hopen hr), slotOfWindow_of_awaits ha (by simp [hk])]
  exact updatePiece_of_awaits ha _

/-! ### ADDR_SCAN (R92 to R94) -/

theorem exec_addrScan_of_foreign (hr : Reached h s) (hs : stationFor .scanOut h.src s = none) :
    exec (.addrScan h tag result seq inc) s = .next (forwardFrame
      { header := h, kind := 26, payload := tag :: result :: (beBytes 3 seq.toNat ++ [inc]) } s) :=
  take_report_of_none hr (by simp [Config.payloadLimit, beBytes]) (by simp [addrAction, hs])

theorem exec_addrScan_of_station (hr : Reached h s) (hs : stationFor .scanOut h.src s = some (i, e)) :
    exec (.addrScan h tag result seq inc) s = .next (actedOn h 26
      (tag :: result :: (beBytes 3 seq.toNat ++ [inc])) (addrReport i e tag result seq inc s)) :=
  take_report_of_some hr (by simp [Config.payloadLimit, beBytes]) (by simp [addrAction, hs])

theorem addrReport_of_discarded (hd : s.line.state = .idle ∨ result = 0 ∨ 2 < result.toNat) :
    addrReport i e tag result seq inc s = s :=
  if_pos (ignored_of_discarded hd)

theorem addrReport_of_nothingAwaits (hopen : s.line.state ≠ .idle) (hr : result = 1 ∨ result = 2)
    (hn : NothingAwaits [.scan] i tag.toNat s) : addrReport i e tag result seq inc s = lateReport i e s := by
  rw [addrReport, if_neg (not_ignored_of_judged hopen hr), slotOfWindow_none.mpr hn]

theorem addrReport_of_awaits (hopen : s.line.state ≠ .idle) (hr : result = 1 ∨ result = 2)
    (ha : Awaits n i tag.toNat p w s) (hk : w.kind = .scan) :
    addrReport i e tag result seq inc s =
      readAt n i (if result = 1 then some (seq.toNat, inc.toNat) else none) s := by
  rw [addrReport, if_neg (not_ignored_of_judged hopen hr), slotOfWindow_of_awaits ha (by simp [hk])]

theorem readAt_of_own {v d : Nat} (hp : pieceAt n s = some p) (hown : v = p.job.seq ∧ d = p.job.inc) :
    readAt n i (some (v, d)) s = putSlot n
      (some { p.closeWindow i with output := .value v d, verification := .verified }) s := by
  simp [readAt, hp, hown]

theorem readAt_of_other {v d : Nat} (hp : pieceAt n s = some p) (hother : ¬(v = p.job.seq ∧ d = p.job.inc)) :
    readAt n i (some (v, d)) s = mismatchAt n i v d p s := by
  simp only [readAt, hp]
  exact if_neg (by simpa using hother)

theorem readAt_of_noRead (hp : pieceAt n s = some p) :
    readAt n i none s = putSlot n (some ({ p.closeWindow i with output := .noRead } : Piece).failedRead) s := by
  simp only [readAt, hp]

theorem Piece.failedRead_of_required (hm : p.job.matchRequired = true) :
    p.failedRead = { p with diverted := true, faults := addOnce .unverified p.faults, verification := .unverified } :=
  if_pos hm

theorem Piece.failedRead_of_not_required (hm : p.job.matchRequired = false) :
    p.failedRead = { p with verification := .unread } :=
  if_neg (Bool.eq_false_iff.mp hm)

end

/-- Settles O42: a result is discarded, late, or acts on the piece that awaits it, an ADDR_SCAN there by what was read. -/
theorem envelopeAndScanResultsActOnTheirPiece : Obligations.EnvelopeAndScanResultsActOnTheirPiece := by
  refine ⟨fun h tag result s hr => ⟨exec_envResult_of_foreign hr, fun i e hs => ?envelope⟩,
    fun h tag result seq inc s hr => ⟨exec_addrScan_of_foreign hr, fun i e hs => ?scan⟩⟩
  case envelope =>
    dsimp only
    rw [exec_envResult_of_station hr hs]
    refine ⟨fun hd => by rw [envReport_of_discarded hd], fun hopen hval => ⟨fun hn => ?_, fun n p w ha hk => ?_⟩⟩
    · rw [envReport_of_nothingAwaits hopen hval hn]
    · rw [envReport_of_awaits hopen hval ha hk]
      refine ⟨?_, ?_⟩ <;> rintro rfl <;> rfl
  case scan =>
    dsimp only
    rw [exec_addrScan_of_station hr hs]
    refine ⟨fun hd => by rw [addrReport_of_discarded hd], fun hopen hval => ⟨fun hn => ?_, fun n p w ha hk => ?_⟩⟩
    · rw [addrReport_of_nothingAwaits hopen hval hn]
    · rw [addrReport_of_awaits hopen hval ha hk]
      obtain ⟨hp, -⟩ := ha
      refine ⟨?own, ?other, ?required, ?unread⟩
      case own =>
        rintro rfl hown
        rw [if_pos rfl, readAt_of_own hp (by exact hown)]
        rfl
      case other =>
        rintro rfl hother
        rw [if_pos rfl, readAt_of_other hp (by exact hother)]
        rfl
      case required =>
        rintro rfl hm
        rw [if_neg (by decide), readAt_of_noRead hp, Piece.failedRead_of_required (by exact hm)]
        rfl
      case unread =>
        rintro rfl hm
        rw [if_neg (by decide), readAt_of_noRead hp, Piece.failedRead_of_not_required (by exact hm)]
        rfl

end Sys2Proof.Machine
end


section
/-! Returns of the part's own frames to its stations (R23, R38, R73, R88, R90, R94, R157, R162): the command each untaken frame
is, the entry at its destination, and the window, collation or piece it acts on. -/

namespace Sys2Proof.Machine

/-! ### A return is the command of its kind (R162) -/

theorem exec_frameReturn_taken (dst : Node) (kind : Byte) (payload : List Byte) (s : State) :
    exec (.frameReturn dst true kind payload) s = .next s := by
  rw [exec, execFrameReturn, take, whileHigh, receive, if_pos rfl, takeReturn]
  simp

/-- An untaken return in the layout of its kind, at most six bytes, is taken up by its rule while the link is up. -/
theorem exec_frameReturn_untaken (dst : Node) (kind : Byte) {payload : List Byte} (s : State)
    (hp : payload.length ≤ 6) :
    exec (.frameReturn dst false kind payload) s = take (onReturn (untakenReturn dst kind payload)) s := by
  rw [exec, execFrameReturn, take, take, whileHigh, whileHigh, receive, if_pos rfl, onReturn, takeReturn]
  simp [receivable, Config.payloadLimit, show payload.length ≤ 120 by omega]

/-- A kind without an untaken rule. -/
theorem untakenReturn_of_no_rule {kind : Byte} (hk : kind = 8 ∨ kind = 9 ∨ kind = 10 ∨ kind = 11 ∨ kind = 20) (dst : Node)
    (payload : List Byte) (s : State) : untakenReturn dst kind payload s = s := by
  rcases hk with rfl | rfl | rfl | rfl | rfl <;> rfl

theorem exec_frameReturn_of_no_rule {kind : Byte} (hk : kind = 8 ∨ kind = 9 ∨ kind = 10 ∨ kind = 11 ∨ kind = 20)
    (dst : Node) (payload : List Byte) (s : State) : exec (.frameReturn dst false kind payload) s = .next s := by
  rw [exec, execFrameReturn, take, whileHigh, receive, if_pos rfl, takeReturn, untakenReturn_of_no_rule hk]
  simp

theorem exec_flowFrameUntaken (dst : Node) (hold : Bool) (s : State) :
    exec (.flowFrameUntaken dst hold) s = .next s := by
  rw [exec, execFlowFrameUntaken, take, whileHigh, onReturn,
    untakenReturn_of_no_rule (by cases hold <;> decide)]
  simp

theorem ofBe_three (a b c : Byte) : ofBe [a, b, c] = (a ++ b ++ c : BitVec 24).toNat := by
  simp only [ofBe, List.foldl_cons, List.foldl_nil, BitVec.toNat_append]
  have ha := a.isLt
  have hb := b.isLt
  have hc := c.isLt
  rw [← Nat.shiftLeft_add_eq_or_of_lt hb, ← Nat.shiftLeft_add_eq_or_of_lt hc, Nat.shiftLeft_eq,
    Nat.shiftLeft_eq]
  omega

/-! ### A station that did not take a frame (R73) -/

section
variable {dst : Node} {a b : Byte} {i n : Nat} {e : StationEntry} {p : Piece} {w : Window} {kinds : List WindowKind}
  {s : State}

/-- A return is taken up by its rule while the part listens. -/
theorem take_return (hr : Returned s) (rule : State → State) : take (onReturn rule) s = .next (rule s) := by
  rw [take_of_high _ hr.1, onReturn, if_pos hr.2]

theorem markAbsent_after (he : stationAt i s = some e) : markAbsent i e s = absentAfter i e s := by
  unfold markAbsent absentAfter
  dsimp only
  split
  · rename_i ha
    rw [show ({ e with status := .absent } : StationEntry) = e by rw [← ha], putStation_self i e s he]
  · rfl

theorem absentAfter_keeps (he : stationAt i s = some e) : KeepsAllBut frameParts s (absentAfter i e s) := by
  rw [← markAbsent_after he]
  exact markAbsent_keeps (List.Subset.refl _) (.start _ s) i e

theorem pieceAt_of_slots {s t : State} (h : t.track.slots = s.track.slots) (m : Nat) : pieceAt m t = pieceAt m s := by
  simp only [pieceAt, h]

/-- A piece awaits the same in a state with the same slots. -/
theorem Awaits.of_slots {s t : State} {tag : Nat} (ha : Awaits n i tag p w s) (h : t.track.slots = s.track.slots) :
    Awaits n i tag p w t := by
  obtain ⟨hp, htag, hw, hunique⟩ := ha
  refine ⟨(pieceAt_of_slots h n).trans hp, htag, hw, fun m hm q hq => hunique m (h ▸ hm) q ?_⟩
  rwa [← pieceAt_of_slots h m]

theorem NothingAwaits.of_slots {s t : State} {tag : Nat} (hn : NothingAwaits kinds i tag s)
    (h : t.track.slots = s.track.slots) : NothingAwaits kinds i tag t :=
  fun m hm q hq => hn m (h ▸ hm) q ((pieceAt_of_slots h m) ▸ hq)

theorem feedOutcomeAt_of_nothingAwaits {tag : Nat} (hn : NothingAwaits feedWindows i tag s) (cal : Nat) (r : FeedOutcome) :
    feedOutcomeAt i cal tag r s = s := by
  rw [feedOutcomeAt, slotOfWindow_none.mpr hn]

theorem envelopeFaultAt_of_nothingAwaits {tag : Nat} (hn : NothingAwaits [.envelope] i tag s) :
    envelopeFaultAt i tag s = s := by
  rw [envelopeFaultAt, slotOfWindow_none.mpr hn]

theorem envelopeFaultAt_of_awaits {tag : Nat} (ha : Awaits n i tag p w s) (hk : w.kind = .envelope) :
    envelopeFaultAt i tag s = putSlot n (some ((p.closeWindow i).addFault .envelopeFault)) s := by
  rw [envelopeFaultAt, slotOfWindow_of_awaits ha (by simp [hk])]
  exact updatePiece_of_some ha.1 _

theorem failedReadAt_of_nothingAwaits {tag : Nat} (hn : NothingAwaits [.scan] i tag s) : failedReadAt i tag s = s := by
  rw [failedReadAt, slotOfWindow_none.mpr hn]

theorem failedReadAt_of_awaits {tag : Nat} (ha : Awaits n i tag p w s) (hk : w.kind = .scan) :
    failedReadAt i tag s = putSlot n (some (p.closeWindow i).failedRead) s := by
  rw [failedReadAt, slotOfWindow_of_awaits ha (by simp [hk])]
  exact updatePiece_of_some ha.1 _

/-! ### The untaken rules of FEED_CMD, ENV_CMD and SCAN_ARM (R88, R90, R94) -/

theorem feedUntaken_of_none (hn : stationOfNode dst.toNat s = none) (tag : Nat) : feedUntaken dst tag s = s := by
  rw [feedUntaken, hn]

theorem feedUntaken_of_some (hs : stationOfNode dst.toNat s = some (i, e)) (tag : Nat) :
    feedUntaken dst tag s = feedOutcomeAt i e.caliper tag .miss (absentAfter i e s) := by
  rw [feedUntaken, hs, ← markAbsent_after (stationOfNode_some hs).2.1]

theorem envUntaken_of_none (hn : stationOfNode dst.toNat s = none) (tag : Nat) : envUntaken dst tag s = s := by
  rw [envUntaken, hn]

theorem envUntaken_of_some (hs : stationOfNode dst.toNat s = some (i, e)) (tag : Nat) :
    envUntaken dst tag s = envelopeFaultAt i tag (absentAfter i e s) := by
  rw [envUntaken, hs, ← markAbsent_after (stationOfNode_some hs).2.1]

theorem armUntaken_of_none (hn : stationOfNode dst.toNat s = none) (tag : Nat) : armUntaken dst tag s = s := by
  rw [armUntaken, hn]

theorem armUntaken_of_some (hs : stationOfNode dst.toNat s = some (i, e)) (tag : Nat) :
    armUntaken dst tag s = failedReadAt i tag (absentAfter i e s) := by
  rw [armUntaken, hs, ← markAbsent_after (stationOfNode_some hs).2.1]

theorem exec_feedCmdUntaken (hr : Returned s) :
    exec (.feedCmdUntaken dst a b) s = .next (feedUntaken dst a.toNat s) := take_return hr _

theorem exec_envCmdUntaken (hr : Returned s) : exec (.envCmdUntaken dst a) s = .next (envUntaken dst a.toNat s) :=
  take_return hr _

theorem exec_scanArmUntaken (hr : Returned s) : exec (.scanArmUntaken dst a) s = .next (armUntaken dst a.toNat s) :=
  take_return hr _

end

/-! ### The untaken rule of SHEET_ACTION (R23) -/

section
variable {seq inc n : Nat} {c : Collation} {p : Piece} {s : State}

/-- The collation is of a sequence and incarnation. -/
theorem Collation.isOf_iff : c.isOf seq inc = true ↔ c.job.seq = seq ∧ c.job.inc = inc := by
  simp [Collation.isOf]

theorem slotOfRecord_eq_none (h : ∀ m < s.track.slots.length, ∀ q, pieceAt m s = some q → ¬(q.job.seq = seq ∧ q.job.inc = inc)) :
    slotOfRecord seq inc s = none := by
  simp only [slotOfRecord, List.find?_eq_none, List.mem_range]
  intro m hm
  cases hq : pieceAt m s with
  | none => simp
  | some q => simpa using h m hm q hq

theorem slotOfRecord_eq_some (hp : pieceAt n s = some p) (hof : p.job.seq = seq ∧ p.job.inc = inc)
    (hunique : ∀ m < s.track.slots.length, ∀ q, pieceAt m s = some q → q.job.seq = seq ∧ q.job.inc = inc → m = n) :
    slotOfRecord seq inc s = some n := by
  cases hfound : slotOfRecord seq inc s with
  | none =>
    have hnot := List.find?_eq_none.mp hfound n (List.mem_range.mpr (lt_length_of_pieceAt hp))
    simp [hp, hof] at hnot
  | some m =>
    have hm := List.mem_range.mp (List.mem_of_find?_eq_some hfound)
    have hfits := List.find?_some hfound
    cases hq : pieceAt m s with
    | none => simp [hq] at hfits
    | some q => rw [hunique m hm q hq (by simpa [hq] using hfits)]

theorem missPageOnTrack_of_none
    (h : ∀ m < s.track.slots.length, ∀ q, pieceAt m s = some q → ¬(q.job.seq = seq ∧ q.job.inc = inc)) :
    missPageOnTrack seq inc s = s := by
  rw [missPageOnTrack, slotOfRecord_eq_none h]

theorem missPageOnTrack_of_some (hp : pieceAt n s = some p) (hof : p.job.seq = seq ∧ p.job.inc = inc)
    (hunique : ∀ m < s.track.slots.length, ∀ q, pieceAt m s = some q → q.job.seq = seq ∧ q.job.inc = inc → m = n) :
    missPageOnTrack seq inc s = putSlot n (some p.missPage) s := by
  rw [missPageOnTrack, slotOfRecord_eq_some hp hof hunique]
  exact updatePiece_of_some hp _

theorem missPage_of_collecting (hc : s.collation.collecting = .collecting c) (hof : c.job.seq = seq ∧ c.job.inc = inc) :
    missPage seq inc s = setCollecting (.collecting (c.addFault .missingPage)) s := by
  simp only [missPage, hc]
  exact if_pos (Collation.isOf_iff.mpr hof)

theorem missPage_of_complete (hc : s.collation.collecting = .complete c) (hof : c.job.seq = seq ∧ c.job.inc = inc) :
    missPage seq inc s = setCollecting (.complete (c.addFault .missingPage)) s := by
  simp only [missPage, hc]
  exact if_pos (Collation.isOf_iff.mpr hof)

theorem missPage_of_not_collecting (h : ∀ c, s.collation.collecting = .collecting c ∨ s.collation.collecting = .complete c →
    ¬(c.job.seq = seq ∧ c.job.inc = inc)) : missPage seq inc s = missPageBehind seq inc s := by
  unfold missPage
  split
  · exact if_neg (by rw [Collation.isOf_iff]; exact h _ (.inl ‹_›))
  · exact if_neg (by rw [Collation.isOf_iff]; exact h _ (.inr ‹_›))
  · rfl

theorem missPageBehind_of_staging (hc : s.collation.staging = some c) (hof : c.job.seq = seq ∧ c.job.inc = inc) :
    missPageBehind seq inc s = setStaging (some (c.addFault .missingPage)) s := by
  simp only [missPageBehind, hc]
  exact if_pos (Collation.isOf_iff.mpr hof)

theorem missPageBehind_of_not_staging (h : ∀ c, s.collation.staging = some c → ¬(c.job.seq = seq ∧ c.job.inc = inc)) :
    missPageBehind seq inc s = missPageOnTrack seq inc s := by
  unfold missPageBehind
  split
  · exact if_neg (by rw [Collation.isOf_iff]; exact h _ ‹_›)
  · rfl

theorem nodeAbsentAfter_keeps (dst : Node) (s : State) : KeepsAllBut frameParts s (nodeAbsentAfter dst s) := by
  rw [← nodeAbsent_after]
  exact nodeAbsent_keeps (List.Subset.refl _) (.start _ s) dst

theorem exec_sheetActionUntaken {dst : Node} {serial action : Byte} {v : BitVec 24} {d : Byte} (hr : Returned s) :
    exec (.sheetActionUntaken dst serial action v d) s = .next
      (if action = 0 then missPage v.toNat d.toNat (nodeAbsentAfter dst s) else nodeAbsentAfter dst s) := by
  refine (take_return hr _).trans ?_
  rw [sheetActionLost, nodeAbsent_after]
  by_cases h : action = 0 <;> simp [h]

end

/-- Settles O48: the rule of each kind, at the entry of the frame's destination and on what awaits it there. -/
theorem untakenStationFramesAct : Obligations.UntakenStationFramesAct := by
  refine ⟨fun dst kind payload s => ⟨exec_frameReturn_taken dst kind payload s, fun hk => exec_frameReturn_of_no_rule hk ..⟩,
    fun dst a b hold s => ⟨exec_flowFrameUntaken dst hold s, fun serial action q2 q1 q0 inc => ?_,
      exec_frameReturn_untaken _ _ _ (by simp), exec_frameReturn_untaken _ _ _ (by simp),
      exec_frameReturn_untaken _ _ _ (by simp), exec_frameReturn_untaken _ _ _ (by simp),
      exec_frameReturn_untaken _ _ _ (by simp), exec_frameReturn_untaken _ _ _ (by simp),
      exec_frameReturn_untaken _ _ _ (by simp), exec_frameReturn_untaken _ _ _ (by simp)⟩,
    fun dst a b s hr => ⟨?_, ?_, fun hn => ⟨?_, ?_, ?_⟩, fun i e hs => ?station⟩,
    fun dst serial action seq inc s hr => ?sheet⟩
  · rw [exec_frameReturn_untaken _ _ _ (by simp)]
    simp only [exec, execSheetActionUntaken, ← ofBe_three]
    rfl
  · exact (take_return hr _).trans (by rw [nodeAbsent_after])
  · exact (take_return hr _).trans (by rw [nodeAbsent_after])
  · rw [exec_feedCmdUntaken hr, feedUntaken_of_none hn]
  · rw [exec_envCmdUntaken hr, envUntaken_of_none hn]
  · rw [exec_scanArmUntaken hr, armUntaken_of_none hn]
  case station =>
    have hslots : (absentAfter i e s).track.slots = s.track.slots :=
      absentAfter_keeps (stationOfNode_some hs).2.1 .slots (by decide)
    rw [exec_feedCmdUntaken hr, exec_envCmdUntaken hr, exec_scanArmUntaken hr, feedUntaken_of_some hs, envUntaken_of_some hs,
      armUntaken_of_some hs]
    refine ⟨fun hn => ?_, fun hn => ?_, fun hn => ?_, fun n p w ha => ?_⟩
    · rw [feedOutcomeAt_of_nothingAwaits (hn.of_slots hslots)]
    · rw [envelopeFaultAt_of_nothingAwaits (hn.of_slots hslots)]
    · rw [failedReadAt_of_nothingAwaits (hn.of_slots hslots)]
    · have ha' := ha.of_slots hslots
      refine ⟨fun hk => ?_, fun hk => ?_, fun hk => ?_, fun hk hm => ?_, fun hk hm => ?_⟩
      · rw [feedOutcomeAt_of_awaits ha' hk]; rfl
      · rw [feedOutcomeAt_of_awaits ha' hk]; rfl
      · rw [envelopeFaultAt_of_awaits ha' hk]; rfl
      · rw [failedReadAt_of_awaits ha' hk, Piece.failedRead_of_required (by exact hm)]; rfl
      · rw [failedReadAt_of_awaits ha' hk, Piece.failedRead_of_not_required (by exact hm)]; rfl
  case sheet =>
    have hkeeps := nodeAbsentAfter_keeps dst s
    have hcollecting : (nodeAbsentAfter dst s).collation.collecting = s.collation.collecting :=
      hkeeps .collecting (by decide)
    have hstaging : (nodeAbsentAfter dst s).collation.staging = s.collation.staging := hkeeps .staging (by decide)
    have hslots : (nodeAbsentAfter dst s).track.slots = s.track.slots := hkeeps .slots (by decide)
    dsimp only
    rw [exec_sheetActionUntaken hr]
    refine ⟨fun h => by rw [if_neg h], fun h => ?_⟩
    rw [if_pos h]
    refine ⟨fun c hc hof => ?_, fun c hc hof => ?_, fun hnc => ?_⟩
    · rw [missPage_of_collecting (hcollecting.trans hc) hof]; rfl
    · rw [missPage_of_complete (hcollecting.trans hc) hof]; rfl
    · rw [missPage_of_not_collecting (hcollecting.symm ▸ hnc)]
      refine ⟨fun c hc hof => ?_, fun hns => ?_⟩
      · rw [missPageBehind_of_staging (hstaging.trans hc) hof]; rfl
      · rw [missPageBehind_of_not_staging (hstaging.symm ▸ hns)]
        refine ⟨fun n p hp hof hunique => ?_, fun hnp => ?_⟩
        · rw [missPageOnTrack_of_some ((pieceAt_of_slots hslots n).trans hp) hof fun m hm q hq =>
            hunique m (hslots ▸ hm) q (pieceAt_of_slots hslots m ▸ hq)]
          rfl
        · rw [missPageOnTrack_of_none fun m hm q hq => hnp m (hslots ▸ hm) q (pieceAt_of_slots hslots m ▸ hq)]

end Sys2Proof.Machine
end


section
/-! Untaken sorter frames (07, R116, R120, R126): the flight that a BIN_SELECT gives up, and the chain of write requests after
it. -/

namespace Sys2Proof.Machine

/-! ### The flight with a tag (R120) -/

/-- The flight that a BIN_SELECT with a tag gives up: none where no flight has the tag, and else the first that has it. -/
def GivesUp (tag : Nat) (flights lost left : List Flight) : Prop :=
  (lost = [] ∧ left = flights ∧ ∀ f ∈ flights, f.serial % 256 ≠ tag) ∨
  ∃ before f rest, flights = before ++ f :: rest ∧ (∀ g ∈ before, g.serial % 256 ≠ tag) ∧ f.serial % 256 = tag ∧
    lost = [f] ∧ left = before ++ rest

section
variable {tag : Nat} {flights lost left : List Flight}

theorem GivesUp.find (h : GivesUp tag flights lost left) : flights.find? (fun f => f.tag == tag) = lost.head? := by
  obtain ⟨rfl, -, hno⟩ | ⟨before, f, rest, rfl, hno, hf, rfl, -⟩ := h
  · simpa [Flight.tag] using hno
  · rw [List.find?_append, List.find?_eq_none.mpr (by simpa [Flight.tag] using hno), List.find?_cons_of_pos (by simpa [Flight.tag] using hf)]
    rfl

theorem GivesUp.erase {f : Flight} (h : GivesUp tag flights lost left) (hf : lost.head? = some f) :
    flights.erase f = left := by
  obtain ⟨rfl, -, -⟩ | ⟨before, g, rest, rfl, hno, hg, rfl, rfl⟩ := h
  · cases hf
  · obtain rfl : g = f := Option.some.inj hf
    rw [List.erase_append_right _ fun hmem => hno g hmem hg, List.erase_cons_head]

theorem GivesUp.cases (h : GivesUp tag flights lost left) : (lost = [] ∧ left = flights) ∨ ∃ f, lost = [f] := by
  obtain ⟨hlost, hleft, -⟩ | ⟨_, f, _, -, -, -, hlost, -⟩ := h
  · exact .inl ⟨hlost, hleft⟩
  · exact .inr ⟨f, hlost⟩

end

/-! ### The bin OFF and its flight LOST (R120) -/

theorem dropFlight_wrote (b : Nat) (f : Flight) (s : State) : Wrote [] 0 s (dropFlight b f s) := putBin_wrote b _ s

/-- A flight leaves its bin and is disposed LOST (R119, R120). -/
def loseFlight (b : Nat) (f : Flight) (s : State) : State := disposeFlight .lost b none f (dropFlight b f s)

theorem loseFlight_wrote (b : Nat) (f : Flight) (s : State) :
    Wrote [.piece (f.logOf .lost b none)] 1 s (loseFlight b f s) := by
  exact (dropFlight_wrote b f s).trans (disposeFlight_wrote .lost b none f _)

theorem loseFlight_counters (b : Nat) (f : Flight) (s : State) :
    (loseFlight b f s).line.counters = s.line.counters.bump .lost := by
  rw [loseFlight, disposeFlight, dispose_counters]
  rfl

/-- The bin OFF and its flight with the tag LOST, before the alert (R120). -/
def giveUp (b tag : Nat) (s : State) : State :=
  let s1 := putBin b { binAt b s with state := .off } s
  match (binAt b s1).flights.find? (fun f => f.tag == tag) with
  | some f => loseFlight b f s1
  | none => s1

theorem selectUntaken_eq (b tag : Nat) (s : State) :
    selectUntaken b tag s = drainCheck (closeIfOff b (raiseAlert (.selectUntaken b) (giveUp b tag s))) := rfl

/-- The counters after the flights of a list were disposed LOST, one at most. -/
def lostCounted (lost : List Flight) (s : State) : Counters :=
  if lost = [] then s.line.counters else { s.line.counters with lost := min 16777215 (s.line.counters.lost + 1) }

section
variable {b tag : Nat} {lost left : List Flight} {s : State}

theorem giveUp_of_nil (hb : b < 32) (h : GivesUp tag (binAt b s).flights lost left) (hl : lost = []) :
    giveUp b tag s = putBin b { binAt b s with state := .off } s := by
  have hfind := h.find
  rw [hl] at hfind
  simp only [giveUp, binAt_putBin _ _ _ _ hb, if_true, hfind, List.head?_nil]

theorem giveUp_of_one {f : Flight} (hb : b < 32) (h : GivesUp tag (binAt b s).flights lost left) (hl : lost = [f]) :
    giveUp b tag s = loseFlight b f (putBin b { binAt b s with state := .off } s) := by
  have hfind := h.find
  rw [hl] at hfind
  simp only [giveUp, binAt_putBin _ _ _ _ hb, if_true, hfind, List.head?_cons]

theorem giveUp_wrote (hb : b < 32) (h : GivesUp tag (binAt b s).flights lost left) :
    Wrote (lost.map fun f => .piece (f.logOf .lost b none)) 1 s (giveUp b tag s) := by
  have hoff : Wrote [] 0 s (putBin b { binAt b s with state := .off } s) := putBin_wrote b _ s
  obtain ⟨hl, -⟩ | ⟨f, hl⟩ := h.cases
  · rw [giveUp_of_nil hb h hl, hl]
    exact hoff.more (Nat.zero_le 1)
  · rw [giveUp_of_one hb h hl, hl]
    simpa using hoff.trans (loseFlight_wrote b f _)

theorem binAt_giveUp (hb : b < 32) (h : GivesUp tag (binAt b s).flights lost left) (c : Nat) :
    binAt c (giveUp b tag s) =
      if c = b then { binAt b s with state := .off, flights := left, committed := (binAt b s).committed - lost.length }
      else binAt c s := by
  obtain ⟨hl, hleft⟩ | ⟨f, hl⟩ := h.cases
  · rw [giveUp_of_nil hb h hl, hl, hleft, binAt_putBin _ _ _ _ hb]
    rfl
  · have hleft : (binAt b s).flights.erase f = left := h.erase (by rw [hl]; rfl)
    rw [giveUp_of_one hb h hl, hl, loseFlight, binAt_loseFlight hb, binAt_putBin _ _ _ _ hb, binAt_putBin _ _ _ _ hb, if_pos rfl, ← hleft]
    split <;> rfl

theorem giveUp_counters (hb : b < 32) (h : GivesUp tag (binAt b s).flights lost left) :
    (giveUp b tag s).line.counters = lostCounted lost s := by
  obtain ⟨hl, -⟩ | ⟨f, hl⟩ := h.cases
  · rw [giveUp_of_nil hb h hl, hl]
    rfl
  · rw [giveUp_of_one hb h hl, hl, loseFlight_counters]
    rfl

end

/-! ### An alert between write requests (R168) -/

theorem PermitHasRoom.raiseAlert {k : Nat} {s : State} (h : PermitHasRoom (k + 1) s) (d : AlertDetail) :
    PermitHasRoom k (raiseAlert d s) := by
  have hk := raiseAlert_keeps (List.Subset.refl _) (KeepsAllBut.start _ s) d
  have hpermit : (Machine.raiseAlert d s).line.permit = s.line.permit := hk .permit (by decide)
  have hlost : (Machine.raiseAlert d s).log.lost = s.log.lost := hk .logLost (by decide)
  intro hp
  have hbefore := h (hpermit ▸ hp)
  have hlen := (raiseAlert_grows d s).length_le
  rw [hlost]
  omega

/-- An alert of another class than STATION leaves the stations and their alert. -/
theorem raiseAlert_stations {room : Prop} {d : AlertDetail} (hd : d.cls ≠ .station) (s : State) :
    StationsKept id room s (raiseAlert d s) :=
  .of_eq (raiseAlert_alertsKept (l := [d.cls]) (List.mem_singleton_self _) s .station (by simpa using hd.symm))
    (raiseAlert_keeps (by decide) (.start [.own, .alerts] s) d .stations (by decide))

/-- An alert of another class than RESERVE leaves the log and its alert. -/
theorem raiseAlert_took {d : AlertDetail} (hd : d.cls ≠ .reserve) (s : State) : LogTookAll [] s (raiseAlert d s) :=
  ⟨(raiseAlert_keeps (List.Subset.refl [Part.own, .alerts]) (.start _ s) d).log_eq (by decide) (by decide) (by decide)
      (by decide),
    raiseAlert_alertsKept (l := [d.cls]) (List.mem_singleton_self _) s .reserve (by simpa using hd.symm)⟩

/-! ### The close of an emptied bin (R111, R120) -/

theorem closeIfOff_wrote (b : Nat) (s : State) : Wrote
    (if (binAt b s).Emptied then closeRecord b .binOff (binAt b s).bundle s else []) 1 s (closeIfOff b s) := by
  rw [closeIfOff_eq]
  split
  · exact closeBundle_wrote (by decide) s
  · exact (Wrote.of_keeps (.start _ s)).more (Nat.zero_le 1)

theorem binAt_closeIfOff {b : Nat} (hb : b < 32) (s : State) (c : Nat) : binAt c (closeIfOff b s) =
    if c = b ∧ (binAt b s).Emptied then (binAt b s).bundleClosed else binAt c s := by
  rw [closeIfOff_eq]
  by_cases h : (binAt b s).Emptied
  · rw [if_pos h, binAt_closeBundle hb (by decide)]
    by_cases hc : c = b
    · rw [if_pos hc, if_pos ⟨hc, h⟩]
    · rw [if_neg hc, if_neg fun hn => hc hn.1]
  · rw [if_neg h, if_neg fun hc => h hc.2]

/-! ### A flight given up, an alert, and the close (R120) -/

/-- A bin that a BIN_SELECT was not taken for, with its flights left. -/
def Bin.givenUp (lost left : List Flight) (x : Bin) : Bin :=
  { x with
    state := .off, flights := left, committed := x.committed - lost.length
    bundle := if left = [] then none else x.bundle
    trayBundles := x.trayBundles + if left = [] ∧ x.bundle ≠ none then 1 else 0 }

theorem Bin.givenUp_eq (lost left : List Flight) (x : Bin) :
    let y : Bin := { x with state := .off, flights := left, committed := x.committed - lost.length }
    (if y.Emptied then y.bundleClosed else y) = x.givenUp lost left := by
  intro y
  by_cases hl : left = []
  · rw [if_pos (show y.Emptied from ⟨rfl, hl⟩), Bin.givenUp, Bin.bundleClosed, if_pos hl]
    by_cases hb : x.bundle = none <;> simp [y, hl, hb]
  · rw [if_neg fun h : y.Emptied => hl h.2, Bin.givenUp, if_neg hl, if_neg fun h => hl h.1]
    rfl

/-- The records of a BIN_SELECT that was not taken (R120): the LOST piece, and the bundle of a bin left with nothing in
flight. -/
def selectRecords (b : Nat) (lost left : List Flight) (s : State) : List LogBody :=
  (lost.map fun f => LogBody.piece (f.logOf .lost b none)) ++
    if left = [] then closeRecord b .binOff (binAt b s).bundle s else []

/-- What an untaken BIN_SELECT has done before the drain-completion check (R120). -/
structure SelectLost (b : Nat) (lost left : List Flight) (s w : State) : Prop where
  keeps : KeepsAllBut (closeParts ++ [.counters]) s w
  took : LogTookAll (selectRecords b lost left s) s w
  bins : ∀ c, binAt c w = if c = b then (binAt b s).givenUp lost left else binAt c s
  counters : w.line.counters = lostCounted lost s
  sorter : alertOf .sorter w = alertOf .sorter (raiseAlert (.selectUntaken b) s)
  alerts : AlertsKeptBut [.sorter, .reserve, .station] s w
  grows : OwnGrows 3 s w
  stations : StationsKept id (s.ring.own.length + 3 ≤ 32) s w
  hasRoom : s.line.state ≠ .running → s.ring.own.length + 3 ≤ 32 → PermitHasRoom 0 w

theorem selectUntaken_steps {b tag : Nat} {lost left : List Flight} {s : State} (hb : b < 32)
    (h : GivesUp tag (binAt b s).flights lost left) :
    ∃ w, selectUntaken b tag s = drainCheck w ∧ SelectLost b lost left s w := by
  refine ⟨_, selectUntaken_eq b tag s, ?_⟩
  have hgive := giveUp_wrote hb h
  have hkeepsRaised := raiseAlert_keeps (List.Subset.refl [Part.own, .alerts]) (.start _ (giveUp b tag s)) (.selectUntaken b)
  have hbin : ∀ c, binAt c (raiseAlert (.selectUntaken b) (giveUp b tag s)) =
      if c = b then { binAt b s with state := .off, flights := left, committed := (binAt b s).committed - lost.length }
      else binAt c s := fun c => (binAt_eq_of_keeps hkeepsRaised (by decide) c).trans (binAt_giveUp hb h c)
  have hclose := closeIfOff_wrote b (raiseAlert (.selectUntaken b) (giveUp b tag s))
  have hstate : (raiseAlert (.selectUntaken b) (giveUp b tag s)).line.state = s.line.state :=
    (hkeepsRaised.state_eq (by decide)).trans hgive.state_eq
  constructor
  case keeps => exact (hgive.keeps.trans (hkeepsRaised.more (by decide))).trans hclose.keeps
  case took =>
    have hrecord : (if (binAt b (raiseAlert (.selectUntaken b) (giveUp b tag s))).Emptied then
        closeRecord b .binOff (binAt b (raiseAlert (.selectUntaken b) (giveUp b tag s))).bundle
          (raiseAlert (.selectUntaken b) (giveUp b tag s)) else []) =
        if left = [] then closeRecord b .binOff (binAt b s).bundle s else [] := by
      rw [hbin b, if_pos rfl, closeRecord_eq_of_keeps hkeepsRaised (by decide), hgive.closeRecord_eq]
      simp only [Bin.Emptied, true_and]
    have htook := (hgive.took.append (raiseAlert_took (d := .selectUntaken b) AlertClass.noConfusion _)).append hclose.took
    rwa [List.append_nil, hrecord] at htook
  case bins =>
    intro c
    rw [binAt_closeIfOff hb, hbin b, hbin c, if_pos rfl, ← Bin.givenUp_eq]
    by_cases hc : c = b
    · simp only [hc, true_and, if_true]
    · simp only [hc, false_and, if_false]
  case counters =>
    have hkeepsClose := closeIfOff_keeps (List.Subset.refl closeParts)
      (.start _ (raiseAlert (.selectUntaken b) (giveUp b tag s))) b
    rw [hkeepsClose.counters_eq (by decide), hkeepsRaised.counters_eq (by decide), giveUp_counters hb h]
  case sorter =>
    rw [hclose.alerts .sorter (by decide)]
    exact alertOf_raiseAlert_of_eq (d := .selectUntaken b) (hgive.alerts .sorter (by decide))
  case alerts =>
    exact ((hgive.alerts.more (by decide)).trans (raiseAlert_alertsKept (l := [.sorter, .reserve, .station]) (d := .selectUntaken b)
      (List.mem_cons_self ..) _)).trans
      (hclose.alerts.more (by decide))
  case grows => exact (hgive.grows.trans (raiseAlert_grows _ _)).trans hclose.grows
  case stations =>
    have hraised : StationsKept id True (giveUp b tag s) (raiseAlert (.selectUntaken b) (giveUp b tag s)) :=
      raiseAlert_stations AlertClass.noConfusion _
    refine (hgive.stations.trans hraised (fun hr => .inl (by omega)) fun _ => trivial).trans hclose.stations id
      fun hr => .inl ?_
    have h1 := hgive.grows.length_le
    have h2 := (raiseAlert_grows (.selectUntaken b) (giveUp b tag s)).length_le
    omega
  case hasRoom =>
    intro hs hroom
    refine hclose.hasRoom (hstate ▸ hs) 0 (PermitHasRoom.raiseAlert (hgive.hasRoom hs 1 fun _ => ?_) _)
    split <;> omega

/-! ### The untaken sorter frames (R116, R120, R126, R162) -/

theorem exec_divertCmdUntaken {dst : Node} {a : Byte} {s : State} (hr : Returned s) :
    exec (.divertCmdUntaken dst a) s = .next (divertReturn dst a.toNat s) := take_return hr _

theorem exec_binSelectUntaken {dst : Node} {a : Byte} {s : State} (hr : Returned s) :
    exec (.binSelectUntaken dst a) s = .next (selectReturn dst a.toNat s) := take_return hr _

theorem exec_bundleMarkUntaken {dst : Node} {a : Byte} {s : State} (hr : Returned s) :
    exec (.bundleMarkUntaken dst a) s = .next (markReturn dst s) := take_return hr _

theorem divertReturn_of_some {dst : Node} {tag serial : Nat} {s : State}
    (h : s.track.divertSerials.find? (fun x => x % 256 == tag) = some serial) :
    divertReturn dst tag s = requestStop .sorter (raiseAlert (.divertUntaken serial) (nodeAbsentAfter dst s)) := by
  rw [divertReturn, divertSerial, h, ← nodeAbsent_after]
  rfl

theorem divertReturn_of_none {dst : Node} {tag : Nat} {s : State}
    (h : s.track.divertSerials.find? (fun x => x % 256 == tag) = none) :
    divertReturn dst tag s = requestStop .sorter (raiseAlert (.divertUntaken (Config.strangerSerial s.freeIndex))
      (nodeAbsentAfter dst { s with freeIndex := s.freeIndex + 1 })) := by
  rw [divertReturn, divertSerial, h, ← nodeAbsent_after]
  rfl

/-- Settles O49: an untaken BIN_SELECT is write requests around its alert, and then the drain-completion check. -/
theorem untakenSorterFramesAct : Obligations.UntakenSorterFramesAct := by
  intro dst a s hr
  refine ⟨fun serial hs => (exec_divertCmdUntaken hr).trans (by rw [divertReturn_of_some hs]),
    fun hs => ⟨_, (exec_divertCmdUntaken hr).trans (by rw [divertReturn_of_none hs])⟩,
    fun hb => ⟨(exec_binSelectUntaken hr).trans (by rw [selectReturn, hb]),
      (exec_bundleMarkUntaken hr).trans (by rw [markReturn, hb])⟩, fun b hb => ?_⟩
  obtain ⟨hlt, -⟩ := binOfNode_some hb
  refine ⟨(exec_bundleMarkUntaken hr).trans (by rw [markReturn, hb]; rfl), fun lost left hsplit => ?_⟩
  intro now records
  have hgives : GivesUp a.toNat (binAt b s).flights lost left := hsplit
  obtain ⟨w, hsteps, hw⟩ := selectUntaken_steps hlt hgives
  have hstate : w.line.state = s.line.state := hw.keeps.state_eq (by decide)
  have hcompletes : Completes w ↔
      s.line.state = .draining ∧ recordsHeld (drainCheck w) = (drainCheck w).queue.records.length := by
    rw [Completes, hstate, recordsHeld_drainCheck]
  have hself : binAt b w = now := (hw.bins b).trans (if_pos rfl)
  have hother : ∀ c, c ≠ b → binAt c w = binAt c s := fun c hc => (hw.bins c).trans (if_neg hc)
  have hdrainKeeps : KeepsAllBut (stateParts ++ closeParts) w (drainCheck w) :=
    drainCheck_keeps (by decide) (.start _ w)
  refine ⟨drainCheck w, (exec_binSelectUntaken hr).trans (by rw [selectReturn, hb, ← hsteps]), ?_, ?_, ?_, ?_, ?_,
    fun hs => ?_, fun hs => ⟨fun hheld => ?_, fun hheld => ?_, ?_⟩⟩
  · rw [drainCheck_alertsKept _ .sorter (by decide)]
    exact hw.sorter
  · exact (hw.alerts.more (by decide)).trans ((drainCheck_alertsKept _).more (by decide))
  · exact hw.stations.trans (drainCheck_stations _) id fun hroom hdraining =>
      hw.hasRoom (by rw [← hstate, hdraining]; decide) hroom
  · rw [drainCheck_runAlert]
    simp only [hcompletes]
    split
    · exact alertOf_raiseAlert_of_eq (d := .drainComplete) (hw.alerts .run (by decide))
    · exact hw.alerts .run (by decide)
  · rw [hdrainKeeps.counters_eq (by decide)]
    exact hw.counters
  · rw [drainCheck_of_not_completes fun hc => hs (hcompletes.mp hc).1]
    exact ⟨hself, hother, hw.took, hw.keeps⟩
  · rw [drainCheck_of_not_completes fun hc => hheld (hcompletes.mp hc).2]
    exact ⟨hstate.trans hs, hself, hw.took, hother⟩
  · rw [drainCheck_of_completes (hcompletes.mpr ⟨hs, hheld⟩)]
    obtain ⟨hclosed, hdrive⟩ := completeDrain_line w
    exact ⟨hclosed, completeDrain_reason w, hdrive, completeDrain_permit w,
      fun c => by rw [binAt_completeDrain, hw.bins]; rfl,
      completeDrain_took_of hw.keeps (by decide) (by decide) hw.took fun c => by rw [hw.bins]; split <;> rfl⟩
  · exact drainCheck_keeps (by decide) (hw.keeps.more (by decide))

end Sys2Proof.Machine
end


section
/-! Sorter timeouts (07, R60, R116, R119, R124): one flight that timed out, those of one bin, and the examination of all bins. -/

namespace Sys2Proof.Machine

/-! ### The room for a last FEED_PERMIT around an alert and a stop (R150, R157, R168) -/

/-- The notices that alerts of SORTER can still queue: none while the class is pending (R168). -/
def sorterNotices (s : State) : Nat := if (alertOf .sorter s).pending then 0 else 1

theorem sorterNotices_of_alert {s t : State} (h : alertOf .sorter t = alertOf .sorter s) :
    sorterNotices t = sorterNotices s := by
  simp only [sorterNotices, h]

theorem sorterNotices_le (s : State) : sorterNotices s ≤ 1 := by
  unfold sorterNotices
  split <;> omega

/-- A pending class queues nothing. -/
theorem raiseAlert_own_of_pending {d : AlertDetail} {s : State} (h : (alertOf d.cls s).pending = true) :
    (raiseAlert d s).ring.own = s.ring.own := by
  simp [raiseAlert, h, setAlert]

theorem PermitHasRoom.of_eq {k : Nat} {s t : State} (h : PermitHasRoom k s) (hown : t.ring.own = s.ring.own)
    (hpermit : t.line.permit = s.line.permit) (hlost : t.log.lost = s.log.lost) : PermitHasRoom k t := by
  simpa only [PermitHasRoom, hown, hpermit, hlost] using h

theorem PermitHasRoom.raiseSorter {k : Nat} {d : AlertDetail} (hd : d.cls = .sorter) {s : State}
    (h : PermitHasRoom (k + sorterNotices s) s) : PermitHasRoom k (Machine.raiseAlert d s) := by
  cases hp : (alertOf .sorter s).pending with
  | false =>
    rw [sorterNotices, hp] at h
    exact PermitHasRoom.raiseAlert h d
  | true =>
    rw [sorterNotices, hp] at h
    have hk := raiseAlert_keeps (List.Subset.refl _) (KeepsAllBut.start _ s) d
    exact PermitHasRoom.of_eq h (raiseAlert_own_of_pending (by rw [hd]; exact hp)) (hk .permit (by decide))
      (hk .logLost (by decide))

theorem PermitHasRoom.of_permit {s : State} (h : s.line.permit = false) (k : Nat) : PermitHasRoom k s := fun hp => by
  rw [h] at hp
  cases hp

/-- Room for more frames than the queue holds is no permit. -/
theorem PermitHasRoom.permit {s : State} (h : PermitHasRoom 33 s) : s.line.permit = false := by
  cases hp : s.line.permit with
  | false => rfl
  | true =>
    have := h hp
    omega

theorem permit_of_room {k : Nat} {s : State} (h : s.ring.own.length + k + 2 ≤ 32) : PermitHasRoom k s := fun _ => by
  split <;> omega

/-! ### A stop of the SORTER (R119, R150) -/

theorem requestStop_sorter_not_draining (s : State) : (requestStop .sorter s).line.state ≠ .draining := by
  by_cases h : StopReason.sorter.takenIn s.line.state = true
  · rw [(requestStop_line_of_taken h).1]
    decide
  · rw [requestStop_of_not_taken (Bool.eq_false_iff.mpr h)]
    intro hs
    rw [hs] at h
    exact h rfl

theorem requestStop_sorter_not_running (s : State) : (requestStop .sorter s).line.state ≠ .running := by
  by_cases h : StopReason.sorter.takenIn s.line.state = true
  · rw [(requestStop_line_of_taken h).1]
    decide
  · rw [requestStop_of_not_taken (Bool.eq_false_iff.mpr h)]
    intro hs
    rw [hs] at h
    exact h rfl

theorem takenIn_sorter {st : RunState} : StopReason.sorter.takenIn st = true ↔ st = .running ∨ st = .draining := by
  cases st <;> simp [StopReason.takenIn]

theorem requestStop_alertsKept (r : StopReason) (s : State) : AlertsKeptBut [.station] s (requestStop r s) :=
  fun _ hc => requestStop_alert r (by simpa using hc) s

/-- A stop tells the SHEET_FEEDER of a permit that falls, with room for it. -/
theorem requestStop_stations {r : StopReason} {room : Prop} {s : State}
    (h : room → s.ring.own.length < 32 ∨ s.line.permit = false) : StationsKept id room s (requestStop r s) := by
  by_cases ht : r.takenIn s.line.state = true
  · rw [requestStop_of_taken ht, enterState_eq]
    have hmoved : StationsKept id True s (stateMoved r.target (some r) s) :=
      .of_keeps (stateMoved_keeps _ _ s) (by decide) (by decide)
    exact hmoved.trans (evalPermit_stationsKept fun hr => (h hr).imp id fun hp => ⟨r.target_ne_running, hp⟩)
      (fun _ => trivial) id
  · rw [requestStop_of_not_taken (Bool.eq_false_iff.mpr ht)]
    exact .of_eq rfl rfl

theorem requestStop_hasRoom {r : StopReason} {k : Nat} {s : State} (h : s.line.state ≠ .running → PermitHasRoom k s)
    (hr : r.takenIn .running = true) : PermitHasRoom k (requestStop r s) := by
  by_cases ht : r.takenIn s.line.state = true
  · exact .of_permit (requestStop_line_of_taken ht).2.2.2 k
  · rw [requestStop_of_not_taken (Bool.eq_false_iff.mpr ht)]
    exact h fun hs => ht (hs ▸ hr)

/-! ### What timeouts do (R119) -/

/-- What the flights that timed out have done, `n` of them, of bins that `P` holds of, with `l` asked of the log. -/
structure TimedOut (P : Nat → Prop) (l : List LogBody) (n : Nat) (s t : State) : Prop where
  keeps : KeepsAllBut (stateParts ++ closeParts ++ [.counters]) s t
  took : LogTookAll l s t
  same : n = 0 → t = s
  counters : s.line.counters.lost ≤ 16777215 →
    t.line.counters = { s.line.counters with lost := min 16777215 (s.line.counters.lost + n) }
  pending : n ≠ 0 → (alertOf .sorter t).pending = true ∧
    (alertOf .sorter t).count = min 255 ((alertOf .sorter s).count + n)
  older : (alertOf .sorter s).pending = true → (alertOf .sorter t).detail = (alertOf .sorter s).detail
  newer : n ≠ 0 → (alertOf .sorter s).pending = false → ∃ b, P b ∧ (alertOf .sorter t).detail = some (.timeout b)
  paused : n ≠ 0 → s.line.state = .running ∨ s.line.state = .draining →
    t.line.state = .paused ∧ t.line.reason = some .sorter ∧ t.line.drive = false ∧ t.line.permit = false
  left : s.line.state ≠ .running → s.line.state ≠ .draining →
    t.line.state = s.line.state ∧ t.line.reason = s.line.reason ∧ t.line.drive = s.line.drive
  stopped : n ≠ 0 → t.line.state ≠ .running ∧ t.line.state ≠ .draining
  hasRoom : s.line.state ≠ .running → ∀ k, PermitHasRoom (k + sorterNotices s) s → PermitHasRoom (k + sorterNotices t) t
  stations : StationsKept id (s.ring.own.length + 3 ≤ 32 ∨
    (s.line.state ≠ .running ∧ PermitHasRoom (sorterNotices s) s)) s t
  alerts : AlertsKeptBut [.sorter, .reserve, .station] s t

section
variable {P : Nat → Prop} {l l' : List LogBody} {n m : Nat} {s t u : State}

theorem TimedOut.nothing (s : State) : TimedOut P [] 0 s s where
  keeps := .start _ s
  took := ⟨rfl, rfl⟩
  same _ := rfl
  counters h := by rw [Nat.add_zero, Nat.min_eq_right h]
  pending h := absurd rfl h
  older _ := rfl
  newer h := absurd rfl h
  paused h := absurd rfl h
  left _ _ := ⟨rfl, rfl, rfl⟩
  stopped h := absurd rfl h
  hasRoom _ _ h := h
  stations := .of_eq rfl rfl
  alerts := .of_alerts_eq rfl

theorem TimedOut.imp {Q : Nat → Prop} (hPQ : ∀ b, P b → Q b) (h : TimedOut P l n s t) : TimedOut Q l n s t :=
  { h with newer := fun hn hp => (h.newer hn hp).imp fun _ ⟨hb, hd⟩ => ⟨hPQ _ hb, hd⟩ }

/-- Where the stations have room at the start, they have it after the timeouts. -/
theorem TimedOut.room (h : TimedOut P l n s t) (hn : n ≠ 0)
    (hr : s.ring.own.length + 3 ≤ 32 ∨ (s.line.state ≠ .running ∧ PermitHasRoom (sorterNotices s) s)) :
    PermitHasRoom (sorterNotices t) t := by
  by_cases hs : s.line.state = .running
  · exact .of_permit (h.paused hn (.inl hs)).2.2.2 _
  · have hbefore : PermitHasRoom (0 + sorterNotices s) s := by
      rw [Nat.zero_add]
      obtain hlen | ⟨-, hroom⟩ := hr
      · have := sorterNotices_le s
        exact permit_of_room (by omega)
      · exact hroom
    simpa using h.hasRoom hs 0 hbefore

theorem TimedOut.trans (h : TimedOut P l n s t) (h' : TimedOut P l' m t u) : TimedOut P (l ++ l') (n + m) s u := by
  by_cases hn : n = 0
  · obtain rfl := h.same hn
    exact { h' with
      took := h.took.append h'.took
      same := fun h0 => h'.same (by omega)
      counters := fun hle => by rw [h'.counters hle, hn, Nat.zero_add]
      pending := fun h0 => by rw [hn, Nat.zero_add]; exact h'.pending (by omega)
      newer := fun h0 => h'.newer (by omega)
      paused := fun h0 => h'.paused (by omega)
      stopped := fun h0 => h'.stopped (by omega) }
  by_cases hm : m = 0
  · obtain rfl := h'.same hm
    exact { h with
      took := h.took.append h'.took
      same := fun h0 => h.same (by omega)
      counters := fun hle => by rw [h.counters hle, hm, Nat.add_zero]
      pending := fun h0 => by rw [hm, Nat.add_zero]; exact h.pending hn
      newer := fun h0 => h.newer hn
      paused := fun h0 => h.paused hn
      stopped := fun h0 => h.stopped hn }
  obtain ⟨hpend, hcount⟩ := h.pending hn
  obtain ⟨hrun, hdrain⟩ := h.stopped hn
  obtain ⟨hstate, hreason, hdrive⟩ := h'.left hrun hdrain
  constructor
  case keeps => exact h.keeps.trans h'.keeps
  case took => exact h.took.append h'.took
  case same => exact fun h0 => absurd h0 (by omega)
  case counters =>
    intro hle
    have hmid := h.counters hle
    rw [h'.counters (by rw [hmid]; exact Nat.min_le_left ..), hmid]
    simp only [Counters.mk.injEq, true_and, and_true]
    omega
  case pending =>
    intro _
    obtain ⟨hpend', hcount'⟩ := h'.pending hm
    exact ⟨hpend', by rw [hcount', hcount]; omega⟩
  case older => exact fun hp => (h'.older hpend).trans (h.older hp)
  case newer => exact fun _ hp => (h.newer hn hp).imp fun b ⟨hb, hd⟩ => ⟨hb, (h'.older hpend).trans hd⟩
  case paused =>
    intro _ hs
    obtain ⟨hstate', hreason', hdrive', hpermit'⟩ := h.paused hn hs
    exact ⟨hstate.trans hstate', hreason.trans hreason', hdrive.trans hdrive',
      PermitHasRoom.permit (by
        have hroom := h'.hasRoom hrun 33 (.of_permit hpermit' _)
        intro hp
        have := hroom hp
        omega)⟩
  case left =>
    intro hs hs'
    obtain ⟨hstate', hreason', hdrive'⟩ := h.left hs hs'
    exact ⟨hstate.trans hstate', hreason.trans hreason', hdrive.trans hdrive'⟩
  case stopped => exact fun _ => h'.stopped hm
  case hasRoom => exact fun hs k hk => h'.hasRoom hrun k (h.hasRoom hs k hk)
  case stations =>
    exact h.stations.trans h'.stations id fun hr => .inr ⟨hrun, h.room hn hr⟩
  case alerts => exact h.alerts.trans h'.alerts

end

/-! ### One flight (R119) -/

section
variable {b : Nat} (f : Flight) (s : State)

/-- A flight LOST with its alert and the stop it asks for, before the close of its bin. -/
def timeoutStop (b : Nat) (f : Flight) (s : State) : State :=
  requestStop .sorter (raiseAlert (.timeout b) (loseFlight b f s))

/-- After the stop the line does not drain, so no completion follows. -/
theorem timeoutFlight_eq (b : Nat) : timeoutFlight b f s = closeIfOff b (timeoutStop b f s) := by
  have hstate : (closeIfOff b (timeoutStop b f s)).line.state = (timeoutStop b f s).line.state :=
    (closeIfOff_wrote b (timeoutStop b f s)).state_eq
  exact drainCheck_of_not_completes fun hc =>
    requestStop_sorter_not_draining _ (hstate.symm.trans hc.1)

theorem timeoutStop_keeps (b : Nat) : KeepsAllBut stateParts (loseFlight b f s) (timeoutStop b f s) :=
  requestStop_keeps (List.Subset.refl _) (raiseAlert_keeps (by decide) (.start _ _) _) _

theorem binAt_timeoutFlight (hb : b < 32) (c : Nat) : binAt c (timeoutFlight b f s) =
    if c = b then
      let y : Bin := { binAt b s with flights := (binAt b s).flights.erase f, committed := (binAt b s).committed - 1 }
      if y.Emptied then y.bundleClosed else y
    else binAt c s := by
  have hbin : ∀ d, binAt d (timeoutStop b f s) = binAt d (loseFlight b f s) :=
    binAt_eq_of_keeps (timeoutStop_keeps f s b) (by decide)
  rw [timeoutFlight_eq, binAt_closeIfOff hb, hbin, hbin, loseFlight, binAt_loseFlight hb, binAt_loseFlight hb, if_pos rfl]
  by_cases hc : c = b
  · simp only [hc, true_and, if_true]
  · simp only [hc, false_and, if_false]

/-- The records of one flight that timed out (R119, R124): its LOST piece, and the bundle of an OFF bin it left empty. -/
def timeoutRecords (b : Nat) (f : Flight) (s : State) : List LogBody :=
  .piece (f.logOf .lost b none) ::
    if (binAt b s).state = .off ∧ (binAt b s).flights.erase f = [] then closeRecord b .binOff (binAt b s).bundle s else []

theorem timeoutFlight_timedOut (hb : b < 32) :
    TimedOut (· = b) (timeoutRecords b f s) 1 s (timeoutFlight b f s) := by
  have hlose := loseFlight_wrote b f s
  have hclose := closeIfOff_wrote b (timeoutStop b f s)
  have hsorterLost : alertOf .sorter (loseFlight b f s) = alertOf .sorter s := hlose.alerts .sorter (by decide)
  have hsorter : alertOf .sorter (timeoutFlight b f s) = alertOf .sorter (raiseAlert (.timeout b) s) := by
    rw [timeoutFlight_eq, hclose.alerts .sorter (by decide), timeoutStop, requestStop_alert _ (by decide)]
    exact alertOf_raiseAlert_of_eq (d := .timeout b) hsorterLost
  have hraised : alertOf .sorter (raiseAlert (.timeout b) s) = _ :=
    (alertOf_raiseAlert (.timeout b) .sorter s).trans (if_pos rfl)
  have hkeepsClose : KeepsAllBut closeParts (timeoutStop b f s) (timeoutFlight b f s) := by
    rw [timeoutFlight_eq]
    exact closeIfOff_keeps (List.Subset.refl _) (.start _ _) b
  have hstateLost : (raiseAlert (.timeout b) (loseFlight b f s)).line.state = s.line.state := by
    rw [raiseAlert_line, hlose.state_eq]
  have hpending : sorterNotices (timeoutFlight b f s) = 0 := by
    rw [sorterNotices, hsorter, hraised]
    rfl
  have hroomStop : s.line.state ≠ .running → ∀ k, PermitHasRoom (k + sorterNotices s) s →
      PermitHasRoom k (timeoutStop b f s) := fun hs k hk =>
    requestStop_hasRoom (fun _ => PermitHasRoom.raiseSorter rfl (by
      rw [sorterNotices_of_alert hsorterLost]
      exact hlose.hasRoom hs _ hk)) rfl
  have hrunning : (timeoutStop b f s).line.state ≠ .running := requestStop_sorter_not_running _
  have hstateClose : (timeoutFlight b f s).line.state = (timeoutStop b f s).line.state :=
    hkeepsClose.state_eq (by decide)
  constructor
  case keeps =>
    exact ((hlose.keeps.more (by decide)).trans ((timeoutStop_keeps f s b).more (by decide))).trans
      (hkeepsClose.more (by decide))
  case took =>
    have hlog : (timeoutStop b f s).log = (loseFlight b f s).log :=
      (timeoutStop_keeps f s b).log_eq (by decide) (by decide) (by decide) (by decide)
    have hreserve : alertOf .reserve (timeoutStop b f s) = alertOf .reserve (loseFlight b f s) := by
      rw [timeoutStop, requestStop_alert _ (by decide)]
      exact raiseAlert_alertsKept (l := [.sorter]) (d := .timeout b) (List.mem_singleton_self _) _ .reserve (by decide)
    have htook := (hlose.took.append (m := []) ⟨hlog, hreserve⟩).append hclose.took
    have hbin : binAt b (timeoutStop b f s) = _ :=
      (binAt_eq_of_keeps (timeoutStop_keeps f s b) (by decide) b).trans (binAt_loseFlight hb f s b)
    rw [if_pos rfl] at hbin
    rw [hbin, closeRecord_eq_of_keeps (timeoutStop_keeps f s b) (by decide), hlose.closeRecord_eq] at htook
    rw [timeoutFlight_eq]
    exact htook
  case same => exact fun h0 => absurd h0 Nat.one_ne_zero
  case counters =>
    intro _
    rw [hkeepsClose.counters_eq (by decide), (timeoutStop_keeps f s b).counters_eq (by decide), loseFlight_counters]
    rfl
  case pending =>
    intro _
    rw [hsorter, hraised]
    exact ⟨rfl, rfl⟩
  case older =>
    intro hp
    rw [hsorter, hraised]
    exact if_pos hp
  case newer =>
    intro _ hp
    rw [hsorter, hraised]
    exact ⟨b, rfl, if_neg (by simpa [AlertDetail.cls] using hp)⟩
  case paused =>
    intro _ hs
    have ht : StopReason.sorter.takenIn (raiseAlert (.timeout b) (loseFlight b f s)).line.state = true :=
      takenIn_sorter.mpr (hstateLost.symm ▸ hs)
    obtain ⟨hstate, hreason, hdrive, hpermit⟩ := requestStop_line_of_taken ht
    refine ⟨hstateClose.trans hstate, (hkeepsClose .reason (by decide)).trans hreason,
      (hkeepsClose .drive (by decide)).trans hdrive, PermitHasRoom.permit ?_⟩
    rw [timeoutFlight_eq]
    exact hclose.hasRoom hrunning 33 (.of_permit hpermit 33)
  case left =>
    intro hs hs'
    have hsame : timeoutStop b f s = raiseAlert (.timeout b) (loseFlight b f s) :=
      requestStop_of_not_taken (Bool.eq_false_iff.mpr fun ht => by
        rw [hstateLost] at ht
        exact (takenIn_sorter.mp ht).elim hs hs')
    have hline : (timeoutStop b f s).line = (loseFlight b f s).line := by rw [hsame, raiseAlert_line]
    refine ⟨hstateClose.trans (hline ▸ hlose.state_eq), ?_, ?_⟩
    · exact (hkeepsClose .reason (by decide)).trans (hline ▸ hlose.keeps .reason (by decide))
    · exact (hkeepsClose .drive (by decide)).trans (hline ▸ hlose.keeps .drive (by decide))
  case stopped =>
    exact fun _ => ⟨hstateClose ▸ hrunning, hstateClose ▸ requestStop_sorter_not_draining _⟩
  case hasRoom =>
    intro hs k hk
    rw [hpending, timeoutFlight_eq]
    exact hclose.hasRoom hrunning _ (hroomStop hs k hk)
  case stations =>
    rw [timeoutFlight_eq]
    have hraisedKeeps : StationsKept id True (loseFlight b f s) (raiseAlert (.timeout b) (loseFlight b f s)) :=
      raiseAlert_stations AlertClass.noConfusion _
    have h1 := hlose.grows.length_le
    have h2 := (raiseAlert_grows (.timeout b) (loseFlight b f s)).length_le
    have hlt : s.ring.own.length + 3 ≤ 32 ∨ (s.line.state ≠ .running ∧ PermitHasRoom (sorterNotices s) s) →
        (raiseAlert (.timeout b) (loseFlight b f s)).ring.own.length < 32 ∨
          (raiseAlert (.timeout b) (loseFlight b f s)).line.permit = false := by
      rintro (hlen | ⟨hs, hroom⟩)
      · exact .inl (by omega)
      · refine PermitHasRoom.lt_or (PermitHasRoom.raiseSorter rfl ?_)
        rw [Nat.zero_add, sorterNotices_of_alert hsorterLost]
        exact hlose.hasRoom hs _ hroom
    have hfree : s.ring.own.length + 3 ≤ 32 ∨ (s.line.state ≠ .running ∧ PermitHasRoom (sorterNotices s) s) →
        FeedsFreely 1 s := by
      rintro (hlen | ⟨hs, hroom⟩)
      · exact .inl (by omega)
      · refine .inr ⟨hs, fun hp => ?_⟩
        have := hroom hp
        omega
    refine (((hlose.stations.trans hraisedKeeps hfree fun _ => trivial).trans (requestStop_stations hlt) id id).trans
      hclose.stations id fun hr => .inr ⟨hrunning, ?_⟩)
    by_cases hs : s.line.state = .running
    · exact .of_permit (requestStop_line_of_taken (takenIn_sorter.mpr (.inl (hstateLost.trans hs)))).2.2.2 0
    · refine hroomStop hs 0 ?_
      rw [Nat.zero_add]
      obtain hlen | ⟨-, hroom⟩ := hr
      · have := sorterNotices_le s
        exact permit_of_room (by omega)
      · exact hroom
  case alerts =>
    rw [timeoutFlight_eq]
    exact (((hlose.alerts.more (by decide)).trans (raiseAlert_alertsKept (l := [.sorter, .reserve, .station])
      (d := .timeout b) (List.mem_cons_self ..) _)).trans ((requestStop_alertsKept .sorter _).more (by decide))).trans
      (hclose.alerts.more (by decide))

end

end Sys2Proof.Machine
end


section
/-! The examination of the flights (07, R60, R119): the flights of one bin and of every bin, and the advance at which it is
made. -/

namespace Sys2Proof.Machine

/-! ### The flights of one bin (R119) -/

theorem diff_cons_of_notMem {α : Type} [DecidableEq α] {a : α} {m : List α} (ha : a ∉ m) (k : List α) :
    (a :: k).diff m = a :: k.diff m := by
  induction m generalizing k with
  | nil => rfl
  | cons c m ih =>
    have hac : a ≠ c := fun h => ha (h ▸ List.mem_cons_self ..)
    rw [List.diff_cons, List.diff_cons, List.erase_cons_tail (by simpa using hac), ih fun h => ha (List.mem_cons_of_mem _ h)]

/-- Taking away, one by one, the elements of a list that pass a test leaves the others. -/
theorem diff_filter {α : Type} [DecidableEq α] (p : α → Bool) (l : List α) :
    l.diff (l.filter p) = l.filter (fun x => !p x) := by
  induction l with
  | nil => rfl
  | cons a l ih =>
    cases hp : p a with
    | true =>
      rw [List.filter_cons_of_pos hp, List.filter_cons_of_neg (by simp [hp]), List.diff_cons, List.erase_cons_head, ih]
    | false =>
      rw [List.filter_cons_of_neg (by simp [hp]), List.filter_cons_of_pos (by simp [hp]),
        diff_cons_of_notMem (by simp [hp]), ih]

/-- A bin after the flights of a list timed out: removed, and the bundle of an OFF bin left empty closed. -/
def Bin.timedOut (l : List Flight) (x : Bin) : Bin :=
  let closes := l ≠ [] ∧ x.state = .off ∧ x.flights.diff l = []
  { x with
    flights := x.flights.diff l, committed := x.committed - l.length
    bundle := if closes then none else x.bundle
    trayBundles := x.trayBundles + if closes ∧ x.bundle ≠ none then 1 else 0 }

/-- The records of the flights of a list that time out. -/
def timeoutsRecords (b : Nat) (l : List Flight) (s : State) : List LogBody :=
  (l.map fun f => LogBody.piece (f.logOf .lost b none)) ++
    if l ≠ [] ∧ (binAt b s).state = .off ∧ (binAt b s).flights.diff l = [] then
      closeRecord b .binOff (binAt b s).bundle s else []

theorem Bin.timedOut_nil (x : Bin) : x.timedOut [] = x := by
  simp [Bin.timedOut]

theorem Bin.timedOut_one_flights (f : Flight) (x : Bin) : (x.timedOut [f]).flights = x.flights.erase f := by
  simp [Bin.timedOut]

theorem Bin.timedOut_one (f : Flight) (x : Bin) :
    x.timedOut [f] =
      let y : Bin := { x with flights := x.flights.erase f, committed := x.committed - 1 }
      if y.Emptied then y.bundleClosed else y := by
  by_cases h : x.state = .off ∧ x.flights.erase f = []
  · simp only [Bin.timedOut, List.diff_cons, List.diff_nil, ne_eq, List.cons_ne_nil, not_false_eq_true, true_and, h, and_self,
      if_true, Bin.Emptied, Bin.bundleClosed, List.length_singleton]
    cases x.bundle <;> simp
  · simp only [Bin.timedOut, List.diff_cons, List.diff_nil, ne_eq, List.cons_ne_nil, not_false_eq_true, true_and, h, if_false,
      false_and, Bin.Emptied, List.length_singleton, Nat.add_zero]

/-- The first of several flights leaves the bin's bundle open. -/
theorem Bin.timedOut_cons {f : Flight} {l : List Flight} {x : Bin} (hl : l ≠ []) (hsub : (f :: l).Subperm x.flights) :
    (x.timedOut [f]).timedOut l = x.timedOut (f :: l) ∧ ¬(x.state = .off ∧ x.flights.erase f = []) := by
  have hrest : l.Subperm (x.flights.erase f) := by
    have := hsub.erase f
    rwa [List.erase_cons_head] at this
  have hne : x.flights.erase f ≠ [] := fun h => by
    rw [h] at hrest
    exact hl (List.subperm_nil.mp hrest)
  refine ⟨?_, fun h => hne h.2⟩
  rw [Bin.timedOut_one]
  dsimp only
  rw [if_neg fun h : Bin.Emptied _ => hne h.2]
  simp only [Bin.timedOut, List.diff_cons, ne_eq, hl, not_false_eq_true, true_and, List.cons_ne_nil, List.length_cons,
    Nat.sub_sub, Nat.add_comm 1]

section
variable {b : Nat} (hb : b < 32)
include hb

theorem binAt_timeoutFlights : ∀ {l : List Flight} {s : State}, l.Subperm (binAt b s).flights → ∀ c,
    binAt c (l.foldl (fun s f => timeoutFlight b f s) s) = if c = b then (binAt b s).timedOut l else binAt c s
  | [], s, _, c => by
    rw [List.foldl_nil, Bin.timedOut_nil]
    split
    · subst_vars; rfl
    · rfl
  | f :: l, s, hsub, c => by
    have hone : ∀ c, binAt c (timeoutFlight b f s) = if c = b then (binAt b s).timedOut [f] else binAt c s := fun c => by
      rw [binAt_timeoutFlight f s hb, Bin.timedOut_one]
    have hflights : (binAt b (timeoutFlight b f s)).flights = (binAt b s).flights.erase f := by
      rw [hone, if_pos rfl, Bin.timedOut_one_flights]
    have hrest : l.Subperm (binAt b (timeoutFlight b f s)).flights := by
      rw [hflights]
      have := hsub.erase f
      rwa [List.erase_cons_head] at this
    rw [List.foldl_cons, binAt_timeoutFlights hrest, hone, hone, if_pos rfl]
    split
    · by_cases hl : l = []
      · rw [hl, Bin.timedOut_nil]
      · exact (Bin.timedOut_cons hl hsub).1
    · rfl

theorem timeoutFlights_timedOut : ∀ {l : List Flight} {s : State}, l.Subperm (binAt b s).flights →
    TimedOut (· = b) (timeoutsRecords b l s) l.length s (l.foldl (fun s f => timeoutFlight b f s) s)
  | [], s, _ => by
    simpa [timeoutsRecords] using TimedOut.nothing s
  | f :: l, s, hsub => by
    have hstep := timeoutFlight_timedOut f s hb
    have hbin : binAt b (timeoutFlight b f s) = (binAt b s).timedOut [f] := by
      rw [binAt_timeoutFlight f s hb, if_pos rfl, Bin.timedOut_one]
    have hrest : l.Subperm (binAt b (timeoutFlight b f s)).flights := by
      have := hsub.erase f
      rw [List.erase_cons_head] at this
      rwa [hbin, Bin.timedOut_one_flights]
    have hrecords : timeoutRecords b f s ++ timeoutsRecords b l (timeoutFlight b f s) = timeoutsRecords b (f :: l) s := by
      by_cases hl : l = []
      · subst hl
        simp only [timeoutRecords, timeoutsRecords, ne_eq, not_true_eq_false, false_and, if_false, List.map_nil, List.append_nil,
          List.map_cons, List.cons_ne_nil, not_false_eq_true, true_and, List.diff_cons, List.diff_nil, List.cons_append,
          List.nil_append]
      · obtain ⟨-, hopen⟩ := Bin.timedOut_cons hl hsub
        have hbundle : ((binAt b s).timedOut [f]).bundle = (binAt b s).bundle := by
          rw [Bin.timedOut_one]
          dsimp only
          rw [if_neg fun h : Bin.Emptied _ => hopen h]
        have hstate : ((binAt b s).timedOut [f]).state = (binAt b s).state := rfl
        have hdiff : ((binAt b s).timedOut [f]).flights.diff l = (binAt b s).flights.diff (f :: l) := by
          rw [List.diff_cons, Bin.timedOut_one_flights]
        simp only [timeoutRecords, if_neg hopen, timeoutsRecords, hbin, hbundle, hstate, hdiff, ne_eq, hl, not_false_eq_true,
          List.cons_ne_nil, closeRecord_eq_of_keeps hstep.keeps (by decide), List.map_cons, List.cons_append, List.nil_append]
    rw [← hrecords, List.length_cons, Nat.add_comm]
    exact hstep.trans (timeoutFlights_timedOut hrest)

end

/-! ### The flights of every bin (R119) -/

/-- A bin's flights that have timed out. -/
def lateFlights (b : Nat) (s : State) : List Flight := (binAt b s).flights.filter (timedOut s)

theorem timedOut_of_keeps {l : List Part} {s t : State} (h : KeepsAllBut l s t) (hw : Part.window ∉ l) (hp : Part.pitch ∉ l) :
    timedOut t = timedOut s := by
  have hwindow : t.sort.window = s.sort.window := h .window hw
  have hpitch : t.track.pitch = s.track.pitch := h .pitch hp
  funext f
  simp only [timedOut, hwindow, hpitch]

section
variable {b : Nat} (hb : b < 32) (s : State)
include hb

theorem timeoutBin_timedOut :
    TimedOut (· = b) (timeoutsRecords b (lateFlights b s) s) (lateFlights b s).length s (timeoutBin b s) :=
  timeoutFlights_timedOut hb List.filter_sublist.subperm

theorem binAt_timeoutBin (c : Nat) : binAt c (timeoutBin b s) =
    if c = b then (binAt b s).timedOut (lateFlights b s) else binAt c s :=
  binAt_timeoutFlights hb List.filter_sublist.subperm c

end

/-- The bins are examined one after another; each finds its flights, its bundle and the window as they were. -/
theorem timeoutBins_timedOut {xs : List Nat} (hlt : ∀ b ∈ xs, b < 32) (hnodup : xs.Nodup) (s : State) :
    TimedOut (fun b => b ∈ xs ∧ lateFlights b s ≠ []) (xs.flatMap fun b => timeoutsRecords b (lateFlights b s) s)
      (xs.map fun b => (lateFlights b s).length).sum s (xs.foldl (fun s b => timeoutBin b s) s) ∧
    ∀ c, binAt c (xs.foldl (fun s b => timeoutBin b s) s) =
      if c ∈ xs then (binAt c s).timedOut (lateFlights c s) else binAt c s := by
  induction xs generalizing s with
  | nil => exact ⟨.nothing s, fun c => rfl⟩
  | cons a xs ih =>
    obtain ⟨ha, hlt⟩ := List.forall_mem_cons.mp hlt
    obtain ⟨hnot, hnodup⟩ := List.nodup_cons.mp hnodup
    obtain ⟨hrest, hbins⟩ := ih hlt hnodup (timeoutBin a s)
    have hstep := timeoutBin_timedOut ha s
    have hother : ∀ c ∈ xs, binAt c (timeoutBin a s) = binAt c s := fun c hc => by
      rw [binAt_timeoutBin ha, if_neg (ne_of_mem_of_not_mem hc hnot)]
    have hlate : ∀ c ∈ xs, lateFlights c (timeoutBin a s) = lateFlights c s := fun c hc => by
      rw [lateFlights, hother c hc, timedOut_of_keeps hstep.keeps (by decide) (by decide), lateFlights]
    have hrecords : (xs.flatMap fun b => timeoutsRecords b (lateFlights b (timeoutBin a s)) (timeoutBin a s)) =
        xs.flatMap fun b => timeoutsRecords b (lateFlights b s) s :=
      List.flatMap_congr fun c hc => by
        simp only [timeoutsRecords, hlate c hc, hother c hc, closeRecord_eq_of_keeps hstep.keeps (by decide)]
    have hsum : (xs.map fun b => (lateFlights b (timeoutBin a s)).length) = xs.map fun b => (lateFlights b s).length :=
      List.map_congr_left fun c hc => by rw [hlate c hc]
    rw [hrecords, hsum] at hrest
    refine ⟨?_, fun c => ?_⟩
    · rw [List.flatMap_cons, List.map_cons, List.sum_cons, List.foldl_cons]
      by_cases hnil : lateFlights a s = []
      · have hsame : timeoutBin a s = s := hstep.same (by rw [hnil]; rfl)
        have hempty : timeoutsRecords a (lateFlights a s) s = [] := by simp [timeoutsRecords, hnil]
        rw [hempty, hnil, List.nil_append, List.length_nil, Nat.zero_add, hsame]
        rw [hsame] at hrest
        exact hrest.imp fun b ⟨hb, hne⟩ => ⟨List.mem_cons_of_mem _ hb, hne⟩
      · exact (hstep.imp fun b hb => ⟨by simp [hb], by rw [hb]; exact hnil⟩).trans
          (hrest.imp fun b ⟨hb, hne⟩ => ⟨List.mem_cons_of_mem _ hb, hlate b hb ▸ hne⟩)
    · rw [List.foldl_cons, hbins, binAt_timeoutBin ha]
      by_cases hc : c ∈ xs
      · rw [if_pos hc, if_pos (List.mem_cons_of_mem _ hc), if_neg (ne_of_mem_of_not_mem hc hnot), hlate c hc]
      · rw [if_neg hc]
        by_cases hca : c = a
        · rw [if_pos hca, if_pos (by simp [hca]), hca]
        · rw [if_neg hca, if_neg (by simp [hca, hc])]

/-! ### The advance that examines the flights (R60, R119) -/

theorem timeoutDue_iff {s : State} : timeoutDue s = true ↔
    ∃ b < 32, ∃ f ∈ (binAt b s).flights, s.sort.window ≤ ((s.track.pitch + 1) % 256 + 256 - f.pitch % 256) % 256 := by
  simp only [timeoutDue, List.any_eq_true, Vector.mem_toList_iff, Vector.mem_iff_getElem, timedOut, decide_eq_true_eq]
  constructor
  · rintro ⟨x, ⟨b, hb, rfl⟩, f, hf, hlate⟩
    exact ⟨b, hb, f, by simpa [binAt, hb] using hf, hlate⟩
  · rintro ⟨b, hb, f, hf, hlate⟩
    exact ⟨_, ⟨b, hb, rfl⟩, f, by simpa [binAt, hb] using hf, hlate⟩

theorem advanceDue_iff {s : State} :
    advanceDue s = true ↔ s.line.state ≠ .idle ∧ s.track.position + 1 = s.track.boundary := by
  simp [advanceDue, runOpen]

/-- A forward pulse counted, before the boundary is looked at. -/
def pulsed (s : State) : State := s.setTrack { s.track with position := s.track.position + 1 }

theorem forwardPulse_of_due {s : State} (h : s.track.position + 1 = s.track.boundary) :
    forwardPulse s = advance (pulsed s) := if_pos h

/-- An advance up to the examination of the flights. -/
def trackAdvanced (s : State) : State := arrivals (releaseStaging (moveSlots (exitSlot (markPitch s))))

theorem advance_eq (s : State) : advance s = sorterTimeouts (trackAdvanced s) := rfl

/-- What the steps of an advance after the exit touch: no bin, pitch number or window. -/
abbrev afterExitParts : List Part := [.own, .alerts, .stations, .slots, .collecting, .staging, .nextSerial, .pageUse, .groups]

theorem afterExit_keeps (s : State) : KeepsAllBut afterExitParts s (arrivals (releaseStaging (moveSlots s))) :=
  arrivals_keeps (by decide) (releaseStaging_keeps (by decide) (moveSlots_keeps (by decide) (.start _ s)))

theorem markPitch_pitch (s : State) : (markPitch s).track.pitch = (s.track.pitch + 1) % 256 := by
  unfold markPitch
  dsimp only
  rw [(sendPlain_keeps (List.Subset.refl [Part.own]) (.start _ _) _ _ : KeepsAllBut _ _ _) .pitch (by decide)]
  split <;> rfl

end Sys2Proof.Machine
end


section
/-! Sorter timeouts as stated (07, R60, R119): the examination of a state, and the advance that ends with it. -/

namespace Sys2Proof.Machine

/-! ### The flights that the steps before the examination add (R112) -/

/-- A step adds to each bin's list only flights selected at the present pitch number. -/
def SelectsNow (s t : State) : Prop := ∀ b, ∃ more, (binAt b t).flights = (binAt b s).flights ++ more ∧
  ∀ f ∈ more, f.pitch = s.track.pitch

theorem SelectsNow.of_flights {s t : State} (h : ∀ b, (binAt b t).flights = (binAt b s).flights) : SelectsNow s t :=
  fun b => ⟨[], by rw [h, List.append_nil], by simp⟩

theorem divertPiece_of_room {s : State} (d : Disposition) (cls : Option CaliperClass) (p : Piece)
    (hroom : s.ring.own.length < 32) : ∃ t, divertPiece d cls p s = drainCheck (disposePiece d cls p t) ∧
      KeepsAllBut [.own, .divertSerials] s t := by
  unfold divertPiece
  split
  · next e _ =>
    refine ⟨pushOwn _ (.divertCmd p.tag) (noteDivert p.serial s),
      if_neg fun hfull => absurd (ownFull_iff.mp hfull) (Nat.not_le.mpr hroom), fun q hq => ?_⟩
    cases q <;> first | rfl | exact absurd (by decide) hq
  · exact ⟨s, rfl, .start _ s⟩

theorem flights_divertPiece {s : State} (d : Disposition) (cls : Option CaliperClass) (p : Piece)
    (hroom : s.ring.own.length < 32) (b : Nat) : (binAt b (divertPiece d cls p s)).flights = (binAt b s).flights := by
  obtain ⟨t, heq, hkeeps⟩ := divertPiece_of_room d cls p hroom
  have hdisposed : KeepsAllBut (disposeParts ++ [.divertSerials]) s (disposePiece d cls p t) :=
    disposePiece_keeps (by decide) (hkeeps.more (by decide)) d cls p
  rw [heq, flights_drainCheck, binAt_eq_of_keeps hdisposed (by decide)]

theorem selectsNow_selectInto {s : State} {b : Nat} (hb : b < 32) (f : Flight) (hf : f.pitch = s.track.pitch)
    (hroom : s.ring.own.length < 32) : SelectsNow s (selectInto b f s) := by
  have hput : ∀ c, binAt c (putBin b ((binAt b s).select f) s) = if c = b then (binAt b s).select f else binAt c s :=
    fun c => binAt_putBin b c _ s hb
  have hbin : ∀ c, binAt c (selectInto b f s) = if c = b then (binAt b s).select f else binAt c s := by
    intro c
    rw [← hput]
    unfold selectInto
    split
    · dsimp only
      have hfull : ¬ownFull (putBin b ((binAt b s).select f) s) = true := fun h =>
        absurd (ownFull_iff.mp h) (Nat.not_le.mpr hroom)
      rw [if_neg hfull]
      rfl
    · rfl
  intro c
  rw [hbin]
  split
  · next hc => exact ⟨[f], by rw [hc]; rfl, by simpa using hf⟩
  · exact ⟨[], (List.append_nil _).symm, by simp⟩

theorem selectsNow_exitPiece {s : State} (p : Piece) (hroom : s.ring.own.length < 32) : SelectsNow s (exitPiece p s) := by
  unfold exitPiece
  split
  · exact .of_flights (flights_divertPiece _ _ _ hroom)
  · unfold selectBin
    dsimp only
    split
    · next b hb => exact selectsNow_selectInto (lt_of_accepts (searchChain_some hb)) _ rfl hroom
    · split
      · next b hb => exact selectsNow_selectInto (lt_of_accepts (searchChain_some hb)) _ rfl hroom
      · refine .of_flights fun b => ?_
        rw [binAt_eq_of_keeps (raiseAlert_keeps (List.Subset.refl [Part.own, .alerts]) (.start _ _) _) (by decide)]
        exact flights_divertPiece _ _ _ hroom b

theorem selectsNow_exitSlot {s : State} (hroom : s.ring.own.length < 32) : SelectsNow s (exitSlot s) := by
  unfold exitSlot
  dsimp only
  split
  · next p _ =>
    have hkeeps : KeepsAllBut [.slots, .pageUse, .groups] s
        (lowerMatchCounts p.leaveWindows.scheme (putSlot (s.track.slots.length - 1) none s)) :=
      lowerMatchCounts_keeps (by decide) (putSlot_keeps (by decide) (.start _ s) _ _) _
    have hown : _ = s.ring.own := hkeeps .own (by decide)
    have hpitch : _ = s.track.pitch := hkeeps .pitch (by decide)
    intro b
    obtain ⟨more, hmore, hnow⟩ := selectsNow_exitPiece p.leaveWindows (hown ▸ hroom) b
    rw [hpitch] at hnow
    rw [binAt_eq_of_keeps hkeeps (by decide)] at hmore
    exact ⟨more, hmore, hnow⟩
  · exact .of_flights fun _ => rfl

theorem trackAdvanced_pitch (s : State) : (trackAdvanced s).track.pitch = (s.track.pitch + 1) % 256 := by
  have hexit : KeepsAllBut (endParts ++ [.slots, .divertSerials, .pageUse, .groups]) (markPitch s) (exitSlot (markPitch s)) :=
    exitSlot_keeps (List.Subset.refl _) (.start _ _)
  rw [← markPitch_pitch]
  exact (afterExit_keeps _ .pitch (by decide)).trans (hexit .pitch (by decide))

theorem trackAdvanced_window (s : State) : (trackAdvanced s).sort.window = s.sort.window := by
  have hexit : KeepsAllBut (endParts ++ [.slots, .divertSerials, .pageUse, .groups]) (markPitch s) (exitSlot (markPitch s)) :=
    exitSlot_keeps (List.Subset.refl _) (.start _ _)
  have hmark : KeepsAllBut [.own, .position, .boundary, .pitch] s (markPitch s) :=
    markPitch_keeps (List.Subset.refl _) (.start _ s)
  exact ((afterExit_keeps _ .window (by decide)).trans (hexit .window (by decide))).trans (hmark .window (by decide))

theorem sendPlain_own_le (dst : Node) (body : OwnBody) (s : State) :
    (sendPlain dst body s).ring.own.length ≤ s.ring.own.length + 1 := by
  rw [sendPlain_own]
  split
  · simp
  · exact Nat.le_succ _

theorem markPitch_own_le (s : State) : (markPitch s).ring.own.length ≤ s.ring.own.length + 1 := by
  exact sendPlain_own_le ..

/-- With room for PITCH and one frame of the exit, the flights of a state stand in front in every list at the examination. -/
theorem flights_trackAdvanced {s : State} (hroom : s.ring.own.length + 2 ≤ 32) (b : Nat) : ∃ more,
    (binAt b (trackAdvanced s)).flights = (binAt b s).flights ++ more ∧
      ∀ f ∈ more, f.pitch = (s.track.pitch + 1) % 256 := by
  have hle := markPitch_own_le s
  have hmark : KeepsAllBut [.own, .position, .boundary, .pitch] s (markPitch s) :=
    markPitch_keeps (List.Subset.refl _) (.start _ s)
  obtain ⟨more, hmore, hnow⟩ := selectsNow_exitSlot (s := markPitch s) (by omega) b
  rw [markPitch_pitch] at hnow
  refine ⟨more, ?_, hnow⟩
  rw [trackAdvanced, binAt_eq_of_keeps (afterExit_keeps _) (by decide), hmore, binAt_eq_of_keeps hmark (by decide)]

/-! ### The bins after the examination -/

theorem timedOut_closes_iff {p : Flight → Bool} {x : Bin} :
    (x.flights.filter p ≠ [] ∧ x.state = .off ∧ x.flights.diff (x.flights.filter p) = []) ↔
      (x.state = .off ∧ x.flights ≠ [] ∧ ∀ f ∈ x.flights, p f = true) := by
  rw [diff_filter]
  simp only [List.filter_eq_nil_iff, Bool.not_eq_true', Bool.not_eq_false, ne_eq]
  constructor
  · rintro ⟨hne, hoff, hall⟩
    exact ⟨hoff, fun h => hne fun f hf => by simp [h] at hf, hall⟩
  · rintro ⟨hoff, hne, hall⟩
    obtain ⟨f, hf⟩ := List.exists_mem_of_ne_nil _ hne
    exact ⟨fun h => h f hf (hall f hf), hoff, hall⟩

/-- What closes the bundle of a bin whose late flights are examined: all of its flights are late, and it is OFF. -/
abbrev Bin.EmptiedBy (p : Flight → Bool) (x : Bin) : Prop := x.state = .off ∧ x.flights ≠ [] ∧ ∀ f ∈ x.flights, p f = true

theorem Bin.timedOut_filter (p : Flight → Bool) (x : Bin) : x.timedOut (x.flights.filter p) =
    { x with
      flights := x.flights.filter (fun f => !p f), committed := x.committed - (x.flights.filter p).length
      bundle := if x.EmptiedBy p then none else x.bundle
      trayBundles := x.trayBundles + if x.EmptiedBy p ∧ x.bundle ≠ none then 1 else 0 } := by
  have hiff := timedOut_closes_iff (p := p) (x := x)
  rw [Bin.timedOut]
  simp only [diff_filter] at hiff ⊢
  simp only [hiff, Bin.EmptiedBy]

theorem timeoutsRecords_filter (b : Nat) (s : State) : timeoutsRecords b (lateFlights b s) s =
    ((lateFlights b s).map fun f => .piece (f.logOf .lost b none)) ++
      if (binAt b s).EmptiedBy (timedOut s) then closeRecord b .binOff (binAt b s).bundle s else [] := by
  rw [timeoutsRecords]
  simp only [lateFlights, timedOut_closes_iff, Bin.EmptiedBy]

theorem sorterTimeouts_timedOut (s : State) :
    TimedOut (fun b => b < 32 ∧ lateFlights b s ≠ []) ((List.range 32).flatMap fun b => timeoutsRecords b (lateFlights b s) s)
      ((List.range 32).map fun b => (lateFlights b s).length).sum s (sorterTimeouts s) :=
  (timeoutBins_timedOut (fun _ => List.mem_range.mp) List.nodup_range s).1.imp fun _ ⟨hb, hne⟩ =>
    ⟨List.mem_range.mp hb, hne⟩

theorem binAt_sorterTimeouts {b : Nat} (hb : b < 32) (s : State) :
    binAt b (sorterTimeouts s) = (binAt b s).timedOut (lateFlights b s) :=
  ((timeoutBins_timedOut (fun _ => List.mem_range.mp) List.nodup_range s).2 b).trans (if_pos (List.mem_range.mpr hb))

/-- Settles O47: the examination is the timeouts of all bins one after the other, and an advance ends with it. -/
theorem timedOutFlightsAreLost : Obligations.TimedOutFlightsAreLost := by
  refine ⟨fun s => ?_, fun s hs => ?_⟩
  · have h := sorterTimeouts_timedOut s
    refine ⟨fun b hb => ?_, h.counters, ?_, fun hgone => ?_, h.left, h.same,
      h.stations.mono .inl, h.alerts, h.keeps⟩
    · rw [binAt_sorterTimeouts hb, lateFlights, Bin.timedOut_filter]
      rfl
    · have htook := h.took
      simp only [timeoutsRecords_filter] at htook
      exact htook
    · obtain ⟨hpending, hcount⟩ := h.pending hgone
      refine ⟨hpending, hcount, h.older, fun hp => ?_, h.paused hgone⟩
      obtain ⟨b, ⟨hb, hne⟩, hdetail⟩ := h.newer hgone hp
      obtain ⟨f, hf⟩ := List.exists_mem_of_ne_nil _ hne
      obtain ⟨hmem, hlate⟩ := List.mem_filter.mp hf
      exact ⟨b, hb, hdetail, f, hmem, hlate⟩
  · intro pitch due
    have hdue : (advanceDue s && timeoutDue s) = true ↔ due := by
      rw [Bool.and_eq_true, advanceDue_iff, timeoutDue_iff, and_assoc]
    have hexec : exec .sorterTimeout s = .next (if (advanceDue s && timeoutDue s) = true then forwardPulse s else s) :=
      take_of_high _ hs
    refine ⟨fun hn => by rw [hexec, if_neg (mt hdue.mp hn)], fun hd => ?_⟩
    have ⟨hopen, hposition, _⟩ := hd
    have hadvance : exec .pitchAdvance s = .next (forwardPulse s) :=
      (take_of_high _ hs).trans (by rw [if_pos (advanceDue_iff.mpr ⟨hopen, hposition⟩)])
    rw [hexec, if_pos (hdue.mpr hd)]
    refine ⟨hadvance.symm, trackAdvanced (pulsed s), by rw [forwardPulse_of_due hposition, advance_eq],
      trackAdvanced_pitch _, trackAdvanced_window _, fun hroom b _ => flights_trackAdvanced (s := pulsed s) hroom b⟩

end Sys2Proof.Machine
end


section
/-! Steps that ask the log for records (07, 08, R124, R141, R157): what they do to the log, the own-frame queue, the stations and
the alerts, whatever else they change. -/

namespace Sys2Proof.Machine

/-- What steps that ask the log for the records `l` do: at most `n` frames are queued, FEED_PERMIT and NOTICE only, the run state
stays, and the stations and alerts change by these frames alone. -/
structure Logged (l : List LogBody) (n : Nat) (s t : State) : Prop where
  state : t.line.state = s.line.state
  took : LogTookAll l s t
  queues : Queues [19, 9] s t
  grows : OwnGrows n s t
  hasRoom : s.line.state ≠ .running → ∀ k, PermitHasRoom k s → PermitHasRoom k t
  stations : StationsKept id (FeedsFreely n s) s t
  alerts : AlertsKeptBut [.reserve, .station] s t

section
variable {l m : List LogBody} {n k : Nat} {s t u : State}

theorem Wrote.logged (h : Wrote l n s t) : Logged l n s t :=
  ⟨h.state_eq, h.took, h.queues, h.grows, h.hasRoom, h.stations, h.alerts⟩

theorem Logged.trans (h : Logged l n s t) (h' : Logged m k t u) : Logged (l ++ m) (n + k) s u where
  state := h'.state.trans h.state
  took := h.took.append h'.took
  queues := h.queues.trans h'.queues
  grows := h.grows.trans h'.grows
  hasRoom hs i hi := h'.hasRoom (h.state ▸ hs) i (h.hasRoom hs i hi)
  stations := by
    refine h.stations.trans h'.stations (fun hr => ?_) (fun hr => ?_)
    · exact hr.imp_left fun hlen => by omega
    · refine hr.imp (fun hlen => ?_) fun ⟨hs, hroom⟩ => ⟨h.state ▸ hs, h.hasRoom hs 0 hroom⟩
      have := h.grows.length_le
      omega
  alerts := h.alerts.trans h'.alerts

theorem Logged.more (hn : n ≤ k) (h : Logged l n s t) : Logged l k s t :=
  { h with
    grows := ⟨h.grows.length_le.trans (Nat.add_le_add_left hn _), h.grows.full⟩
    stations := h.stations.mono fun hr => hr.imp_left fun _ => by omega }

/-- A step that touches nothing of the log, the own-frame queue, the stations, the permit, the run state and the alerts. -/
theorem Logged.of_keeps {f : List Part} (h : KeepsAllBut f s t) (hf : ∀ p ∈ ([.own, .alerts, .stations, .logRecords, .logSerial,
    .logLost, .reserve, .runState, .permit] : List Part), p ∉ f) : Logged [] 0 s t := by
  have hlog : t.log = s.log := h.log_eq (hf _ (by decide)) (hf _ (by decide)) (hf _ (by decide)) (hf _ (by decide))
  have hown : t.ring.own = s.ring.own := h .own (hf _ (by decide))
  have hpermit : t.line.permit = s.line.permit := h .permit (hf _ (by decide))
  have halerts : t.channel.alerts = s.channel.alerts := h .alerts (hf _ (by decide))
  have hcls : ∀ c, alertOf c t = alertOf c s := fun c => by simp only [alertOf, halerts]
  exact
    { state := h .runState (hf _ (by decide))
      took := ⟨hlog, hcls _⟩
      queues := .of_eq hown
      grows := .of_eq hown
      hasRoom := fun _ _ => by simp only [PermitHasRoom, hlog, hown, hpermit, imp_self]
      stations := .of_eq (hcls _) (h .stations (hf _ (by decide)))
      alerts := .of_alerts_eq halerts }

theorem evalPermit_logged (s : State) : Logged [] 1 s (evalPermit s) := by
  have hkeeps : KeepsAllBut permitParts s (evalPermit s) := evalPermit_keeps (List.Subset.refl _) (.start _ s)
  exact
    { state := hkeeps.state_eq (by decide)
      took := ⟨hkeeps.log_eq (by decide) (by decide) (by decide) (by decide), evalPermit_alert (by decide) s⟩
      queues := evalPermit_queues s
      grows := evalPermit_grows s
      hasRoom := fun hs k _ => evalPermit_hasRoom hs k
      stations := evalPermit_stationsKept fun hr => hr.lt_or
      alerts := evalPermit_alertsKept (by decide) s }

/-- A fold of steps that each ask for a list of records. -/
theorem Logged.fold {α : Type} {f : State → α → State} {r : α → List LogBody} {n : Nat}
    (hf : ∀ t a, Logged (r a) n t (f t a)) : ∀ (xs : List α) (s : State),
      Logged (xs.flatMap r) (n * xs.length) s (xs.foldl f s)
  | [], s => .of_keeps (f := []) (.start _ s) (by simp)
  | a :: xs, s => by
    rw [List.flatMap_cons, List.length_cons, Nat.mul_succ, Nat.add_comm, List.foldl_cons]
    exact (hf s a).trans (Logged.fold hf xs _)

end

/-! ### Dispositions (R124) -/

/-- A disposition's counter and reprint entry, before its record is asked for. -/
def entryMade (d : Disposition) (e : EntryEffect) (s : State) : State := applyEntry e (countDisposition d s)

theorem entryMade_keeps (d : Disposition) (e : EntryEffect) (s : State) :
    KeepsAllBut [.reprints, .counters] s (entryMade d e s) :=
  applyEntry_keeps (by decide) (countDisposition_keeps (by decide) (.start _ s) d) e

theorem dispose_eq (d : Disposition) (e : EntryEffect) (b : LogBody) (s : State) :
    dispose d e b s =
      if (writeLog b (entryMade d e s)).reprints.length = s.reprints.length then writeLog b (entryMade d e s)
      else evalPermit (writeLog b (entryMade d e s)) := rfl

/-- A disposition asks for one record and evaluates the permit at most twice. -/
theorem dispose_logged (d : Disposition) (e : EntryEffect) (b : LogBody) (s : State) : Logged [b] 2 s (dispose d e b s) := by
  have hmade : Logged [] 0 s (entryMade d e s) := .of_keeps (entryMade_keeps d e s) (by decide)
  have hwrote : Logged [b] 1 s (writeLog b (entryMade d e s)) := hmade.trans (writeLog_wrote b _).logged
  rw [dispose_eq]
  split
  · exact hwrote.more (by decide)
  · exact hwrote.trans (evalPermit_logged _)

theorem disposePiece_logged (d : Disposition) (cls : Option CaliperClass) (p : Piece) (s : State) :
    Logged [.piece (p.logOf d cls)] 2 s (disposePiece d cls p s) := dispose_logged ..

end Sys2Proof.Machine
end


section
/-! The exit (05, 07, 08, R112, R120, R125, R126): which bin a piece goes to, a selection with and without room for its frame, and
the exit divert. -/

namespace Sys2Proof.Machine

/-! ### The reason of a disposition (R125) -/

theorem FaultName.mem_all (f : FaultName) : f ∈ FaultName.all := by
  cases f <;> decide

theorem FaultName.all_increasing : FaultName.all.Pairwise fun f g => f.order ≤ g.order := by decide

/-- A reason that is a fault is the lowest-numbered fault of the set. -/
theorem reasonOf_of_faults {faults : List FaultName} (h : faults ≠ []) (d : Disposition) :
    ∃ f ∈ faults, reasonOf faults d = .fault f ∧ ∀ x ∈ faults, f.order ≤ x.order := by
  obtain ⟨y, hy⟩ := List.exists_mem_of_ne_nil _ h
  cases hfind : FaultName.all.find? (fun f => faults.contains f) with
  | none => exact absurd hy (by simpa using List.find?_eq_none.mp hfind y y.mem_all)
  | some f =>
    obtain ⟨hf, before, after, hall, hbefore⟩ := List.find?_eq_some_iff_append.mp hfind
    refine ⟨f, by simpa using hf, by rw [reasonOf, hfind], fun x hx => ?_⟩
    have hmem : x ∈ before ++ f :: after := hall ▸ x.mem_all
    have hincr : (before ++ f :: after).Pairwise fun f g => f.order ≤ g.order := hall ▸ FaultName.all_increasing
    rcases List.mem_append.mp hmem with hx' | hx'
    · exact absurd hx (by simpa using hbefore x hx')
    · rcases List.mem_cons.mp hx' with rfl | hx''
      · exact le_rfl
      · exact (List.pairwise_cons.mp (List.pairwise_append.mp hincr).2.1).1 x hx''

/-! ### The bin of a piece (R58, R112) -/

/-- A bin can take a piece (R112). -/
abbrev Takes (s : State) (b : Nat) : Prop := (binAt b s).state = .open ∧
  (binAt b s).committed < (binAt b s).capacity.getD 0 ∧ (binAt b s).flights.length < 8

/-- The group of a piece at the exit: group 0 above its maximum class (R58). -/
def exitGroup (p : Piece) (s : State) : Nat :=
  if (maxClassOf p.scheme s).code < (caliperClass p.caliper s).code then 0 else p.scheme.group

theorem searchChain_eq_none {g : Nat} {s : State} (h : ∀ x ∈ (groupAt g s).chain, ¬Takes s x) : searchChain g s = none := by
  rw [searchChain, List.find?_eq_none]
  exact fun x hx => by rw [Bin.accepts_iff]; exact h x hx

theorem searchChain_eq_some {g b : Nat} {before after : List Nat} {s : State}
    (hchain : (groupAt g s).chain = before ++ b :: after) (hbefore : ∀ x ∈ before, ¬Takes s x) (hb : Takes s b) :
    searchChain g s = some b := by
  rw [searchChain, hchain, List.find?_append, List.find?_eq_none.mpr fun x hx => by rw [Bin.accepts_iff]; exact hbefore x hx,
    Option.none_or]
  exact List.find?_cons_of_pos (Bin.accepts_iff.mpr hb)

/-- The flight of a piece that goes to a group. -/
def exitFlight (p : Piece) (g : Nat) (s : State) : Flight := p.flight g s.track.pitch (caliperClass p.caliper s)

theorem selectBin_of_some {p : Piece} {g b : Nat} {s : State} (hb : searchChain g s = some b)
    (hg : g = exitGroup p s ∨ (g = 0 ∧ searchChain (exitGroup p s) s = none)) :
    selectBin p s = selectInto b (exitFlight p g s) s := by
  unfold selectBin
  obtain rfl | ⟨rfl, hnone⟩ := hg
  · rw [exitGroup] at hb
    simp only [hb]
    rfl
  · rw [exitGroup] at hnone
    simp only [hnone, hb]
    rfl

theorem selectBin_of_none {p : Piece} {s : State} (hg : searchChain (exitGroup p s) s = none)
    (h0 : searchChain 0 s = none) : selectBin p s = raiseAlert (.noBin (exitGroup p s))
      (divertPiece .handSort (some (caliperClass p.caliper s))
        { p with scheme := { p.scheme with group := exitGroup p s } } s) := by
  unfold selectBin
  rw [exitGroup] at hg
  simp only [hg, h0]
  rfl

theorem selectInto_of_room {b n : Nat} {f : Flight} {s : State} (hn : (binAt b s).node = some n)
    (hroom : s.ring.own.length < 32) :
    selectInto b f s = pushOwn (nodeOf n) (.binSelect f.tag) (putBin b ((binAt b s).select f) s) := by
  have hfull : ¬ownFull (putBin b ((binAt b s).select f) s) = true := fun h =>
    absurd (ownFull_iff.mp h) (Nat.not_le.mpr hroom)
  simp only [selectInto, hn]
  exact if_neg hfull

theorem selectInto_of_full {b n : Nat} {f : Flight} {s : State} (hn : (binAt b s).node = some n)
    (hfull : 32 ≤ s.ring.own.length) :
    selectInto b f s = selectUntaken b f.tag (putBin b ((binAt b s).select f) s) := by
  have hfull : ownFull (putBin b ((binAt b s).select f) s) = true := ownFull_iff.mpr hfull
  simp only [selectInto, hn]
  exact if_pos hfull

theorem Bin.select_of_open {f : Flight} {x : Bin} (h : x.state = .open) : x.select f =
    { x with
      flights := x.flights ++ [f], committed := x.committed + 1
      state := if x.capacity = some (x.committed + 1) then .fullWait else .open } := by
  rw [Bin.select, h]

/-! ### A selection that a full queue drops (R120, R163) -/

/-- A bin whose last selection was dropped: OFF, as it was before the selection, its bundle closed with nothing in flight. -/
def Bin.selectDropped (x : Bin) : Bin :=
  { x with
    state := .off, bundle := if x.flights = [] ∧ x.bundle ≠ none then none else x.bundle
    trayBundles := x.trayBundles + if x.flights = [] ∧ x.bundle ≠ none then 1 else 0 }

theorem Bin.givenUp_select (f : Flight) (x : Bin) : (x.select f).givenUp [f] x.flights = x.selectDropped := by
  by_cases hl : x.flights = [] <;> by_cases hb : x.bundle = none <;>
    simp [Bin.givenUp, Bin.select, Bin.selectDropped, hl, hb]

/-- The records of a selection that a full queue drops: the LOST piece, and the bundle of a bin left with nothing in flight. -/
def dropRecords (b : Nat) (f : Flight) (s : State) : List LogBody :=
  .piece (f.logOf .lost b none) ::
    if (binAt b s).flights = [] ∧ (binAt b s).bundle ≠ none then closeRecord b .binOff (binAt b s).bundle s else []

/-- What a selection that a full queue drops has done before the drain-completion check (R120, R163). -/
structure SelectDropped (b : Nat) (f : Flight) (s w : State) : Prop where
  keeps : KeepsAllBut (closeParts ++ [.counters]) s w
  took : LogTookAll (dropRecords b f s) s w
  bins : ∀ c, binAt c w = if c = b then (binAt b s).selectDropped else binAt c s
  counters : w.line.counters = { s.line.counters with lost := min 16777215 (s.line.counters.lost + 1) }
  sorter : alertOf .sorter w = alertOf .sorter (raiseAlert (.selectUntaken b) s)
  alerts : AlertsKeptBut [.sorter, .reserve, .station] s w
  own : w.ring.own = s.ring.own
  stations : StationsKept id False s w

theorem selectInto_dropped {b n : Nat} {f : Flight} {s : State} (hb : b < 32) (hn : (binAt b s).node = some n)
    (hfull : 32 ≤ s.ring.own.length) (htag : ∀ y ∈ (binAt b s).flights, y.serial % 256 ≠ f.serial % 256) :
    ∃ w, selectInto b f s = drainCheck w ∧ SelectDropped b f s w := by
  have hput : Wrote [] 0 s (putBin b ((binAt b s).select f) s) := putBin_wrote b _ s
  have hbin : ∀ c, binAt c (putBin b ((binAt b s).select f) s) = if c = b then (binAt b s).select f else binAt c s :=
    fun c => binAt_putBin b c _ s hb
  have hsame : alertOf .sorter (putBin b ((binAt b s).select f) s) = alertOf .sorter s := hput.alerts .sorter (by decide)
  have hgives : GivesUp f.tag (binAt b (putBin b ((binAt b s).select f) s)).flights [f] (binAt b s).flights := by
    refine .inr ⟨(binAt b s).flights, f, [], ?_, htag, rfl, rfl, (List.append_nil _).symm⟩
    rw [hbin, if_pos rfl]
    rfl
  obtain ⟨w, hsteps, hw⟩ := selectUntaken_steps hb hgives
  refine ⟨w, (selectInto_of_full hn hfull).trans hsteps, ?_⟩
  constructor
  case keeps => exact hput.keeps.trans hw.keeps
  case took =>
    have htook := hput.took.append hw.took
    have hrecords : selectRecords b [f] (binAt b s).flights (putBin b ((binAt b s).select f) s) = dropRecords b f s := by
      rw [selectRecords, hput.closeRecord_eq, hbin, if_pos rfl, dropRecords]
      by_cases hl : (binAt b s).flights = []
      · by_cases hu : (binAt b s).bundle = none
        · rw [if_pos hl, if_neg fun h => h.2 hu]
          simp [Bin.select, hu, closeRecord]
        · rw [if_pos hl, if_pos ⟨hl, hu⟩]
          rfl
      · rw [if_neg hl, if_neg fun h => hl h.1]
        rfl
    rwa [hrecords] at htook
  case bins =>
    intro c
    rw [hw.bins, hbin, hbin, if_pos rfl, Bin.givenUp_select]
    split <;> rfl
  case counters => exact hw.counters
  case sorter =>
    rw [hw.sorter]
    exact alertOf_raiseAlert_of_eq (d := .selectUntaken b) hsame
  case alerts => exact (hput.alerts.more (by decide)).trans hw.alerts
  case own => exact hw.grows.full hfull
  case stations => exact hput.stations.trans hw.stations (r := False) False.elim False.elim

end Sys2Proof.Machine
end


section
/-! The exit divert (05, 07, 08, R120, R124, R126, R152): the disposition of a piece that no bin takes, with the drain completion that
may follow it and a DIVERT_CMD that a full own-frame queue drops. -/

namespace Sys2Proof.Machine

/-! ### The exit divert in steps (R126) -/

/-- A piece's DIVERT_CMD queued, where there are an EXIT station and room for it. -/
def divertSent (p : Piece) (s : State) : State :=
  match stationOfKind .exit s with
  | some (_, e) => if ownFull s then s else pushOwn e.dst (.divertCmd p.tag) (noteDivert p.serial s)
  | none => s

/-- A piece disposed at the exit, with the drain-completion check. -/
def exitDisposed (d : Disposition) (cls : Option CaliperClass) (p : Piece) (s : State) : State :=
  drainCheck (disposePiece d cls p (divertSent p s))

section
variable {d : Disposition} {cls : Option CaliperClass} {p : Piece} {i : Nat} {e : StationEntry} {s : State}

theorem divertSent_of_none (h : stationOfKind .exit s = none) : divertSent p s = s := by
  rw [divertSent, h]

theorem divertSent_of_room (h : stationOfKind .exit s = some (i, e)) (hroom : s.ring.own.length < 32) :
    divertSent p s = pushOwn e.dst (.divertCmd p.tag) (noteDivert p.serial s) := by
  simp only [divertSent, h]
  exact if_neg fun hfull => absurd (ownFull_iff.mp hfull) (Nat.not_le.mpr hroom)

theorem divertSent_of_full (hfull : 32 ≤ s.ring.own.length) : divertSent p s = s := by
  unfold divertSent
  split
  · exact if_pos (ownFull_iff.mpr hfull)
  · rfl

theorem divertPiece_of_none (h : stationOfKind .exit s = none) : divertPiece d cls p s = exitDisposed d cls p s := by
  rw [exitDisposed, divertSent_of_none h, divertPiece, h]

theorem divertPiece_of_sent (h : stationOfKind .exit s = some (i, e)) (hroom : s.ring.own.length < 32) :
    divertPiece d cls p s = exitDisposed d cls p s := by
  rw [exitDisposed, divertSent_of_room h hroom, divertPiece, h]
  exact if_neg fun hfull => absurd (ownFull_iff.mp hfull) (Nat.not_le.mpr hroom)

theorem divertPiece_of_full (h : stationOfKind .exit s = some (i, e)) (hfull : 32 ≤ s.ring.own.length) :
    divertPiece d cls p s = divertUntaken e.dst p.serial (exitDisposed d cls p s) := by
  rw [exitDisposed, divertSent_of_full hfull, divertPiece, h]
  exact if_pos (ownFull_iff.mpr hfull)

theorem divertSent_keeps : KeepsAllBut [.own, .divertSerials] s (divertSent p s) := by
  unfold divertSent
  split
  · split
    · exact .start _ s
    · intro q hq
      cases q <;> first | rfl | exact absurd (by decide) hq
  · exact .start _ s

theorem divertSent_own_le : (divertSent p s).ring.own.length ≤ s.ring.own.length + 1 := by
  unfold divertSent
  split
  · split
    · exact Nat.le_succ _
    · simp [pushOwn, noteDivert]
  · exact Nat.le_succ _

/-! ### The disposition at the exit (R124, R152) -/

theorem drained_of_keeps {f : List Part} {s t : State} (h : KeepsAllBut f s t)
    (hf : ∀ q ∈ ([.collecting, .staging, .slots] : List Part), q ∉ f)
    (hbins : ∀ c, (binAt c t).flights = (binAt c s).flights) : drained t = drained s := by
  have hcollecting : t.collation.collecting = s.collation.collecting := h .collecting (hf _ (by decide))
  have hstaging : t.collation.staging = s.collation.staging := h .staging (hf _ (by decide))
  have hslots : t.track.slots = s.track.slots := h .slots (hf _ (by decide))
  rw [Bool.eq_iff_iff, drained_iff, drained_iff]
  simp only [hcollecting, hstaging, hslots, hbins]

/-- What the disposition of a piece at the exit leaves: the log with its record, and the drain completed where the line was
drained. -/
structure ExitDisposed (b : LogBody) (s t : State) : Prop where
  alerts : AlertsKeptBut [.sorter, .reserve, .station, .run] s t
  left : ¬Completes s → LogTook b s t ∧ t.sort.bins = s.sort.bins ∧ alertOf .run t = alertOf .run s
  done : Completes s → t.line.state = .closed ∧ (∀ c, binAt c t = (binAt c s).bundleClosed) ∧
    alertOf .run t = alertOf .run (raiseAlert .drainComplete s) ∧
    LogTookAll (b :: drainRecords (fun c => (binAt c s).bundle) t.line.counters s) s t

/-- Steps that move no more than the alerts of SORTER and STATION, the stations, the permit and a run that is not CLOSED. -/
theorem ExitDisposed.after {b : LogBody} {s t u : State} (h : ExitDisposed b s t) (hk : KeepsAllBut stateParts t u)
    (ha : AlertsKeptBut [.sorter, .station] t u) (hs : t.line.state = .closed → u.line.state = .closed) :
    ExitDisposed b s u := by
  have hlog : u.log = t.log := hk.log_eq (by decide) (by decide) (by decide) (by decide)
  have hbins : u.sort.bins = t.sort.bins := hk.bins_eq (by decide)
  have hcounters : u.line.counters = t.line.counters := hk.counters_eq (by decide)
  refine ⟨h.alerts.trans (ha.more (by decide)), fun hn => ?_, fun hd => ?_⟩
  · obtain ⟨hlogged, hb, hrun⟩ := h.left hn
    exact ⟨hlogged.of_log_eq rfl hlog rfl (ha .reserve (by decide)), hbins.trans hb, (ha .run (by decide)).trans hrun⟩
  · obtain ⟨hclosed, hb, hrun, hlogged⟩ := h.done hd
    refine ⟨hs hclosed, fun c => ?_, (ha .run (by decide)).trans hrun, ?_⟩
    · rw [binAt_eq_of_keeps hk (by decide), hb]
    · rw [hcounters]
      exact hlogged.of_log_eq rfl hlog rfl (ha .reserve (by decide))

theorem disposedSent_keeps (d : Disposition) (cls : Option CaliperClass) (p : Piece) (s : State) :
    KeepsAllBut (disposeParts ++ [.divertSerials]) s (disposePiece d cls p (divertSent p s)) :=
  disposePiece_keeps (by decide) (divertSent_keeps.more (by decide)) d cls p

theorem disposedSent_logged (d : Disposition) (cls : Option CaliperClass) (p : Piece) (s : State) :
    Logged [.piece (p.logOf d cls)] 2 (divertSent p s) (disposePiece d cls p (divertSent p s)) :=
  disposePiece_logged d cls p _

theorem disposedSent_completes (d : Disposition) (cls : Option CaliperClass) (p : Piece) (s : State) :
    Completes (disposePiece d cls p (divertSent p s)) ↔ Completes s := by
  have hk := disposedSent_keeps d cls p s
  rw [Completes, Completes, hk.state_eq (by decide),
    drained_of_keeps hk (by decide) fun c => by rw [binAt_eq_of_keeps hk (by decide)]]

theorem disposedSent_took (d : Disposition) (cls : Option CaliperClass) (p : Piece) (s : State) :
    LogTookAll [.piece (p.logOf d cls)] s (disposePiece d cls p (divertSent p s)) := by
  have hk := divertSent_keeps (p := p) (s := s)
  have halerts : (divertSent p s).channel.alerts = s.channel.alerts := hk .alerts (by decide)
  exact (disposedSent_logged d cls p s).took.of_log_eq (hk.log_eq (by decide) (by decide) (by decide) (by decide)).symm rfl
    (by simp only [alertOf, halerts]) rfl

theorem disposedSent_alerts (d : Disposition) (cls : Option CaliperClass) (p : Piece) (s : State) :
    AlertsKeptBut [.reserve, .station] s (disposePiece d cls p (divertSent p s)) :=
  (AlertsKeptBut.of_keeps (divertSent_keeps (p := p)) (by decide)).trans (disposedSent_logged d cls p s).alerts

theorem exitDisposed_disposed (d : Disposition) (cls : Option CaliperClass) (p : Piece) (s : State) :
    ExitDisposed (.piece (p.logOf d cls)) s (exitDisposed d cls p s) := by
  have hk := disposedSent_keeps d cls p s
  have ha := disposedSent_alerts d cls p s
  have hbin : ∀ c, binAt c (disposePiece d cls p (divertSent p s)) = binAt c s := binAt_eq_of_keeps hk (by decide)
  refine ⟨(ha.more (by decide)).trans ((drainCheck_alertsKept _).more (by decide)), fun hn => ?_, fun hd => ?_⟩
  · rw [exitDisposed, drainCheck_of_not_completes fun hc => hn ((disposedSent_completes d cls p s).mp hc)]
    exact ⟨LogTookAll.one.mp (disposedSent_took d cls p s), hk.bins_eq (by decide), ha .run (by decide)⟩
  · rw [exitDisposed, drainCheck_of_completes ((disposedSent_completes d cls p s).mpr hd)]
    obtain ⟨hclosed, -⟩ := completeDrain_line (disposePiece d cls p (divertSent p s))
    refine ⟨hclosed, fun c => ?_, ?_, ?_⟩
    · rw [binAt_completeDrain, hbin]
    · rw [completeDrain_runAlert]
      exact alertOf_raiseAlert_of_eq (d := .drainComplete) (ha .run (by decide))
    · exact completeDrain_took_of hk (by decide) (by decide) (disposedSent_took d cls p s) fun c => by rw [hbin]

theorem exitDisposed_line_of_not_completes (h : ¬Completes s) :
    (exitDisposed d cls p s).line.state = s.line.state ∧ (exitDisposed d cls p s).line.reason = s.line.reason ∧
      (exitDisposed d cls p s).line.drive = s.line.drive := by
  have hk := disposedSent_keeps d cls p s
  rw [exitDisposed, drainCheck_of_not_completes fun hc => h ((disposedSent_completes d cls p s).mp hc)]
  exact ⟨hk.state_eq (by decide), hk .reason (by decide), hk .drive (by decide)⟩

theorem exitDisposed_stations (d : Disposition) (cls : Option CaliperClass) (p : Piece) (s : State) :
    StationsKept id (s.ring.own.length + 3 ≤ 32) s (exitDisposed d cls p s) := by
  have hsent : StationsKept id True s (divertSent p s) := .of_keeps divertSent_keeps (by decide) (by decide)
  have hlogged := disposedSent_logged d cls p s
  have hle := divertSent_own_le (p := p) (s := s)
  refine ((hsent.trans hlogged.stations (fun _ => trivial) fun hr => .inl (by omega)).trans (drainCheck_stations _) id
    fun hr hdraining => ?_)
  refine hlogged.hasRoom ?_ 0 (permit_of_room (by omega))
  rw [← hlogged.state, hdraining]
  decide

theorem exitDisposed_counters (d : Disposition) (cls : Option CaliperClass) (p : Piece) (s : State) :
    (exitDisposed d cls p s).line.counters = s.line.counters.bump d := by
  have hk : KeepsAllBut (stateParts ++ closeParts) (disposePiece d cls p (divertSent p s)) (exitDisposed d cls p s) :=
    drainCheck_keeps (by decide) (.start _ _)
  rw [hk.counters_eq (by decide), disposePiece, dispose_counters, divertSent_keeps.counters_eq (by decide)]

theorem exitDisposed_reprints (d : Disposition) (cls : Option CaliperClass) (p : Piece) (s : State) :
    (exitDisposed d cls p s).reprints = if d = .handSort then s.reprints
      else entered s.reprints { seq := p.job.seq, inc := p.job.inc, reason := reasonOf p.faults d, state := .open } := by
  have hk : KeepsAllBut (stateParts ++ closeParts) (disposePiece d cls p (divertSent p s)) (exitDisposed d cls p s) :=
    drainCheck_keeps (by decide) (.start _ _)
  have hsent : (divertSent p s).reprints = s.reprints := divertSent_keeps.reprints_eq (by decide)
  rw [hk.reprints_eq (by decide), disposePiece, dispose_reprints]
  split
  · exact hsent
  · exact (createEntry_entered _ _ _ _).trans (congrArg (entered · _) hsent)

theorem exitDisposed_serials (d : Disposition) (cls : Option CaliperClass) (p : Piece) (s : State) :
    (exitDisposed d cls p s).track.divertSerials = (divertSent p s).track.divertSerials :=
  drainCheck_keeps (l := endParts) (by decide) (disposePiece_keeps (by decide) (.start _ _) d cls p) .divertSerials (by decide)

theorem exitDisposed_queues (d : Disposition) (cls : Option CaliperClass) (p : Piece) (s : State) :
    Queues [19, 9] (divertSent p s) (exitDisposed d cls p s) :=
  (disposedSent_logged d cls p s).queues.trans (drainCheck_queues _)

/-! ### A DIVERT_CMD that is not taken (R126) -/

theorem divertUntaken_keeps' (dst : Node) (serial : Nat) (s : State) : KeepsAllBut stateParts s (divertUntaken dst serial s) :=
  requestStop_keeps (List.Subset.refl _) (raiseAlert_keeps (by decide) (nodeAbsent_keeps (by decide) (.start _ s) dst) _) _

theorem divertUntaken_alerts (dst : Node) (serial : Nat) (s : State) :
    AlertsKeptBut [.sorter, .station] s (divertUntaken dst serial s) := by
  intro c hc
  have hstation : c ≠ .station := by rintro rfl; exact hc (by decide)
  rw [divertUntaken, requestStop_alert _ hstation, raiseAlert_alertsKept (l := [.sorter, .station])
    (d := .divertUntaken serial) (List.mem_cons_self ..) _ c hc, nodeAbsent_alert _ hstation]

theorem divertUntaken_sorter (dst : Node) (serial : Nat) (s : State) :
    alertOf .sorter (divertUntaken dst serial s) = alertOf .sorter (raiseAlert (.divertUntaken serial) s) := by
  rw [divertUntaken, requestStop_alert _ (by decide)]
  exact alertOf_raiseAlert_of_eq (d := .divertUntaken serial) (nodeAbsent_alert dst (c := .sorter) (by decide) s)

theorem absentRaised_line (dst : Node) (serial : Nat) (s : State) :
    (raiseAlert (.divertUntaken serial) (nodeAbsent dst s)).line = s.line := by
  rw [raiseAlert_line, nodeAbsent]
  split
  · unfold markAbsent
    dsimp only
    split
    · rfl
    · rw [raiseAlert_line]
      rfl
  · rfl

theorem divertUntaken_line_of_moving {dst : Node} {serial : Nat} (h : s.line.state = .running ∨ s.line.state = .draining) :
    (divertUntaken dst serial s).line.state = .paused ∧ (divertUntaken dst serial s).line.reason = some .sorter ∧
      (divertUntaken dst serial s).line.drive = false ∧ (divertUntaken dst serial s).line.permit = false :=
  requestStop_line_of_taken (takenIn_sorter.mpr (absentRaised_line dst serial s ▸ h))

theorem divertUntaken_line_of_still {dst : Node} {serial : Nat} (h : s.line.state ≠ .running) (h' : s.line.state ≠ .draining) :
    (divertUntaken dst serial s).line = s.line := by
  rw [divertUntaken, requestStop_of_not_taken, absentRaised_line]
  rw [absentRaised_line]
  exact Bool.eq_false_iff.mpr fun ht => (takenIn_sorter.mp ht).elim h h'

end

/-! ### The EXIT station after it (R73) -/

/-- What is left of the stations is each entry as it was, or set ABSENT. -/
theorem StationsKept.entries {room : Prop} {s t : State} (h : StationsKept id room s t) :
    ∃ change : Nat → StationEntry → StationEntry, (∀ i e, change i e = e ∨ change i e = { e with status := .absent }) ∧
      ∀ i, stationAt i t = (stationAt i s).map (change i) := by
  obtain ⟨-, hst⟩ | ⟨-, _, _, k, e, -, hk, -, -, hst⟩ := h
  · exact ⟨fun _ => id, fun _ _ => .inl rfl, hst⟩
  · obtain ⟨-, he, -⟩ := stationOfNode_some hk
    refine ⟨absentAt k, fun i x => ?_, fun i => ?_⟩
    · unfold absentAt
      split
      · exact .inr rfl
      · exact .inl rfl
    · rw [hst]
      by_cases hi : i = k
      · subst hi; simp [he, absentAt]
      · simp [hi, absentAt_of_ne]

theorem StationsKept.stationAt {room : Prop} {s t : State} {j : Nat} {x : StationEntry} (h : StationsKept id room s t)
    (hx : stationAt j s = some x) :
    stationAt j t = some x ∨ stationAt j t = some { x with status := .absent } := by
  obtain ⟨change, hchange, hst⟩ := h.entries
  rw [hst, hx]
  exact (hchange j x).imp (congrArg some) (congrArg some)

/-- A node's entry is still the node's, as it was or set ABSENT. -/
theorem StationsKept.stationOfNode {room : Prop} {s t : State} {n j : Nat} {x : StationEntry} (h : StationsKept id room s t)
    (hx : stationOfNode n s = some (j, x)) : ∃ y, Machine.stationOfNode n t = some (j, y) ∧
      ({ y with status := .absent } : StationEntry) = { x with status := .absent } := by
  obtain ⟨change, hchange, hst⟩ := h.entries
  have hnode : ∀ i e, ((change i e).node == n) = (e.node == n) := fun i e => by
    rcases hchange i e with he | he <;> rw [he]
  refine ⟨change j x, ?_, ?_⟩
  · rw [Machine.stationOfNode, stationsWhere_of_map hnode hst, List.head?_map]
    rw [Machine.stationOfNode] at hx
    rw [hx]
    rfl
  · rcases hchange j x with he | he <;> rw [he]

theorem stationAt_absentAfter {j : Nat} {y : StationEntry} {s : State} (hy : stationAt j s = some y) :
    stationAt j (absentAfter j y s) = some { y with status := .absent } := by
  unfold absentAfter
  split
  · next ha => rw [hy, ← ha]
  · have hst : (raiseAlert (.stationStatus j .absent) (putStation j (some { y with status := .absent }) s)).track.stations = _ :=
      raiseAlert_keeps (List.Subset.refl [Part.own, .alerts]) (.start _ _) _ .stations (by decide)
    have hlt : j < 24 := by
      by_contra hn
      simp [stationAt, hn] at hy
    rw [stationAt, hst]
    simp [putStation, hlt]

/-- The entry at the destination of a DIVERT_CMD that is not taken is ABSENT after it, whatever happened to it before. -/
theorem stationAt_divertUntaken {room : Prop} {dst : Node} {serial j : Nat} {x : StationEntry} {s t : State}
    (h : StationsKept id room s t) (hx : stationOfNode dst.toNat s = some (j, x)) :
    stationAt j (divertUntaken dst serial t) = some { x with status := .absent } := by
  obtain ⟨y, hy, hxy⟩ := h.stationOfNode hx
  have habsent : stationAt j (nodeAbsent dst t) = some { x with status := .absent } := by
    rw [nodeAbsent_after, nodeAbsentAfter, hy, ← hxy]
    exact stationAt_absentAfter (stationOfNode_some hy).2.1
  have hraised : stationAt j (raiseAlert (.divertUntaken serial) (nodeAbsent dst t)) = some { x with status := .absent } := by
    rw [← habsent]
    exact (raiseAlert_stations (room := True) AlertClass.noConfusion _).stationAt_eq trivial j
  exact ((requestStop_stations (room := False) False.elim).stationAt hraised).elim id id

end Sys2Proof.Machine
end


section
/-! The exit as stated (05, 07, 08, R58, R112, R120, R126). -/

namespace Sys2Proof.Machine

/-! ### What the record of a piece without a bin comes with -/

/-- The log, bins, stations and alerts after the disposition of a piece at the exit, with room for its DIVERT_CMD or without. -/
def ExitLogged (room : Prop) (b : LogBody) (s t : State) : Prop :=
  AlertsKeptBut [.sorter, .reserve, .station, .run] s t ∧ (room → StationsKept id (s.ring.own.length + 3 ≤ 32) s t) ∧
  (s.line.state ≠ .draining → LogTook b s t ∧ t.sort.bins = s.sort.bins ∧ alertOf .run t = alertOf .run s) ∧
  (s.line.state = .draining →
    (recordsHeld s ≠ s.queue.records.length →
      LogTook b s t ∧ t.sort.bins = s.sort.bins ∧ alertOf .run t = alertOf .run s ∧ (room → t.line.state = .draining)) ∧
    (recordsHeld s = s.queue.records.length → t.line.state = .closed ∧
      (∀ c, binAt c t = (binAt c s).bundleClosed) ∧ alertOf .run t = alertOf .run (raiseAlert .drainComplete s) ∧
      LogTookAll (b :: drainRecords (fun c => (binAt c s).bundle) t.line.counters s) s t))

theorem completes_iff {s : State} :
    Completes s ↔ s.line.state = .draining ∧ recordsHeld s = s.queue.records.length := by
  rw [Completes, drained_iff_recordsHeld]

theorem ExitDisposed.logged {room : Prop} {b : LogBody} {s t : State} (h : ExitDisposed b s t)
    (hst : room → StationsKept id (s.ring.own.length + 3 ≤ 32) s t)
    (hstate : room → ¬Completes s → t.line.state = s.line.state) : ExitLogged room b s t := by
  refine ⟨h.alerts, hst, fun hs => h.left fun hc => hs hc.1, fun hs => ⟨fun hheld => ?_, fun hheld => ?_⟩⟩
  · have hn : ¬Completes s := fun hc => hheld (completes_iff.mp hc).2
    obtain ⟨htook, hbins, hrun⟩ := h.left hn
    exact ⟨htook, hbins, hrun, fun hr => (hstate hr hn).trans hs⟩
  · exact h.done (completes_iff.mpr ⟨hs, hheld⟩)

section
variable {d : Disposition} {cls : Option CaliperClass} {p : Piece} {s : State}

/-- The exit divert is the disposition, or it and the untaken rule of its DIVERT_CMD. -/
theorem divertPiece_cases (d : Disposition) (cls : Option CaliperClass) (p : Piece) (s : State) :
    ((s.ring.own.length < 32 ∨ stationOfKind .exit s = none) ∧ divertPiece d cls p s = exitDisposed d cls p s) ∨
    (32 ≤ s.ring.own.length ∧ ∃ i e, stationOfKind .exit s = some (i, e) ∧
      divertPiece d cls p s = divertUntaken e.dst p.serial (exitDisposed d cls p s)) := by
  cases he : stationOfKind .exit s with
  | none => exact .inl ⟨.inr rfl, divertPiece_of_none he⟩
  | some x =>
    obtain ⟨i, e⟩ := x
    by_cases hroom : s.ring.own.length < 32
    · exact .inl ⟨.inl hroom, divertPiece_of_sent he hroom⟩
    · exact .inr ⟨Nat.le_of_not_lt hroom, i, e, rfl, divertPiece_of_full he (Nat.le_of_not_lt hroom)⟩

theorem divertPiece_disposed : ExitDisposed (.piece (p.logOf d cls)) s (divertPiece d cls p s) := by
  have h := exitDisposed_disposed d cls p s
  obtain ⟨-, heq⟩ | ⟨-, _, e, -, heq⟩ := divertPiece_cases d cls p s
  · rwa [heq]
  · rw [heq]
    refine h.after (divertUntaken_keeps' _ _ _) (divertUntaken_alerts _ _ _) fun hclosed => ?_
    rw [divertUntaken_line_of_still (by rw [hclosed]; decide) (by rw [hclosed]; decide), hclosed]

theorem divertPiece_of_disposed (hroom : s.ring.own.length < 32 ∨ stationOfKind .exit s = none) :
    divertPiece d cls p s = exitDisposed d cls p s := by
  obtain ⟨-, heq⟩ | ⟨hfull, _, _, he, -⟩ := divertPiece_cases d cls p s
  · exact heq
  · rw [he] at hroom
    exact absurd hroom (by simp; omega)

theorem divertPiece_logged : ExitLogged (s.ring.own.length < 32 ∨ stationOfKind .exit s = none) (.piece (p.logOf d cls)) s
    (divertPiece d cls p s) := by
  refine divertPiece_disposed.logged (fun hroom => ?_) fun hroom hn => ?_
  · rw [divertPiece_of_disposed hroom]
    exact exitDisposed_stations d cls p s
  · rw [divertPiece_of_disposed hroom]
    exact (exitDisposed_line_of_not_completes hn).1

/-- Beyond the disposition the exit divert leaves the counters, the Reprint List and the serials. -/
theorem divertPiece_keeps_disposed : KeepsAllBut stateParts (exitDisposed d cls p s) (divertPiece d cls p s) := by
  obtain ⟨-, heq⟩ | ⟨-, _, e, -, heq⟩ := divertPiece_cases d cls p s
  · rw [heq]
    exact .start _ _
  · rw [heq]
    exact divertUntaken_keeps' _ _ _

theorem divertPiece_counters : (divertPiece d cls p s).line.counters = s.line.counters.bump d :=
  (divertPiece_keeps_disposed.counters_eq (by decide)).trans (exitDisposed_counters d cls p s)

theorem divertPiece_reprints : (divertPiece d cls p s).reprints = if d = .handSort then s.reprints
    else entered s.reprints { seq := p.job.seq, inc := p.job.inc, reason := reasonOf p.faults d, state := .open } :=
  (divertPiece_keeps_disposed.reprints_eq (by decide)).trans (exitDisposed_reprints d cls p s)

theorem divertPiece_serials :
    (divertPiece d cls p s).track.divertSerials = (divertSent p s).track.divertSerials :=
  (divertPiece_keeps_disposed .divertSerials (by decide)).trans (exitDisposed_serials d cls p s)

/-- The alert of SORTER is left by a divert with room. -/
theorem divertPiece_sorter_of_room (hroom : s.ring.own.length < 32 ∨ stationOfKind .exit s = none) :
    alertOf .sorter (divertPiece d cls p s) = alertOf .sorter s := by
  rw [divertPiece_of_disposed hroom, exitDisposed, drainCheck_alertsKept _ .sorter (by decide)]
  exact disposedSent_alerts d cls p s .sorter (by decide)

theorem divertPiece_sorter_of_full {i : Nat} {e : StationEntry} (he : stationOfKind .exit s = some (i, e))
    (hfull : 32 ≤ s.ring.own.length) :
    alertOf .sorter (divertPiece d cls p s) = alertOf .sorter (raiseAlert (.divertUntaken p.serial) s) := by
  rw [divertPiece_of_full he hfull, divertUntaken_sorter]
  have hsame : alertOf .sorter (exitDisposed d cls p s) = alertOf .sorter s := by
    rw [exitDisposed, drainCheck_alertsKept _ .sorter (by decide)]
    exact disposedSent_alerts d cls p s .sorter (by decide)
  exact alertOf_raiseAlert_of_eq (d := .divertUntaken p.serial) hsame

/-- The line after a DIVERT_CMD that a full queue drops: paused where the disposition left it moving, and else as it was. -/
theorem divertPiece_line_of_full {i : Nat} {e : StationEntry} (he : stationOfKind .exit s = some (i, e))
    (hfull : 32 ≤ s.ring.own.length) :
    (s.line.state = .running ∨ (s.line.state = .draining ∧ recordsHeld s ≠ s.queue.records.length) →
      (divertPiece d cls p s).line.state = .paused ∧ (divertPiece d cls p s).line.reason = some .sorter ∧
        (divertPiece d cls p s).line.drive = false ∧ (divertPiece d cls p s).line.permit = false) ∧
    (s.line.state ≠ .running → s.line.state ≠ .draining →
      (divertPiece d cls p s).line.state = s.line.state ∧ (divertPiece d cls p s).line.reason = s.line.reason ∧
        (divertPiece d cls p s).line.drive = s.line.drive) := by
  rw [divertPiece_of_full he hfull]
  refine ⟨fun hs => ?_, fun hs hs' => ?_⟩
  · have hn : ¬Completes s := fun hc => by
      obtain ⟨hdraining, hheld⟩ := completes_iff.mp hc
      rcases hs with hs | ⟨-, hs⟩
      · exact absurd (hs.symm.trans hdraining) (by decide)
      · exact hs hheld
    obtain ⟨hstate, -⟩ := exitDisposed_line_of_not_completes (d := d) (cls := cls) (p := p) hn
    exact divertUntaken_line_of_moving (by rw [hstate]; exact hs.imp_right And.left)
  · obtain ⟨hstate, hreason, hdrive⟩ :=
      exitDisposed_line_of_not_completes (d := d) (cls := cls) (p := p) fun hc : Completes s => hs' hc.1
    rw [divertUntaken_line_of_still (by rw [hstate]; exact hs) (by rw [hstate]; exact hs')]
    exact ⟨hstate, hreason, hdrive⟩

theorem divertPiece_own_of_room {i : Nat} {e : StationEntry} (he : stationOfKind .exit s = some (i, e))
    (hroom : s.ring.own.length < 32) :
    ∃ more, (divertPiece d cls p s).ring.own = s.ring.own ++ ⟨e.dst, .divertCmd p.tag⟩ :: more := by
  obtain ⟨more, hmore, -⟩ := exitDisposed_queues d cls p s
  rw [divertSent_of_room he hroom] at hmore
  exact ⟨more, by rw [divertPiece_of_sent he hroom, hmore]; simp [pushOwn, noteDivert]⟩

theorem stationAt_divertPiece_of_full {i j : Nat} {e x : StationEntry} (he : stationOfKind .exit s = some (i, e))
    (hfull : 32 ≤ s.ring.own.length) (hx : stationOfNode e.dst.toNat s = some (j, x)) :
    stationAt j (divertPiece d cls p s) = some { x with status := .absent } := by
  rw [divertPiece_of_full he hfull]
  exact stationAt_divertUntaken (exitDisposed_stations d cls p s) hx

end

/-! ### The piece at the exit -/

/-- The piece as a HAND_SORT disposition records it: of the group whose chain had no room. -/
def handSorted (p : Piece) (s : State) : Piece := { p with scheme := { p.scheme with group := exitGroup p s } }

section
variable {p : Piece} {s : State}

theorem exitPiece_of_diverted (h : p.diverted = true) : exitPiece p s = divertPiece .diverted none p s := if_pos h

theorem exitPiece_of_selected {g b : Nat} {before after : List Nat} (h : p.diverted = false)
    (hchain : (groupAt g s).chain = before ++ b :: after) (hbefore : ∀ x ∈ before, ¬Takes s x) (hb : Takes s b)
    (hg : g = exitGroup p s ∨ (g = 0 ∧ ∀ x ∈ (groupAt (exitGroup p s) s).chain, ¬Takes s x)) :
    exitPiece p s = selectInto b (exitFlight p g s) s :=
  (if_neg (Bool.eq_false_iff.mp h)).trans (selectBin_of_some (searchChain_eq_some hchain hbefore hb)
    (hg.imp_right fun ⟨h0, hn⟩ => ⟨h0, searchChain_eq_none hn⟩))

theorem exitPiece_of_none (h : p.diverted = false) (hg : ∀ x ∈ (groupAt (exitGroup p s) s).chain, ¬Takes s x)
    (h0 : ∀ x ∈ (groupAt 0 s).chain, ¬Takes s x) : exitPiece p s =
      raiseAlert (.noBin (exitGroup p s))
        (divertPiece .handSort (some (caliperClass p.caliper s)) (handSorted p s) s) :=
  (if_neg (Bool.eq_false_iff.mp h)).trans (selectBin_of_none (searchChain_eq_none hg) (searchChain_eq_none h0))

/-- The notice of a piece without a bin leaves what the divert did. -/
theorem ExitLogged.noBin {room : Prop} {b : LogBody} {g : Nat} {t : State} (h : ExitLogged room b s t) :
    ExitLogged room b s (raiseAlert (.noBin g) t) := by
  have hk : KeepsAllBut [.own, .alerts] t (raiseAlert (.noBin g) t) := raiseAlert_keeps (List.Subset.refl _) (.start _ t) _
  have ha : AlertsKeptBut [.sorter] t (raiseAlert (.noBin g) t) :=
    raiseAlert_alertsKept (d := .noBin g) (List.mem_singleton_self _) t
  have hlog : (raiseAlert (.noBin g) t).log = t.log := hk.log_eq (by decide) (by decide) (by decide) (by decide)
  have hbins : (raiseAlert (.noBin g) t).sort.bins = t.sort.bins := hk.bins_eq (by decide)
  have hstate : (raiseAlert (.noBin g) t).line.state = t.line.state := hk.state_eq (by decide)
  have hrun := ha .run (by decide)
  have hreserve := ha .reserve (by decide)
  obtain ⟨halerts, hst, hleft, hdrain⟩ := h
  refine ⟨halerts.trans (ha.more (by decide)), fun hr => (hst hr).trans (q := True) (raiseAlert_stations
    AlertClass.noConfusion t) id fun _ => trivial, fun hs => ?_, fun hs => ⟨fun hheld => ?_, fun hheld => ?_⟩⟩
  · obtain ⟨htook, hb, hr⟩ := hleft hs
    exact ⟨htook.of_log_eq rfl hlog rfl hreserve, hbins.trans hb, hrun.trans hr⟩
  · obtain ⟨htook, hb, hr, hd⟩ := (hdrain hs).1 hheld
    exact ⟨htook.of_log_eq rfl hlog rfl hreserve, hbins.trans hb, hrun.trans hr, fun hroom => hstate.trans (hd hroom)⟩
  · obtain ⟨hclosed, hb, hr, htook⟩ := (hdrain hs).2 hheld
    refine ⟨hstate.trans hclosed, fun c => ?_, hrun.trans hr, ?_⟩
    · rw [binAt_eq_of_keeps hk (by decide), hb]
    · rw [hk.counters_eq (by decide)]
      exact htook.of_log_eq rfl hlog rfl hreserve

theorem drained_of_selectDropped {b : Nat} {f : Flight} {w : State} (h : SelectDropped b f s w) :
    drained w = drained s := by
  refine drained_of_keeps h.keeps (by decide) fun c => ?_
  rw [h.bins]
  split
  · subst_vars; rfl
  · rfl

end

/-- Settles O43: a piece is selected, with or without room for its frame, or disposed by the exit divert. -/
theorem exitSelectsABin : Obligations.ExitSelectsABin := by
  intro p s cls group takes record room logged
  refine ⟨fun hp g before b after n hchain hbefore hb hg hn => ?selected, fun hp hnone hnone0 => ?handSort, fun hp hlen => ?diverted,
    fun hout => ?frames, exitPiece_keeps (List.Subset.refl _) (.start _ s) p⟩
  case selected =>
    intro f
    have hlt : b < 32 := lt_of_accepts (Bin.accepts_iff.mpr hb)
    have hexit : exitPiece p s = selectInto b f s := exitPiece_of_selected hp hchain hbefore hb hg
    refine ⟨fun hroom => ?_, fun hfull htag => ?_⟩
    · rw [hexit, selectInto_of_room hn hroom, Bin.select_of_open hb.1]
      rfl
    · intro x t closes now records finished
      obtain ⟨w, hsteps, hw⟩ := selectInto_dropped (f := f) hlt hn hfull htag
      have ht : t = drainCheck w := hexit.trans hsteps
      have hstate : w.line.state = s.line.state := hw.keeps.state_eq (by decide)
      have hcompletes : Completes w ↔ s.line.state = .draining ∧ finished := by
        rw [Completes, hstate, drained_of_selectDropped hw, drained_iff_recordsHeld]
      have hdrainKeeps : KeepsAllBut (stateParts ++ closeParts) w (drainCheck w) := drainCheck_keeps (by decide) (.start _ w)
      rw [ht]
      refine ⟨?_, ?_, ?_, ?_, ?_, ?_, ?_, fun hs => ?_, fun hs hdone => ?_⟩
      · rw [hdrainKeeps.counters_eq (by decide)]
        exact hw.counters
      · exact (hdrainKeeps.reprints_eq (by decide)).trans (hw.keeps.reprints_eq (by decide))
      · exact ((drainCheck_grows w).full (hw.own.symm ▸ hfull)).trans hw.own
      · exact (hdrainKeeps .divertSerials (by decide)).trans (hw.keeps .divertSerials (by decide))
      · exact (drainCheck_alertsKept w .sorter (by decide)).trans hw.sorter
      · exact (hw.alerts.more (by decide)).trans ((drainCheck_alertsKept w).more (by decide))
      · exact hw.stations.trans (drainCheck_stations w) id False.elim
      · rw [drainCheck_of_not_completes fun hc => (hcompletes.mp hc).elim fun h1 h2 => hs.elim (· h1) (· h2)]
        exact ⟨hstate, hw.keeps .reason (by decide), hw.keeps .drive (by decide), hw.alerts .run (by decide),
          (hw.bins b).trans (if_pos rfl), fun c hc => (hw.bins c).trans (if_neg hc), hw.took⟩
      · rw [drainCheck_of_completes (hcompletes.mpr ⟨hs, hdone⟩)]
        obtain ⟨hclosed, hdrive⟩ := completeDrain_line w
        refine ⟨hclosed, completeDrain_reason w, hdrive, ?_, fun c => ?_, ?_⟩
        · rw [completeDrain_runAlert]
          exact alertOf_raiseAlert_of_eq (d := .drainComplete) (hw.alerts .run (by decide))
        · rw [binAt_completeDrain, hw.bins]
          rfl
        · exact completeDrain_took_of hw.keeps (by decide) (by decide) hw.took fun c => by rw [hw.bins]; rfl
  case handSort =>
    have hexit : exitPiece p s = raiseAlert (.noBin group)
        (divertPiece .handSort (some cls) (handSorted p s) s) := exitPiece_of_none hp hnone hnone0
    have hk : KeepsAllBut [.own, .alerts] (divertPiece .handSort (some cls) (handSorted p s) s) (exitPiece p s) := by
      rw [hexit]
      exact raiseAlert_keeps (List.Subset.refl _) (.start _ _) _
    refine ⟨?_, fun hroom => ?_, ?_, ?_, ?_⟩
    · rw [hk.counters_eq (by decide), divertPiece_counters]
      rfl
    · rw [hexit]
      exact alertOf_raiseAlert_of_eq (d := .noBin group) (divertPiece_sorter_of_room hroom)
    · rw [hexit, alertOf_raiseAlert, if_pos (show AlertClass.sorter = (AlertDetail.noBin group).cls from rfl)]
    · rw [hk.reprints_eq (by decide), divertPiece_reprints, if_pos rfl]
    · rw [hexit]
      exact (divertPiece_logged (p := handSorted p s)).noBin
  case diverted =>
    have hexit := exitPiece_of_diverted (s := s) hp
    rw [hexit]
    refine ⟨divertPiece_counters, ⟨reasonOf p.faults .diverted, ?_, fun hf => ?_, fun hf => ?_⟩, divertPiece_logged⟩
    · rw [divertPiece_reprints, if_neg (by decide), entered, if_pos hlen]
    · rw [hf]
      rfl
    · exact reasonOf_of_faults hf .diverted
  case frames =>
    have hexit : ∃ d c q t, q.serial = p.serial ∧ t = divertPiece d c q s ∧
        ((p.diverted = true ∧ exitPiece p s = t) ∨ (p.diverted = false ∧ exitPiece p s = raiseAlert (.noBin group) t)) := by
      cases hp : p.diverted with
      | true => exact ⟨.diverted, none, p, _, rfl, rfl, .inl ⟨rfl, exitPiece_of_diverted hp⟩⟩
      | false =>
        obtain ⟨hnone, hnone0⟩ := hout.resolve_left (by simp [hp])
        exact ⟨.handSort, some cls, handSorted p s, _, rfl, rfl, .inr ⟨rfl, exitPiece_of_none hp hnone hnone0⟩⟩
    obtain ⟨d, c, q, t, hq, ht, hexit⟩ := hexit
    have hk : KeepsAllBut [.own, .alerts] t (exitPiece p s) := by
      rcases hexit with ⟨-, h⟩ | ⟨-, h⟩ <;> rw [h]
      · exact .start _ _
      · exact raiseAlert_keeps (List.Subset.refl _) (.start _ _) _
    have hqueues : Queues [19, 9] t (exitPiece p s) := by
      rcases hexit with ⟨-, h⟩ | ⟨-, h⟩ <;> rw [h]
      · exact .of_eq rfl
      · exact (raiseAlert_queues (.noBin group) t).mono (by decide)
    have hserials : (exitPiece p s).track.divertSerials = (divertSent q s).track.divertSerials := by
      rw [hk .divertSerials (by decide), ht, divertPiece_serials]
    refine ⟨fun he => by rw [hserials, divertSent_of_none he], fun i e he => ⟨fun hroom => ⟨?_, ?_⟩, fun hfull => ?_⟩⟩
    · obtain ⟨more, hmore⟩ := divertPiece_own_of_room (d := d) (cls := c) (p := q) he hroom
      obtain ⟨more', hmore', -⟩ := hqueues
      refine ⟨more ++ more', ?_⟩
      rw [hmore', ht, hmore, Piece.tag, hq]
      simp
    · rw [hserials, divertSent_of_room he hroom, ← hq]
      rfl
    · intro t' u
      have hline : (exitPiece p s).line = t.line := by
        rcases hexit with ⟨-, h⟩ | ⟨-, h⟩ <;> rw [h]
        rw [raiseAlert_line]
      have hsorter : alertOf .sorter t = alertOf .sorter u := by
        rw [ht, divertPiece_sorter_of_full he hfull, hq]
      have hstations : (exitPiece p s).track.stations = t.track.stations := hk .stations (by decide)
      obtain ⟨hmoving, hstill⟩ := divertPiece_line_of_full (d := d) (cls := c) (p := q) he hfull
      rw [← ht, ← hline] at hmoving hstill
      refine ⟨?_, fun j x hx => ?_, fun hp => ?_, fun hp => ?_, hmoving, hstill⟩
      · rw [hserials, divertSent_of_full hfull]
      · have habsent := stationAt_divertPiece_of_full (d := d) (cls := c) (p := q) he hfull hx
        rw [← ht] at habsent
        rw [show stationAt j t' = stationAt j t by simp only [stationAt]; rw [show t'.track.stations = _ from hstations]]
        exact habsent
      · obtain ⟨-, h⟩ | ⟨h, -⟩ := hexit
        · rw [show t' = t from h, hsorter]
        · exact absurd (hp.symm.trans h) (by decide)
      · obtain ⟨h, -⟩ | ⟨-, h⟩ := hexit
        · exact absurd (h.symm.trans hp) (by decide)
        · rw [show t' = _ from h]
          exact alertOf_raiseAlert_of_eq (d := .noBin group) hsorter

end Sys2Proof.Machine
end


section
/-! The last frames of an intake that has ended (06, 08, R16, R141, R157): while the feed permit cannot come on, at most one
FEED_PERMIT, one NOTICE of the log and one RECORD_GO are still queued, whatever is disposed and logged. -/

namespace Sys2Proof.Machine

/-! ### The frames still to come -/

/-- The feed permit cannot come on: the line does not run, or its intake has ended (R157). -/
def Settled (s : State) : Prop := s.line.state ≠ .running ∨ s.line.ending = true

theorem Settled.conditions {s : State} (h : Settled s) : permitConditions s = false := by
  obtain h | h := h
  · exact permitConditions_of_ne_running h
  · rw [Bool.eq_false_iff, ne_eq, permitConditions_iff]
    rintro ⟨-, hn, -⟩
    rw [hn] at h
    cases h

/-- The own-frame queue with the NOTICE that the log's alert can still queue and the FEED_PERMIT of a permit that is on. -/
def quota (s : State) : Nat :=
  s.ring.own.length + (if (alertOf .reserve s).pending then 0 else 1) + if s.line.permit then 1 else 0

/-- The RECORD_GO that a held flag can still bring. -/
def gosLeft (s : State) : Nat := if s.channel.held then 1 else 0

theorem quota_le (s : State) : quota s ≤ s.ring.own.length + 2 := by
  unfold quota
  split <;> split <;> omega

theorem quota_le_of_permit {s : State} (h : s.line.permit = false) : quota s ≤ s.ring.own.length + 1 := by
  rw [quota, h]
  split <;> simp

theorem gosLeft_le (s : State) : gosLeft s ≤ 1 := by
  unfold gosLeft
  split <;> omega

/-- Steps of a settled state: the frames still to come do not grow, and the stations are left while there is room for them. The
RECORD_GO still to come are counted by `extra`. -/
structure Settles (extra : State → Nat) (s t : State) : Prop where
  settled : Settled s → Settled t
  permit : Settled s → t.line.permit = true → s.line.permit = true
  le : Settled s → quota t + extra t ≤ quota s + extra s
  stations : Settled s → StationsKept id (s.line.permit = true → quota s + extra s ≤ 32) s t

section
variable {extra : State → Nat} {s t u : State}

theorem Settles.trans (h : Settles extra s t) (h' : Settles extra t u) : Settles extra s u where
  settled hs := h'.settled (h.settled hs)
  permit hs hp := h.permit hs (h'.permit (h.settled hs) hp)
  le hs := (h'.le (h.settled hs)).trans (h.le hs)
  stations hs := (h.stations hs).trans (h'.stations (h.settled hs)) id fun hr hp =>
    (h.le hs).trans (hr (h.permit hs hp))

theorem Settles.fold {α : Type} {f : State → α → State} (hf : ∀ t a, Settles extra t (f t a)) :
    ∀ (xs : List α) (s : State), Settles extra s (xs.foldl f s)
  | [], _ => ⟨id, fun _ h => h, fun _ => le_rfl, fun _ => .of_eq rfl rfl⟩
  | a :: xs, s => (hf s a).trans (Settles.fold hf xs _)

/-- A step that touches nothing of the own-frame queue, the alerts, the stations and the line. -/
theorem Settles.of_keeps {f : List Part} (h : KeepsAllBut f s t)
    (hf : ∀ p ∈ ([.own, .alerts, .stations, .runState, .ending, .permit] : List Part), p ∉ f) (he : extra t = extra s) :
    Settles extra s t := by
  have hown : t.ring.own = s.ring.own := h .own (hf _ (by decide))
  have hpermit : t.line.permit = s.line.permit := h .permit (hf _ (by decide))
  have halerts : t.channel.alerts = s.channel.alerts := h .alerts (hf _ (by decide))
  have hstate : t.line.state = s.line.state := h .runState (hf _ (by decide))
  have hending : t.line.ending = s.line.ending := h .ending (hf _ (by decide))
  have hcls : ∀ c, alertOf c t = alertOf c s := fun c => by simp only [alertOf, halerts]
  refine ⟨fun hs => ?_, fun _ hp => hpermit ▸ hp, fun _ => ?_, fun _ => .of_eq (hcls _) (h .stations (hf _ (by decide)))⟩
  · rw [Settled, hstate, hending]
    exact hs
  · simp only [quota, hown, hpermit, hcls, he, le_refl]

theorem evalPermit_settles (he : extra (evalPermit s) = extra s) : Settles extra s (evalPermit s) := by
  have hk : KeepsAllBut permitParts s (evalPermit s) := evalPermit_keeps (List.Subset.refl _) (.start _ s)
  have hpermit : Settled s → (evalPermit s).line.permit = false := fun hs => by
    rw [evalPermit_permit, permitConditions_evalPermit, hs.conditions]
  cases hp : s.line.permit with
  | false =>
    by_cases hs : Settled s
    · have hsame : evalPermit s = s := evalPermit_of_eq (hs.conditions.trans hp.symm)
      rw [hsame]
      exact .of_keeps (f := []) (.start _ s) (by simp) rfl
    · exact ⟨fun h => absurd h hs, fun h => absurd h hs, fun h => absurd h hs, fun h => absurd h hs⟩
  | true =>
    refine ⟨fun hs => ?_, fun hs hp' => absurd (hpermit hs).symm (by simp [hp']), fun hs => ?_, fun hs =>
      evalPermit_stationsKept fun hr => .inl ?_⟩
    · rw [Settled, hk.state_eq (by decide), hk.ending_eq (by decide)]
      exact hs
    · have hgrows := (evalPermit_grows s).length_le
      rw [he, quota, quota, hpermit hs, hp, evalPermit_alert (by decide)]
      simp only [Bool.false_eq_true, if_false, if_true]
      omega
    · have := hr hp
      rw [quota, hp] at this
      simp only [if_true] at this
      omega

/-- The notice of a first loss is the one that was still to come. -/
theorem logOverflow_settles (he : extra (raiseAlert .logOverflow s) = extra s) :
    Settles extra s (raiseAlert .logOverflow s) := by
  have hk : KeepsAllBut [.own, .alerts] s (raiseAlert .logOverflow s) := raiseAlert_keeps (List.Subset.refl _) (.start _ s) _
  have hpermit : (raiseAlert .logOverflow s).line.permit = s.line.permit := hk .permit (by decide)
  refine ⟨fun hs => ?_, fun _ hp => hpermit ▸ hp, fun _ => ?_, fun _ => raiseAlert_stations AlertClass.noConfusion s⟩
  · rw [Settled, hk.state_eq (by decide), hk.ending_eq (by decide)]
    exact hs
  · have hafter : (alertOf .reserve (raiseAlert .logOverflow s)).pending = true := by
      rw [alertOf_raiseAlert, if_pos (show AlertClass.reserve = AlertDetail.logOverflow.cls from rfl)]
    rw [quota, quota, he, hpermit, hafter]
    cases hp : (alertOf .reserve s).pending with
    | true => rw [raiseAlert_own_of_pending (d := .logOverflow) hp]
    | false =>
      have := (raiseAlert_grows .logOverflow s).length_le
      simp only [if_true, Bool.false_eq_true, if_false]
      omega

end

/-! ### Records of the log and dispositions (R124, R141) -/

/-- What `extra` counts is in parts that a write request or a disposition leaves. -/
def Steady (extra : State → Nat) : Prop := ∀ s t, KeepsAllBut (closeParts ++ disposeParts) s t → extra t = extra s

theorem steady_zero : Steady fun _ => 0 := fun _ _ _ => rfl

theorem steady_gosLeft : Steady gosLeft := fun s t h => by
  have hheld : t.channel.held = s.channel.held := h .held (by decide)
  simp only [gosLeft, hheld]

section
variable {extra : State → Nat} (he : Steady extra) (s : State)
include he

theorem evalPermit_settles' : Settles extra s (evalPermit s) :=
  evalPermit_settles (he _ _ (evalPermit_keeps (by decide) (.start _ s)))

/-- A change of the log's own records. -/
theorem log_settles {s t : State} (h : KeepsAllBut [.logRecords, .logSerial, .logLost] s t) : Settles extra s t :=
  .of_keeps h (by decide) (he _ _ (h.more (by decide)))

theorem writeLog_settles (b : LogBody) : Settles extra s (writeLog b s) := by
  have happend : ∀ c t, Settles extra t (appendLog c t) := fun c t =>
    log_settles he (appendLog_keeps (by decide) (.start _ t) c)
  have hlost : ∀ n t, Settles extra t (setLost n t) := fun n t => log_settles he (setLost_keeps (by decide) (.start _ t) n)
  unfold writeLog
  split
  · split
    · exact (happend b s).trans (evalPermit_settles' he _)
    · exact (hlost 1 s).trans (logOverflow_settles (he _ _ (raiseAlert_keeps (by decide) (.start _ _) _)))
  · split
    · exact (((happend _ s).trans (hlost 0 _)).trans (happend b _)).trans (evalPermit_settles' he _)
    · exact hlost _ s

theorem dispose_settles (d : Disposition) (e : EntryEffect) (b : LogBody) : Settles extra s (dispose d e b s) := by
  have hmade : Settles extra s (entryMade d e s) :=
    .of_keeps (entryMade_keeps d e s) (by decide) (he _ _ ((entryMade_keeps d e s).more (by decide)))
  rw [dispose_eq]
  split
  · exact hmade.trans (writeLog_settles he _ b)
  · exact (hmade.trans (writeLog_settles he _ b)).trans (evalPermit_settles' he _)

theorem closeBundle_settles (b : Nat) {cause : CloseCause} (hc : cause ≠ .full) : Settles extra s (closeBundle b cause s) := by
  cases h : (binAt b s).bundle with
  | none =>
    rw [closeBundle_of_none h]
    exact .of_keeps (f := []) (.start _ s) (by simp) rfl
  | some u =>
    rw [closeBundle_of_some h, if_neg hc]
    exact (writeLog_settles he s _).trans (.of_keeps (putBin_keeps (List.Subset.refl _) (.start _ _) b _) (by decide)
      (he _ _ (putBin_keeps (by decide) (.start _ _) b _)))

end

/-! ### RECORD_GO (R16) -/

/-- Steps of a settled state in which the held flag can clear: RECORD_GO is queued with it, where there is room for the frames
still to come and a supervisor. -/
structure SettlesFlow (s t : State) : Prop extends Settles gosLeft s t where
  held : t.channel.held = true → s.channel.held = true
  supervisor : t.supervisor = s.supervisor
  own : s.ring.own.length ≤ t.ring.own.length
  goes : Settled s → s.supervisor ≠ 0 → s.supervisor ≠ 63 → quota s + gosLeft s ≤ 32 → ∀ since ≤ s.ring.own.length,
    recordGoes since t =
      recordGoes since s ++ if s.channel.held = true ∧ t.channel.held = false then [⟨s.supervisor, .recordGo⟩] else []

theorem SettlesFlow.trans {s t u : State} (h : SettlesFlow s t) (h' : SettlesFlow t u) : SettlesFlow s u where
  toSettles := h.toSettles.trans h'.toSettles
  held hu := h.held (h'.held hu)
  supervisor := h'.supervisor.trans h.supervisor
  own := h.own.trans h'.own
  goes hs h0 h63 hroom since hsince := by
    rw [h'.goes (h.settled hs) (h.supervisor ▸ h0) (h.supervisor ▸ h63) ((h.le hs).trans hroom) since (hsince.trans h.own),
      h.goes hs h0 h63 hroom since hsince, h.supervisor, List.append_assoc]
    congr 1
    have ht := h.held
    have hu := h'.held
    cases hsh : s.channel.held <;> cases hth : t.channel.held <;> cases huh : u.channel.held <;> simp_all

theorem Queues.own_le {kinds : List Nat} {s t : State} (h : Queues kinds s t) : s.ring.own.length ≤ t.ring.own.length := by
  obtain ⟨more, hmore, -⟩ := h
  simp [hmore]

/-- Steps that queue FEED_PERMIT and NOTICE only and leave the held flag. -/
theorem Settles.flow {s t : State} (h : Settles gosLeft s t) (hq : Queues [19, 9] s t) (hheld : t.channel.held = s.channel.held)
    (hsup : t.supervisor = s.supervisor) : SettlesFlow s t where
  toSettles := h
  held ht := hheld ▸ ht
  supervisor := hsup
  own := hq.own_le
  goes _ _ _ _ since hsince := by
    rw [hq.recordGoes_eq (by decide) hsince, hheld, if_neg (by simp), List.append_nil]

theorem SettlesFlow.fold {α : Type} {f : State → α → State} (hf : ∀ t a, SettlesFlow t (f t a)) :
    ∀ (xs : List α) (s : State), SettlesFlow s (xs.foldl f s)
  | [], s => (Settles.of_keeps (f := []) (.start _ s) (by simp) rfl).flow (.of_eq rfl) rfl rfl
  | a :: xs, s => (hf s a).trans (SettlesFlow.fold hf xs _)

theorem dispose_flow (d : Disposition) (e : EntryEffect) (b : LogBody) (s : State) : SettlesFlow s (dispose d e b s) := by
  have hk : KeepsAllBut disposeParts s (dispose d e b s) := dispose_keeps (List.Subset.refl _) (.start _ s) d e b
  exact (dispose_settles steady_gosLeft s d e b).flow (dispose_logged d e b s).queues (hk .held (by decide))
    (hk .supervisor (by decide))

theorem evalPermit_flow (s : State) : SettlesFlow s (evalPermit s) := by
  have hk : KeepsAllBut permitParts s (evalPermit s) := evalPermit_keeps (List.Subset.refl _) (.start _ s)
  exact (evalPermit_settles' steady_gosLeft s).flow (evalPermit_queues s) (hk .held (by decide)) (hk .supervisor (by decide))

theorem writeLog_flow (b : LogBody) (s : State) : SettlesFlow s (writeLog b s) := by
  have hk : KeepsAllBut writeParts s (writeLog b s) := writeLog_keeps (List.Subset.refl _) (.start _ s) b
  exact (writeLog_settles steady_gosLeft s b).flow (writeLog_queues b s) (hk .held (by decide)) (hk .supervisor (by decide))

theorem recordGoes_self (s : State) : recordGoes s.ring.own.length s = [] := by
  rw [recordGoes, List.drop_length, List.filter_nil]

theorem recordGoes_pushOwn {since : Nat} {s : State} (hs : since ≤ s.ring.own.length) (dst : Node) :
    recordGoes since (pushOwn dst .recordGo s) = recordGoes since s ++ [⟨dst, .recordGo⟩] := by
  simp only [recordGoes, pushOwn, State.setRing_ring, List.drop_append_of_le_length hs, List.filter_append]
  rfl

theorem releaseFlow_flow {s : State} (hheld : s.channel.held = true) : SettlesFlow s (releaseFlow s) := by
  have hk : KeepsAllBut [.own, .held] s (releaseFlow s) := releaseFlow_keeps (List.Subset.refl _) (.start _ s)
  have hcleared : (releaseFlow s).channel.held = false := releaseFlow_held s
  have halerts : (releaseFlow s).channel.alerts = s.channel.alerts := hk .alerts (by decide)
  have hown : (releaseFlow s).ring.own = _ := sendSupervisor_own .recordGo (s.setChannel { s.channel with held := false })
  have hlen : s.ring.own.length ≤ (releaseFlow s).ring.own.length ∧
      (releaseFlow s).ring.own.length ≤ s.ring.own.length + 1 := by
    rw [hown]
    split
    · simp
    · exact ⟨le_rfl, Nat.le_succ _⟩
  have hstations : StationsKept id True s (releaseFlow s) :=
    .of_eq (by simp only [alertOf, halerts]) (hk .stations (by decide))
  refine ⟨⟨fun hs => ?_, fun _ hp => hk .permit (by decide) ▸ hp, fun _ => ?_, fun _ => hstations.mono fun _ => trivial⟩, ?_,
    hk .supervisor (by decide), hlen.1, fun _ h0 h63 hroom since hsince => ?_⟩
  · rw [Settled, hk.state_eq (by decide), hk.ending_eq (by decide)]
    exact hs
  · have hpermit : (releaseFlow s).line.permit = s.line.permit := hk .permit (by decide)
    have hreserve : alertOf .reserve (releaseFlow s) = alertOf .reserve s := by simp only [alertOf, halerts]
    rw [quota, quota, gosLeft, gosLeft, hcleared, hheld, hpermit, hreserve]
    simp only [if_true, Bool.false_eq_true, if_false]
    omega
  · intro ht
    rw [hcleared] at ht
    cases ht
  · have hlt : s.ring.own.length < 32 := by
      rw [gosLeft, hheld, quota] at hroom
      simp only [if_true] at hroom
      omega
    have hroomOwn : (releaseFlow s).ring.own = (pushOwn s.supervisor .recordGo s).ring.own := by
      rw [hown, if_pos ⟨h0, h63, hlt⟩]
      rfl
    rw [if_pos ⟨hheld, hcleared⟩, ← recordGoes_pushOwn hsince]
    simp only [recordGoes, hroomOwn]

theorem checkGo_flow (s : State) : SettlesFlow s (checkGo s) := by
  unfold checkGo
  split
  · next h => exact releaseFlow_flow (by simp at h; exact h.1)
  · exact (Settles.of_keeps (f := []) (.start _ s) (by simp) rfl).flow (.of_eq rfl) rfl rfl

/-- The queue without its head record. -/
def headTaken (s : State) : State := s.setQueue { s.queue with records := s.queue.records.tail }

theorem headTaken_keeps (s : State) : KeepsAllBut [.records] s (headTaken s) := by
  intro q hq
  cases q <;> first | rfl | exact absurd (by decide) hq

theorem removeHead_eq (s : State) : removeHead s =
    if (checkGo (headTaken s)).queue.records.isEmpty then evalPermit (checkGo (headTaken s)) else checkGo (headTaken s) := rfl

theorem removeHead_flow (s : State) : SettlesFlow s (removeHead s) := by
  have htaken : SettlesFlow s (headTaken s) :=
    (Settles.of_keeps (headTaken_keeps s) (by decide) rfl).flow (.of_eq rfl) rfl rfl
  rw [removeHead_eq]
  split
  · exact (htaken.trans (checkGo_flow _)).trans (evalPermit_flow _)
  · exact htaken.trans (checkGo_flow _)

/-- The held flag after the check of a removal: cleared by a count at or below the low mark (R16). -/
theorem checkGo_held (s : State) :
    (checkGo s).channel.held = (s.channel.held && decide (s.queue.low < s.queue.records.length)) := by
  unfold checkGo
  split
  · next h =>
    simp only [Bool.and_eq_true, decide_eq_true_eq] at h
    rw [releaseFlow_held, decide_eq_false (Nat.not_lt.mpr h.2), Bool.and_false]
  · next h =>
    cases hh : s.channel.held with
    | false => rfl
    | true =>
      have hlt : s.queue.low < s.queue.records.length := by simpa [hh] using h
      rw [decide_eq_true hlt]
      rfl

theorem removeHead_held (s : State) : (removeHead s).channel.held =
    (s.channel.held && decide (s.queue.low < s.queue.records.tail.length)) := by
  have hgo : (checkGo (headTaken s)).channel.held = _ := checkGo_held (headTaken s)
  rw [removeHead_eq]
  split
  · exact (evalPermit_keeps (List.Subset.refl permitParts) (.start _ _) .held (by decide)).trans hgo
  · exact hgo

theorem removeHead_keeps' (s : State) : KeepsAllBut (permitParts ++ [.held, .records]) s (removeHead s) :=
  removeHead_keeps (by decide) (.start _ s)

theorem removeHead_alertsKept (s : State) : AlertsKeptBut [.station] s (removeHead s) := by
  have hk : KeepsAllBut [.own, .held] (headTaken s) (checkGo (headTaken s)) := checkGo_keeps (List.Subset.refl _) (.start _ _)
  have hgo : AlertsKeptBut [.station] s (checkGo (headTaken s)) :=
    (AlertsKeptBut.of_keeps (headTaken_keeps s) (by decide)).trans (.of_keeps hk (by decide))
  rw [removeHead_eq]
  split
  · exact hgo.trans (evalPermit_alertsKept (by decide) _)
  · exact hgo

end Sys2Proof.Machine
end


section
/-! SKIP_RECORD (01, 08, R16, R124, R128, R132): one head record skipped, and as many as the gate lets through. -/

namespace Sys2Proof.Machine

/-! ### Counters (R133) -/

theorem countUp_iterate (k : Nat) : ∀ n : Nat, n ≤ 16777215 → countUp^[k] n = min 16777215 (n + k) := by
  induction k with
  | zero => exact fun n hn => (Nat.min_eq_right hn).symm
  | succ k ih =>
    intro n _
    have hle : countUp n ≤ 16777215 := Nat.min_le_left ..
    rw [Function.iterate_succ_apply, ih _ hle]
    simp only [countUp, Config.counterLimit]
    omega

/-- Counting `k` times in one field of the counters. -/
theorem bump_iterate {d : Disposition} {get : Counters → Nat} {set : Counters → Nat → Counters}
    (hbump : ∀ c, c.bump d = set c (countUp (get c))) (hget : ∀ c n, get (set c n) = n)
    (hset : ∀ c n m, set (set c n) m = set c m) (hsame : ∀ c, set c (get c) = c) (k : Nat) (c : Counters)
    (hle : get c ≤ 16777215) : (Counters.bump d)^[k] c = set c (min 16777215 (get c + k)) := by
  have hiterate : ∀ (k : Nat) (c : Counters), (Counters.bump d)^[k] c = set c (countUp^[k] (get c)) := by
    intro k
    induction k with
    | zero => exact fun c => (hsame c).symm
    | succ k ih => exact fun c => by rw [Function.iterate_succ_apply, ih, hbump, hget, hset, Function.iterate_succ_apply]
  rw [hiterate, countUp_iterate _ _ hle]

/-! ### Head records removed and disposed one after the other (R12, R124, R132) -/

/-- What it does to remove the head records `l` and dispose each: the log is asked for `body` of each, and `entries` is what
becomes of the Reprint List. -/
structure Removes (d : Disposition) (body : JobRecord → LogBody) (entries : List ReprintEntry → JobRecord → List ReprintEntry)
    (l : List JobRecord) (s v : State) : Prop where
  records : s.queue.records = l ++ v.queue.records
  counters : v.line.counters = (Counters.bump d)^[l.length] s.line.counters
  reprints : v.reprints = l.foldl entries s.reprints
  took : LogTookAll (l.map body) s v
  held : v.channel.held = (s.channel.held && (l.isEmpty || decide (s.queue.low < v.queue.records.length)))
  flow : SettlesFlow s v
  alerts : AlertsKeptBut [.reserve, .station] s v
  keeps : KeepsAllBut (disposeParts ++ [.held, .records]) s v

section
variable {d : Disposition} {body : JobRecord → LogBody} {entries : List ReprintEntry → JobRecord → List ReprintEntry}
  {l m : List JobRecord} {s t u : State}

theorem Removes.nothing (s : State) : Removes d body entries [] s s where
  records := rfl
  counters := rfl
  reprints := rfl
  took := ⟨rfl, rfl⟩
  held := by simp
  flow := (Settles.of_keeps (f := []) (.start _ s) (by simp) rfl).flow (.of_eq rfl) rfl rfl
  alerts := .of_alerts_eq rfl
  keeps := .start _ s

theorem Removes.trans (h : Removes d body entries l s t) (h' : Removes d body entries m t u) :
    Removes d body entries (l ++ m) s u where
  records := by rw [h.records, h'.records, List.append_assoc]
  counters := by rw [h'.counters, h.counters, List.length_append, Nat.add_comm, Function.iterate_add_apply]
  reprints := by rw [h'.reprints, h.reprints, List.foldl_append]
  took := by
    rw [List.map_append]
    exact h.took.append h'.took
  held := by
    have hlow : t.queue.low = s.queue.low := h.keeps .low (by decide)
    have hlen : t.queue.records.length = m.length + u.queue.records.length := by rw [h'.records, List.length_append]
    rw [h'.held, h.held, hlow, hlen]
    cases l with
    | nil => simp
    | cons a l =>
      cases m with
      | nil => simp
      | cons b m =>
        by_cases hlt : s.queue.low < u.queue.records.length
        · simp [hlt, Nat.lt_add_left (m.length + 1) hlt]
        · simp [hlt]
  flow := h.flow.trans h'.flow
  alerts := h.alerts.trans h'.alerts
  keeps := h.keeps.trans h'.keeps

/-- One head record is removed and disposed. -/
theorem removes_one {r : JobRecord} {rest : List JobRecord} (e : EntryEffect) (hr : s.queue.records = r :: rest)
    (he : (applyEntry e (countDisposition d (removeHead s))).reprints = entries s.reprints r) :
    Removes d body entries [r] s (dispose d e (body r) (removeHead s)) := by
  have hremove := removeHead_keeps' s
  have hdispose : KeepsAllBut disposeParts (removeHead s) (dispose d e (body r) (removeHead s)) :=
    dispose_keeps (List.Subset.refl _) (.start _ _) _ _ _
  have hlogged := dispose_logged d e (body r) (removeHead s)
  have hrecords : (dispose d e (body r) (removeHead s)).queue.records = rest := by
    rw [hdispose.records_eq (by decide), removeHead_records, hr]
    rfl
  constructor
  case records => rw [hrecords, hr]; rfl
  case counters =>
    rw [dispose_counters, hremove.counters_eq (by decide)]
    rfl
  case reprints => rw [dispose_reprints, he]; rfl
  case took =>
    refine hlogged.took.of_log_eq ?_ rfl ?_ rfl
    · exact (hremove.log_eq (by decide) (by decide) (by decide) (by decide)).symm
    · exact (removeHead_alertsKept s .reserve (by decide)).symm
  case held =>
    have hheld : (dispose d e (body r) (removeHead s)).channel.held = (removeHead s).channel.held := hdispose .held (by decide)
    rw [hheld, removeHead_held, hrecords, hr]
    rfl
  case flow => exact (removeHead_flow s).trans (dispose_flow d e _ _)
  case alerts => exact ((removeHead_alertsKept s).more (by decide)).trans hlogged.alerts
  case keeps => exact (hremove.more (by decide)).trans (hdispose.more (by decide))

end

/-! ### One head record skipped (R132) -/

/-- What skipping the head records `l`, one after the other, does. -/
structure Skips (l : List JobRecord) (s v : State) : Prop
    extends Removes .skipped (fun r => .piece (r.logOf .skipped)) skippedEntries l s v where
  gate : ∀ (i : Nat) (r : JobRecord), l[i]? = some r → r.reprint = false →
    inFlightCount s + ((l.take i).countP fun x => !x.reprint) < reprintFree s
  free : reprintFree s = reprintFree v + l.countP fun x => !x.reprint

theorem Skips.nothing (s : State) : Skips [] s s where
  toRemoves := .nothing s
  gate := by simp
  free := by simp

theorem Skips.trans {l m : List JobRecord} {s t u : State} (h : Skips l s t) (h' : Skips m t u) : Skips (l ++ m) s u where
  toRemoves := h.toRemoves.trans h'.toRemoves
  gate i r hr hreprint := by
    have hflight := inFlightCount_of_keeps h.keeps (by decide)
    have hfree := h.free
    by_cases hi : i < l.length
    · rw [List.getElem?_append_left hi] at hr
      rw [List.take_append_of_le_length (Nat.le_of_lt hi)]
      exact h.gate i r hr hreprint
    · rw [List.getElem?_append_right (Nat.le_of_not_lt hi)] at hr
      have hgate := h'.gate _ r hr hreprint
      rw [List.take_append, List.take_of_length_le (Nat.le_of_not_lt hi), List.countP_append]
      omega
  free := by
    rw [h.free, h'.free, List.countP_append]
    omega

theorem Skips.counters_eq {l : List JobRecord} {s v : State} (h : Skips l s v) (hle : s.line.counters.skipped ≤ 16777215) :
    v.line.counters = { s.line.counters with skipped := min 16777215 (s.line.counters.skipped + l.length) } := by
  rw [h.counters]
  exact bump_iterate (get := (·.skipped)) (set := fun c n => { c with skipped := n }) (fun _ => rfl) (fun _ _ => rfl)
    (fun _ _ _ => rfl) (fun _ => rfl) _ _ hle

/-- The Reprint List after the disposition of a skipped record (R128, R132). -/
def skipEffect (r : JobRecord) : EntryEffect :=
  if r.reprint then .reopen r.seq (some (.disposition .skipped)) else .create r.seq r.inc (.disposition .skipped)

theorem skipHead_eq (r : JobRecord) (s : State) :
    skipHead r s = dispose .skipped (skipEffect r) (.piece (r.logOf .skipped)) (removeHead s) := rfl

section
variable {r : JobRecord} {s : State}

theorem skipHead_reprints (r : JobRecord) (s : State) : (skipHead r s).reprints = skippedEntries s.reprints r := by
  have hsame : (countDisposition .skipped (removeHead s)).reprints = s.reprints :=
    (removeHead_keeps' s).reprints_eq (by decide)
  rw [skipHead_eq, dispose_reprints, skipEffect, skippedEntries]
  split
  · rw [← hsame]
    rfl
  · rw [← hsame]
    exact createEntry_entered ..

/-- An entry lowers the free count by one; the entry of a reprint record keeps it (R127, R128). -/
theorem skippedEntries_length (r : JobRecord) {l : List ReprintEntry} (h : r.reprint = true ∨ l.length < 256) :
    (skippedEntries l r).length = l.length + if r.reprint then 0 else 1 := by
  cases hr : r.reprint with
  | true =>
    rw [skippedEntries, hr]
    exact updateEntry_length ..
  | false =>
    rw [skippedEntries, hr, entered, if_pos (h.resolve_left (by simp [hr]))]
    simp

/-- A head record that may be skipped is skipped (R132). -/
theorem skipHead_skips {rest : List JobRecord} (hr : s.queue.records = r :: rest)
    (hgate : r.reprint = true ∨ inFlightCount s < reprintFree s) : Skips [r] s (skipHead r s) where
  toRemoves := removes_one (body := fun r => .piece (r.logOf .skipped)) (skipEffect r) hr (by
    rw [← skipHead_reprints, skipHead_eq, dispose_reprints])
  gate i x hx hreprint := by
    obtain ⟨rfl, rfl⟩ : i = 0 ∧ r = x := by
      cases i with
      | zero => exact ⟨rfl, by simpa using hx⟩
      | succ i => simp at hx
    exact hgate.resolve_left (by simp [hreprint])
  free := by
    have hlen := skippedEntries_length r (l := s.reprints) (hgate.imp_right fun h => by
      simp only [reprintFree, Config.reprintCapacity] at h
      omega)
    simp only [reprintFree, skipHead_reprints, hlen, Config.reprintCapacity]
    cases hreprint : r.reprint with
    | true => simp [hreprint]
    | false =>
      have hroom := hgate.resolve_left (by simp [hreprint])
      simp only [reprintFree, Config.reprintCapacity] at hroom
      simp [hreprint]
      omega

end

/-! ### As many as the gate lets through (R132) -/

/-- What stops a SKIP_RECORD: its count, an empty queue, or the reserve gate. -/
def SkipStops (n k : Nat) (v : State) : Prop := k = n ∨ v.queue.records = [] ∨
  ∃ r rest, v.queue.records = r :: rest ∧ r.reprint = false ∧ reprintFree v ≤ inFlightCount v

theorem skipRecords_skips : ∀ (n : Nat) (s : State), ∃ l, Skips l s (skipRecords n s).1 ∧ (skipRecords n s).2 = l.length ∧
    l.length ≤ n ∧ SkipStops n l.length (skipRecords n s).1
  | 0, s => ⟨[], .nothing s, rfl, le_rfl, .inl rfl⟩
  | n + 1, s => by
    cases hr : s.queue.records with
    | nil =>
      have hstop : skipRecords (n + 1) s = (s, 0) := by simp [skipRecords, hr]
      rw [hstop]
      exact ⟨[], .nothing s, rfl, Nat.zero_le _, .inr (.inl hr)⟩
    | cons r rest =>
      by_cases hgate : r.reprint = true ∨ inFlightCount s < reprintFree s
      · have hstep : skipRecords (n + 1) s = ((skipRecords n (skipHead r s)).1, (skipRecords n (skipHead r s)).2 + 1) := by
          simp [skipRecords, hr, hgate]
        obtain ⟨l, hskips, hlen, hle, hstops⟩ := skipRecords_skips n (skipHead r s)
        rw [hstep]
        refine ⟨r :: l, (skipHead_skips hr hgate).trans hskips, congrArg (· + 1) hlen, Nat.succ_le_succ hle, ?_⟩
        exact hstops.imp_left (congrArg (· + 1))
      · have hstop : skipRecords (n + 1) s = (s, 0) := by simp [skipRecords, hr, hgate]
        obtain ⟨hreprint, hshut⟩ := not_or.mp hgate
        rw [hstop]
        exact ⟨[], .nothing s, rfl, Nat.zero_le _,
          .inr (.inr ⟨r, rest, hr, Bool.eq_false_iff.mpr hreprint, Nat.le_of_not_lt hshut⟩)⟩

/-! ### The request (R132, R147) -/

theorem exec_skipRecord {h : Header} {tag : Byte} {operands : List Byte} {s v : State} {code : AnswerCode}
    {content : List Byte} (hc : Commanded h (tag :: 10 :: operands) s)
    (hw : skipRequest tag operands s = sendAnswer tag code content v) :
    exec (.skipRecord h tag operands) s = .next (answered h 4 (tag :: 10 :: operands) tag code content v) :=
  take_request_answered hc hw

theorem skipRequest_of_count {n : Byte} {s : State} (hs : s.line.state = .paused ∨ s.line.state = .jammed)
    (h1 : 1 ≤ n.toNat) (h8 : n.toNat ≤ 8) (tag : Byte) :
    skipRequest tag [n] s =
      sendAnswer tag .ok [byteOf (skipRecords n.toNat s).2] (skipRecords n.toNat s).1 := by
  rw [skipRequest, if_pos (by simpa using hs), if_pos (by simp [field_one, byteAt_cons_zero, h1, h8]), field_one, byteAt_cons_zero]
  rfl

/-- Settles O18: head records are skipped one after the other, each by the gate as the entries before it left it. -/
theorem skipRecordDisposesTheHead : Obligations.SkipRecordDisposesTheHead := by
  intro h tag operands s hc
  refine ⟨fun n hs hn h1 h8 hcount => ?_, fun hp hj => exec_skipRecord hc (if_neg (by simp [hp, hj])), fun hs hbad =>
    exec_skipRecord hc ((if_pos (by simpa using hs)).trans (if_neg ?_))⟩
  · subst hn
    obtain ⟨l, hskips, hlen, hle, hstops⟩ := skipRecords_skips n.toNat s
    have ⟨_, hzero, hbroadcast, _⟩ := hc
    have hsettled : Settled s := .inl (by rcases hs with hs | hs <;> rw [hs] <;> decide)
    have hquota : s.ring.own.length + 3 ≤ 32 → quota s + gosLeft s ≤ 32 := fun hroom => by
      have h1 := quota_le s
      have h2 := gosLeft_le s
      omega
    have htake : s.queue.records.take l.length = l := by rw [hskips.records, List.take_left]
    refine ⟨l.length, (skipRecords n.toNat s).1, exec_skipRecord hc (hlen ▸ skipRequest_of_count hs h1 h8 tag), hle, ?_, ?_,
      hskips.counters_eq hcount, fun i r hi hr hreprint => ?_, hstops, inFlightCount_of_keeps hskips.keeps (by decide), ?_, ?_, ?_,
      fun hroom => ?_, ?_, hskips.alerts, hskips.keeps⟩
    · rw [hskips.records, List.drop_left]
    · rw [hskips.records, List.length_append]
      exact Nat.le_add_right ..
    · rw [hskips.records, List.getElem?_append_left hi] at hr
      rw [hskips.records, List.take_append_of_le_length (Nat.le_of_lt hi)]
      exact hskips.gate i r hr hreprint
    · rw [htake]
      exact hskips.reprints
    · rw [htake]
      exact hskips.took
    · rw [hskips.held]
      cases l <;> rfl
    · have hgoes := hskips.flow.goes hsettled hzero hbroadcast (hquota hroom) _ le_rfl
      rwa [recordGoes_self, List.nil_append] at hgoes
    · exact (hskips.flow.stations hsettled).mono fun hroom _ => hquota hroom
  · simp only [Bool.and_eq_true, decide_eq_true_eq, not_and]
    obtain hlen | ⟨n, rfl, hn⟩ := hbad
    · exact fun h => absurd h.1 hlen
    · rw [field_one, byteAt_cons_zero]
      omega

end Sys2Proof.Machine
end


section
/-! What leaves the line (02, 04, 07, 08, R40, R69, R121, R124): pockets, slots and bins cleared, with the counters, the reprint
entries and the log records of what they held. -/

namespace Sys2Proof.Machine

/-! ### Dispositions and bundle closes one after the other -/

/-- What clearing pockets, slots and bins can touch (R40, R69, R121). -/
abbrev emptyParts : List Part := disposeParts ++ [.collecting, .staging, .slots, .pageUse, .groups, .bins]

/-- The counters after several dispositions (R133). -/
def Counters.bumpAll (ds : List Disposition) (c : Counters) : Counters := ds.foldl (fun c d => c.bump d) c

theorem Counters.bumpAll_map {α : Type} (d : Disposition) : ∀ (l : List α) (c : Counters),
    c.bumpAll (l.map fun _ => d) = (Counters.bump d)^[l.length] c
  | [], _ => rfl
  | _ :: l, c => Counters.bumpAll_map d l (c.bump d)

theorem Counters.bumpAll_append (ds es : List Disposition) (c : Counters) :
    c.bumpAll (ds ++ es) = (c.bumpAll ds).bumpAll es := List.foldl_append ..

/-- Steps with the dispositions `ds`, which make the reprint entries `es` and ask the log for the records `l`. -/
structure Clears (ds : List Disposition) (es : List ReprintEntry) (l : List LogBody) (s v : State) : Prop where
  counters : v.line.counters = s.line.counters.bumpAll ds
  reprints : v.reprints = es.foldl entered s.reprints
  took : LogTookAll l s v
  settles : Settles (fun _ => 0) s v
  queues : Queues [19, 9] s v
  alerts : AlertsKeptBut [.reserve, .station] s v
  keeps : KeepsAllBut emptyParts s v

section
variable {ds ds' : List Disposition} {es es' : List ReprintEntry} {l l' : List LogBody} {s t u : State}

theorem Clears.trans (h : Clears ds es l s t) (h' : Clears ds' es' l' t u) : Clears (ds ++ ds') (es ++ es') (l ++ l') s u where
  counters := by rw [h'.counters, h.counters, Counters.bumpAll_append]
  reprints := by rw [h'.reprints, h.reprints, List.foldl_append]
  took := h.took.append h'.took
  settles := h.settles.trans h'.settles
  queues := h.queues.trans h'.queues
  alerts := h.alerts.trans h'.alerts
  keeps := h.keeps.trans h'.keeps

/-- Nothing is disposed. -/
theorem Clears.of_keeps {f : List Part} (h : KeepsAllBut f s t) (hf : ∀ p ∈ f, p ∈ ([.collecting, .staging, .slots, .pageUse,
    .groups, .bins] : List Part)) : Clears [] [] [] s t where
  counters := h.counters_eq fun hp => absurd (hf _ hp) (by decide)
  reprints := h.reprints_eq fun hp => absurd (hf _ hp) (by decide)
  took := by
    have hlog : ∀ p, p ∈ ([.logRecords, .logSerial, .logLost, .reserve, .alerts] : List Part) → p ∉ f := fun p hp hm =>
      absurd (hf p hm) (by fin_cases hp <;> decide)
    have halerts : t.channel.alerts = s.channel.alerts := h .alerts (hlog _ (by decide))
    exact ⟨h.log_eq (hlog _ (by decide)) (hlog _ (by decide)) (hlog _ (by decide)) (hlog _ (by decide)),
      by simp only [alertOf, halerts]⟩
  settles := .of_keeps h (fun p hp hm => absurd (hf p hm) (by fin_cases hp <;> decide)) rfl
  queues := .of_eq (h .own fun hp => absurd (hf _ hp) (by decide))
  alerts := .of_keeps h fun hp => absurd (hf _ hp) (by decide)
  keeps := h.more fun p hp => List.mem_append_right _ (hf p hp)

theorem Clears.nothing (s : State) : Clears [] [] [] s s := .of_keeps (f := []) (.start _ s) (by simp)

/-- A disposition that makes the entry `es` or none. -/
theorem dispose_clears {d : Disposition} {e : EntryEffect} (he : (applyEntry e (countDisposition d s)).reprints =
    es.foldl entered s.reprints) (b : LogBody) : Clears [d] es [b] s (dispose d e b s) := by
  have hlogged := dispose_logged d e b s
  constructor
  case counters => exact dispose_counters ..
  case reprints => rw [dispose_reprints, he]
  case took => exact hlogged.took
  case settles => exact dispose_settles steady_zero s d e b
  case queues => exact hlogged.queues
  case alerts => exact hlogged.alerts
  case keeps => exact dispose_keeps (by decide) (.start _ s) d e b

/-- A disposition that creates an entry (R123). -/
theorem createAndDispose_clears (d : Disposition) (seq inc : Nat) (reason : Reason) (b : LogBody) (s : State) :
    Clears [d] [{ seq := seq, inc := inc, reason := reason, state := .open }] [b] s (dispose d (.create seq inc reason) b s) :=
  dispose_clears (s := s) (by exact createEntry_entered seq inc reason (countDisposition d s)) b

/-- Steps for each of a list of places, each seeing at its own place what the state before them held there. -/
theorem Clears.fold {α β : Type} {f : State → α → State} {held : α → State → β} {d : β → List Disposition}
    {e : β → List ReprintEntry} {r : α → β → List LogBody}
    {P : α → Prop} (hf : ∀ t a, P a → Clears (d (held a t)) (e (held a t)) (r a (held a t)) t (f t a))
    (hother : ∀ t a c, P a → c ≠ a → held c (f t a) = held c t) : ∀ (xs : List α), (∀ a ∈ xs, P a) → xs.Nodup → ∀ s : State,
      Clears (xs.flatMap fun a => d (held a s)) (xs.flatMap fun a => e (held a s)) (xs.flatMap fun a => r a (held a s)) s
        (xs.foldl f s)
  | [], _, _, s => .nothing s
  | a :: xs, hall, hnodup, s => by
    obtain ⟨ha, hall⟩ := List.forall_mem_cons.mp hall
    obtain ⟨hnot, hnodup⟩ := List.nodup_cons.mp hnodup
    have hrest := Clears.fold hf hother xs hall hnodup (f s a)
    have heq : ∀ c ∈ xs, held c (f s a) = held c s := fun c hc => hother s a c ha (ne_of_mem_of_not_mem hc hnot)
    have hcongr : ∀ {γ : Type} (g : α → β → List γ), (xs.flatMap fun c => g c (held c (f s a))) =
        xs.flatMap fun c => g c (held c s) := fun g => List.flatMap_congr fun c hc => by rw [heq c hc]
    rw [hcongr fun _ => d, hcongr fun _ => e, hcongr r] at hrest
    exact (hf s a ha).trans hrest

end

/-! ### The pockets (R40) -/

section
variable {d : Disposition}

/-- A collation disposed from a pocket. -/
theorem disposeCollation_clears (hd : d ≠ .handFinish) (c : Collation) (s : State) :
    Clears [d] [c.entry d] [.piece (c.logOf d)] s (disposeCollation d c s) := by
  rw [disposeCollation, if_neg hd]
  exact createAndDispose_clears ..

theorem setCollecting_keeps' (x : Collecting) (s : State) : KeepsAllBut [.collecting] s (setCollecting x s) := by
  intro p hp
  cases p <;> first | rfl | exact absurd (by decide) hp

theorem setStaging_keeps' (x : Option Collation) (s : State) : KeepsAllBut [.staging] s (setStaging x s) := by
  intro p hp
  cases p <;> first | rfl | exact absurd (by decide) hp

theorem disposeStaging_clears (hd : d ≠ .handFinish) (s : State) :
    Clears (s.collation.staging.toList.map fun _ => d) (s.collation.staging.toList.map (Collation.entry d))
      (s.collation.staging.toList.map fun c => .piece (c.logOf d)) s (disposeStaging d s) := by
  unfold disposeStaging
  split
  · next c hc =>
    rw [hc]
    exact (Clears.of_keeps (setStaging_keeps' none s) (by decide)).trans (disposeCollation_clears hd c _)
  · next hc =>
    rw [hc]
    exact .nothing s

theorem disposeCollecting_clears (hd : d ≠ .handFinish) (s : State) :
    Clears (s.collation.collecting.held.map fun _ => d) (s.collation.collecting.held.map (Collation.entry d))
      (s.collation.collecting.held.map fun c => .piece (c.logOf d)) s (disposeCollecting d s) := by
  have hone (c : Collation) : Clears [d] [c.entry d] [.piece (c.logOf d)] s (disposeCollation d c (setCollecting .empty s)) :=
    (Clears.of_keeps (setCollecting_keeps' .empty s) (by decide)).trans (disposeCollation_clears hd c _)
  unfold disposeCollecting
  split
  · next c hc =>
    rw [hc]
    exact hone c
  · next c hc =>
    rw [hc]
    exact hone c
  · next hc =>
    rw [hc]
    exact .nothing s

end

/-! ### The slots (R69) -/

theorem lowerMatchCounts_keeps' (m : SchemeMatch) (s : State) : KeepsAllBut [.pageUse, .groups] s (lowerMatchCounts m s) :=
  lowerMatchCounts_keeps (by decide) (.start _ s) m

/-- The slot of a piece emptied, with the counts of its match lowered. -/
def slotEmptied (n : Nat) (p : Piece) (s : State) : State := lowerMatchCounts p.scheme (putSlot n none s)

theorem removePiece_of_some {d : Disposition} {n : Nat} {p : Piece} {s : State} (h : pieceAt n s = some p) :
    removePiece d n s = disposePiece d none p (slotEmptied n p s) := by
  simp only [removePiece, h, slotEmptied]

theorem removePiece_of_none {d : Disposition} {n : Nat} {s : State} (h : pieceAt n s = none) : removePiece d n s = s := by
  simp only [removePiece, h]

theorem slotEmptied_clears (n : Nat) (p : Piece) (s : State) : Clears [] [] [] s (slotEmptied n p s) :=
  .of_keeps (lowerMatchCounts_keeps (l := [.slots, .pageUse, .groups]) (by decide)
    (putSlot_keeps (by decide) (.start _ s) _ _) _) (by decide)

theorem removePiece_clears {d : Disposition} (hd : d ≠ .handSort) (n : Nat) (s : State) :
    Clears ((pieceAt n s).toList.map fun _ => d) ((pieceAt n s).toList.map (Piece.entry d))
      ((pieceAt n s).toList.map fun p => .piece (p.logOf d none)) s (removePiece d n s) := by
  cases h : pieceAt n s with
  | none =>
    rw [removePiece_of_none h]
    exact .nothing s
  | some p =>
    rw [removePiece_of_some h, disposePiece, if_neg hd]
    exact (slotEmptied_clears n p s).trans (createAndDispose_clears ..)

/-- The pieces in a list of slots, in its order. -/
def piecesAt (xs : List Nat) (s : State) : List Piece := xs.filterMap fun n => pieceAt n s

theorem piecesAt_cons (n : Nat) (xs : List Nat) (s : State) :
    piecesAt (n :: xs) s = (pieceAt n s).toList ++ piecesAt xs s := by
  cases h : pieceAt n s <;> simp [piecesAt, h]

theorem piecesAt_removePiece {n : Nat} {xs : List Nat} (hn : n ∉ xs) (d : Disposition) (s : State) :
    piecesAt xs (removePiece d n s) = piecesAt xs s := by
  refine List.filterMap_congr fun k hk => ?_
  rw [pieceAt_removePiece, if_neg (ne_of_mem_of_not_mem hk hn)]

/-- What it does to remove the pieces `ps` from the track and dispose them. -/
structure Emptied (d : Disposition) (ps : List Piece) (s v : State) : Prop extends
    Clears (ps.map fun _ => d) (ps.map (Piece.entry d)) (ps.map fun p => .piece (p.logOf d none)) s v where
  count : ps.length + pieceCount v = pieceCount s
  pageUse : ∀ k < 32, pageUseAt k v = pageUseAt k s - ps.countP fun p => onPage k p.mark
  refs : ∀ g < 16, (groupAt g v).refs = (groupAt g s).refs - ps.countP fun p => onGroup g p.mark
  groups : GroupsAlike s v

theorem Emptied.nothing (d : Disposition) (s : State) : Emptied d [] s s where
  toClears := .nothing s
  count := Nat.zero_add _
  pageUse _ _ := rfl
  refs _ _ := rfl
  groups _ := rfl

theorem Emptied.trans {d : Disposition} {ps qs : List Piece} {s t u : State} (h : Emptied d ps s t) (h' : Emptied d qs t u) :
    Emptied d (ps ++ qs) s u where
  toClears := by
    simp only [List.map_append]
    exact h.toClears.trans h'.toClears
  count := by
    have := h.count
    have := h'.count
    rw [List.length_append]
    omega
  pageUse k hk := by rw [h'.pageUse k hk, h.pageUse k hk, List.countP_append, Nat.sub_sub]
  refs g hg := by rw [h'.refs g hg, h.refs g hg, List.countP_append, Nat.sub_sub]
  groups g := (h'.groups g).trans (h.groups g)

theorem pieceCount_of_slots {s t : State} (h : t.track.slots = s.track.slots) : pieceCount t = pieceCount s := by
  rw [pieceCount, h, pieceCount]

theorem removePiece_emptied {d : Disposition} (hd : d ≠ .handSort) (n : Nat) (s : State) :
    Emptied d (pieceAt n s).toList s (removePiece d n s) := by
  cases h : pieceAt n s with
  | none =>
    rw [removePiece_of_none h]
    exact .nothing d s
  | some p =>
    have hclears := removePiece_clears hd n s
    rw [h] at hclears
    refine ⟨hclears, ?_, ?_, ?_, ?_⟩
    all_goals rw [removePiece_of_some h]
    all_goals have hk : KeepsAllBut disposeParts (slotEmptied n p s) (disposePiece d none p (slotEmptied n p s)) :=
      disposePiece_keeps (List.Subset.refl _) (.start _ _) d none p
    · have hslots : (slotEmptied n p s).track.slots = (putSlot n none s).track.slots :=
        congrArg TrackUnit.slots (lowerMatchCounts_slots ..)
      rw [pieceCount_of_slots ((hk .slots (by decide)).trans hslots), pieceCount_eq, pieceCount_eq]
      have hperm := (trackMarks_leave h).length_eq
      simp only [trackSeqs, List.length_map, List.length_cons] at hperm ⊢
      simp only [Option.toList_some, List.length_singleton]
      omega
    · intro k hlt
      have hsame : pageUseAt k (disposePiece d none p (slotEmptied n p s)) = pageUseAt k (slotEmptied n p s) := by
        rw [pageUseAt, (hk .pageUse (by decide) : _ = (slotEmptied n p s).sort.pageUse), pageUseAt]
      rw [hsame, slotEmptied, pageUseAt_lowerMatchCounts _ p.job.seq hlt, Option.toList_some, List.countP_singleton]
      rfl
    · intro g hlt
      have hsame : groupAt g (disposePiece d none p (slotEmptied n p s)) = groupAt g (slotEmptied n p s) := by
        rw [groupAt, (hk .groups (by decide) : _ = (slotEmptied n p s).sort.groups), groupAt]
      rw [hsame, slotEmptied, refs_lowerMatchCounts _ p.job.seq hlt, Option.toList_some, List.countP_singleton]
      rfl
    · have hlow : GroupsAlike s (slotEmptied n p s) := lowerMatchCounts_alike p.scheme (putSlot n none s)
      have hsame : GroupsAlike (slotEmptied n p s) (disposePiece d none p (slotEmptied n p s)) :=
        .of_eq (hk .groups (by decide))
      exact fun g => (hsame g).trans (hlow g)

theorem removePieces_emptied {d : Disposition} (hd : d ≠ .handSort) : ∀ (xs : List Nat), xs.Nodup → ∀ s : State,
    Emptied d (piecesAt xs s) s (xs.foldl (fun s n => removePiece d n s) s)
  | [], _, s => .nothing d s
  | n :: xs, hnodup, s => by
    obtain ⟨hnot, hnodup⟩ := List.nodup_cons.mp hnodup
    have hrest := removePieces_emptied hd xs hnodup (removePiece d n s)
    rw [piecesAt_removePiece hnot] at hrest
    rw [piecesAt_cons]
    exact (removePiece_emptied hd n s).trans hrest

/-- A group after its references fell, by what its loads and its count are. -/
theorem groupAt_eq_of_alike {g n : Nat} {s t : State} (ha : GroupsAlike s t) (hn : (groupAt g t).refs = n) :
    groupAt g t = { groupAt g s with refs := n } := by
  have h := ha g
  cases ht : groupAt g t
  rw [ht] at h hn
  simp only [Group.mk.injEq] at h
  obtain ⟨h1, h2, h3, h4, h5⟩ := h
  simp_all

/-- The slots of a range, by the slot queue. -/
theorem piecesAt_range' (s : State) : ∀ n first : Nat,
    piecesAt (List.range' first n) s = ((s.track.slots.drop first).take n).filterMap id
  | 0, first => by simp [piecesAt]
  | n + 1, first => by
    rw [List.range'_succ, piecesAt_cons, piecesAt_range' s n]
    by_cases hlt : first < s.track.slots.length
    · rw [List.drop_eq_getElem_cons hlt, List.take_succ_cons, pieceAt, List.getElem?_eq_getElem hlt]
      cases h : s.track.slots[first] <;> simp
    · have hnone : pieceAt first s = none := by rw [pieceAt, List.getElem?_eq_none (Nat.not_lt.mp hlt)]; rfl
      rw [hnone, List.drop_eq_nil_of_le (Nat.not_lt.mp hlt), List.drop_eq_nil_of_le (by omega)]
      simp

end Sys2Proof.Machine
end


section
/-! CLEAR_SLOTS (10, R36, R40, R69, R147, R156). -/

namespace Sys2Proof.Machine

theorem evalPermit_clears' (s : State) : Clears [] [] [] s (evalPermit s) := by
  have hk : KeepsAllBut permitParts s (evalPermit s) := evalPermit_keeps (List.Subset.refl _) (.start _ s)
  have hlogged := evalPermit_logged s
  exact ⟨hk.counters_eq (by decide), hk.reprints_eq (by decide), hlogged.took, evalPermit_settles' steady_zero s,
    hlogged.queues, hlogged.alerts, hk.more (by decide)⟩

/-! ### The operands (R156, R170) -/

/-- The operands of a CLEAR_SLOTS that names something on the track (R156). -/
def ClearNames (length : Nat) (flag first last pockets : Byte) : Prop :=
  ((flag = 1 ∧ first.toNat ≤ last.toNat ∧ last.toNat < length) ∨ (flag = 0 ∧ pockets ≠ 0)) ∧ pockets.toNat ≤ 3

/-- What the operands of a CLEAR_SLOTS name (R170). -/
def namedBy (flag first last pockets : Byte) : ClearOperands :=
  { range := if flag = 1 then some (first.toNat, last.toNat) else none,
    staging := decide (pockets = 1 ∨ pockets = 3), collecting := decide (pockets = 2 ∨ pockets = 3) }

section
variable {length : Nat} {flag first last pockets : Byte}

theorem readClear_four (length : Nat) (flag first last pockets : Byte) : readClear length [flag, first, last, pockets] =
    if flag.toNat ≤ 1 ∧ pockets.toNat ≤ 3 ∧ (flag.toNat = 1 ∨ pockets.toNat ≠ 0) ∧
        (flag.toNat = 0 ∨ first.toNat ≤ last.toNat ∧ last.toNat < length) then
      some { range := if flag.toNat = 1 then some (first.toNat, last.toNat) else none,
             staging := pockets.toNat % 2 == 1, collecting := decide (2 ≤ pockets.toNat) }
    else none := by
  simp [readClear, field_one, byteAt, and_assoc]

theorem readClear_of_names (h : ClearNames length flag first last pockets) :
    readClear length [flag, first, last, pockets] = some (namedBy flag first last pockets) := by
  obtain ⟨hrange, hpockets⟩ := h
  have hp : pockets = 0 ∨ pockets = 1 ∨ pockets = 2 ∨ pockets = 3 := by bv_omega
  rw [readClear_four, if_pos]
  · obtain ⟨rfl, -, -⟩ | ⟨rfl, -⟩ := hrange <;> obtain rfl | rfl | rfl | rfl := hp <;> rfl
  · obtain ⟨rfl, h1, h2⟩ | ⟨rfl, h0⟩ := hrange
    · exact ⟨by decide, hpockets, .inl rfl, .inr ⟨h1, h2⟩⟩
    · exact ⟨by decide, hpockets, .inr fun h => h0 (BitVec.eq_of_toNat_eq h), .inl rfl⟩

theorem readClear_of_bad (h : flag = 0 ∧ pockets = 0 ∨ flag = 1 ∧ (last.toNat < first.toNat ∨ length ≤ last.toNat) ∨
    1 < flag.toNat ∨ 3 < pockets.toNat) : readClear length [flag, first, last, pockets] = none := by
  rw [readClear_four, if_neg]
  rintro ⟨h1, h2, h3, h4⟩
  obtain ⟨rfl, rfl⟩ | ⟨rfl, h⟩ | h | h := h
  · simp at h3
  · simp at h4
    omega
  · omega
  · omega

theorem readClear_of_length {operands : List Byte} (h : operands.length ≠ 4) : readClear length operands = none := by
  simp [readClear, h]

end

/-! ### The pockets (R36, R40) -/

/-- The collations that a CLEAR_SLOTS disposes, staging first. -/
def namedCollations (c : ClearOperands) (s : State) : List Collation :=
  (if c.staging then s.collation.staging.toList else []) ++ (if c.collecting then s.collation.collecting.held else [])

theorem moveToStaging_clears (s : State) : Clears [] [] [] s (moveToStaging s) :=
  .of_keeps (moveToStaging_keeps (l := [.collecting, .staging]) (List.Subset.refl _) (.start _ s)) (by decide)

section
variable {c : ClearOperands} {s : State}

theorem clearNamedPockets_clears (c : ClearOperands) (s : State) :
    Clears ((namedCollations c s).map fun _ => .cleared) ((namedCollations c s).map (Collation.entry .cleared))
      ((namedCollations c s).map fun x => .piece (x.logOf .cleared)) s (clearNamedPockets c s) := by
  have hstaging : Clears ((if c.staging then s.collation.staging.toList else []).map fun _ => .cleared)
      ((if c.staging then s.collation.staging.toList else []).map (Collation.entry .cleared))
      ((if c.staging then s.collation.staging.toList else []).map fun x => .piece (x.logOf .cleared)) s
      (if c.staging then disposeStaging .cleared s else s) := by
    split
    · exact disposeStaging_clears (by decide) s
    · exact .nothing s
  have hsame : (if c.staging then disposeStaging .cleared s else s).collation.collecting = s.collation.collecting := by
    split
    · rw [disposeStaging_collation]
    · rfl
  have hcollecting : ∀ t : State, Clears ((if c.collecting then t.collation.collecting.held else []).map fun _ => .cleared)
      ((if c.collecting then t.collation.collecting.held else []).map (Collation.entry .cleared))
      ((if c.collecting then t.collation.collecting.held else []).map fun x => .piece (x.logOf .cleared)) t
      (if c.collecting then disposeCollecting .cleared t else t) := fun t => by
    split
    · exact disposeCollecting_clears (by decide) t
    · exact .nothing t
  have hboth := hstaging.trans (hcollecting _)
  rw [hsame] at hboth
  simp only [← List.map_append] at hboth
  unfold clearNamedPockets
  dsimp only
  split
  · have := hboth.trans (moveToStaging_clears _)
    simp only [List.append_nil] at this
    exact this
  · exact hboth

/-- The pockets after a CLEAR_SLOTS: a COMPLETE collation moves into a staging pocket that alone was named (R36, R156). -/
theorem clearNamedPockets_collation (c : ClearOperands) (s : State) : (clearNamedPockets c s).collation =
    match c.staging, c.collecting with
    | false, false => s.collation
    | true, false =>
      (match s.collation.collecting with
       | .complete x => { s.collation with collecting := .empty, staging := some x }
       | _ => { s.collation with staging := none })
    | false, true => { s.collation with collecting := .empty }
    | true, true => { s.collation with collecting := .empty, staging := none } := by
  obtain ⟨_, staging, collecting⟩ := c
  cases staging <;> cases collecting
  · rfl
  · exact disposeCollecting_collation ..
  · change (moveToStaging (disposeStaging .cleared s)).collation = _
    have h := disposeStaging_collation .cleared s
    simp only [moveToStaging, h]
    cases hc : s.collation.collecting <;> simp [setCollecting, setStaging, State.setCollation, h, hc]
  · change (disposeCollecting .cleared (disposeStaging .cleared s)).collation = _
    rw [disposeCollecting_collation, disposeStaging_collation]

theorem collationsCleared_eq (c : ClearOperands) (s : State) : collationsCleared c s = (namedCollations c s).length := by
  obtain ⟨_, staging, collecting⟩ := c
  unfold collationsCleared namedCollations
  cases staging <;> cases collecting <;> cases s.collation.staging <;> cases s.collation.collecting <;> rfl

theorem pocketCount_eq_held (s : State) : pocketCount s =
    s.collation.collecting.held.length + s.collation.staging.toList.length := by
  unfold pocketCount
  cases s.collation.collecting <;> cases s.collation.staging <;> rfl

/-- The collations cleared and those left are those that the pockets held. -/
theorem clearNamedPockets_count (c : ClearOperands) (s : State) :
    (namedCollations c s).length + pocketCount (clearNamedPockets c s) = pocketCount s := by
  have h := clearNamedPockets_collation c s
  rw [pocketCount_eq_held, pocketCount_eq_held, h]
  obtain ⟨_, staging, collecting⟩ := c
  unfold namedCollations
  cases staging <;> cases collecting <;> cases s.collation.staging <;> cases hc : s.collation.collecting <;>
    simp [hc, Collecting.held]

end

/-! ### The slots (R69) -/

/-- The pieces that a CLEAR_SLOTS removes, from the first slot to the last. -/
def namedPieces (c : ClearOperands) (s : State) : List Piece :=
  match c.range with
  | some (first, last) => piecesAt (List.range' first (last + 1 - first)) s
  | none => []

theorem piecesAt_of_slots {s t : State} (h : t.track.slots = s.track.slots) (xs : List Nat) : piecesAt xs t = piecesAt xs s := by
  simp only [piecesAt, pieceAt, h]

theorem namedPieces_of_slots {s t : State} (h : t.track.slots = s.track.slots) (c : ClearOperands) :
    namedPieces c t = namedPieces c s := by
  unfold namedPieces
  split
  · exact piecesAt_of_slots h _
  · rfl

theorem clearNamedSlots_emptied (c : ClearOperands) (s : State) : Emptied .cleared (namedPieces c s) s (clearNamedSlots c s) := by
  obtain ⟨_ | ⟨first, last⟩, staging, collecting⟩ := c
  · exact .nothing .cleared s
  · exact removePieces_emptied (d := .cleared) (by decide) _ List.nodup_range' s

theorem piecesCleared_eq (c : ClearOperands) (s : State) : piecesCleared c s = (namedPieces c s).length := by
  obtain ⟨_ | ⟨first, last⟩, staging, collecting⟩ := c
  · rfl
  · exact (List.length_filterMap_eq_countP ..).symm

theorem pieceAt_clearNamedSlots (c : ClearOperands) (k : Nat) (s : State) : pieceAt k (clearNamedSlots c s) =
    if (∃ r, c.range = some r ∧ r.1 ≤ k ∧ k ≤ r.2) then none else pieceAt k s := by
  unfold clearNamedSlots
  split
  · next first last h =>
    rw [clearRange, pieceAt_removePieces]
    refine if_congr ?_ rfl rfl
    rw [h, List.mem_range'_1]
    simp
    omega
  · next h => simp [h]

theorem namedPieces_namedBy (flag first last pockets : Byte) (s : State) :
    namedPieces (namedBy flag first last pockets) s =
      if flag = 1 then ((s.track.slots.take (last.toNat + 1)).drop first.toNat).filterMap id else [] := by
  unfold namedPieces namedBy
  by_cases h : flag = 1
  · simp only [h, if_true]
    rw [piecesAt_range', List.drop_take]
  · simp only [h, if_false]

theorem namedCollations_namedBy (flag first last pockets : Byte) (s : State) :
    namedCollations (namedBy flag first last pockets) s =
      (if pockets = 1 ∨ pockets = 3 then s.collation.staging.toList else []) ++
        (if pockets = 2 ∨ pockets = 3 then s.collation.collecting.held else []) := by
  simp only [namedCollations, namedBy, decide_eq_true_eq]

/-! ### The work (R156) -/

/-- What a CLEAR_SLOTS does before the feed permit is evaluated again. -/
def clearNamed (c : ClearOperands) (s : State) : State := clearNamedSlots c (clearNamedPockets c s)

/-- The work of CLEAR_SLOTS. -/
def clearWork (c : ClearOperands) (s : State) : State := evalPermit (clearNamed c s)

section
variable {c : ClearOperands} {s : State}

theorem clearNamedPockets_keeps' (c : ClearOperands) (s : State) :
    KeepsAllBut (disposeParts ++ [.collecting, .staging]) s (clearNamedPockets c s) :=
  clearNamedPockets_keeps (List.Subset.refl _) (.start _ s) c

theorem clearNamed_emptied (c : ClearOperands) (s : State) :
    Emptied .cleared (namedPieces c s) (clearNamedPockets c s) (clearNamed c s) := by
  have h := clearNamedSlots_emptied c (clearNamedPockets c s)
  rwa [namedPieces_of_slots (clearNamedPockets_keeps' c s .slots (by decide))] at h

/-- The parts that the evaluation of the feed permit leaves. -/
theorem clearWork_keeps (c : ClearOperands) (s : State) : KeepsAllBut permitParts (clearNamed c s) (clearWork c s) :=
  evalPermit_keeps (List.Subset.refl _) (.start _ _)

theorem clearWork_clears (c : ClearOperands) (s : State) :
    Clears ((namedCollations c s).map (fun _ => .cleared) ++ (namedPieces c s).map fun _ => .cleared)
      ((namedCollations c s).map (Collation.entry .cleared) ++ (namedPieces c s).map (Piece.entry .cleared))
      (((namedCollations c s).map fun x => .piece (x.logOf .cleared)) ++
        (namedPieces c s).map fun p => .piece (p.logOf .cleared none)) s (clearWork c s) := by
  have h := ((clearNamedPockets_clears c s).trans (clearNamed_emptied c s).toClears).trans (evalPermit_clears' _)
  simp only [List.append_nil] at h
  exact h

theorem clearWork_counters (c : ClearOperands) (hle : s.line.counters.cleared ≤ 16777215) :
    (clearWork c s).line.counters = { s.line.counters with
      cleared := min 16777215 (s.line.counters.cleared + (namedCollations c s).length + (namedPieces c s).length) } := by
  rw [(clearWork_clears c s).counters, Counters.bumpAll_append, Counters.bumpAll_map, Counters.bumpAll_map,
    ← Function.iterate_add_apply, Nat.add_comm (List.length _), Nat.add_assoc]
  exact bump_iterate (get := (·.cleared)) (set := fun c n => { c with cleared := n }) (fun _ => rfl) (fun _ _ => rfl)
    (fun _ _ _ => rfl) (fun _ => rfl) _ _ hle

theorem pageUseAt_of_keeps {l : List Part} {s t : State} (h : KeepsAllBut l s t) (hl : Part.pageUse ∉ l) (k : Nat) :
    pageUseAt k t = pageUseAt k s := by
  have hsame : t.sort.pageUse = s.sort.pageUse := h .pageUse hl
  rw [pageUseAt, hsame, pageUseAt]

theorem groupAt_of_keeps {l : List Part} {s t : State} (h : KeepsAllBut l s t) (hl : Part.groups ∉ l) (g : Nat) :
    groupAt g t = groupAt g s := by
  have hsame : t.sort.groups = s.sort.groups := h .groups hl
  rw [groupAt, hsame, groupAt]

theorem pieceAt_of_keeps {l : List Part} {s t : State} (h : KeepsAllBut l s t) (hl : Part.slots ∉ l) (n : Nat) :
    pieceAt n t = pieceAt n s := by
  have hsame : t.track.slots = s.track.slots := h .slots hl
  rw [pieceAt, hsame, pieceAt]

theorem collation_of_keeps {l : List Part} {s t : State} (h : KeepsAllBut l s t)
    (hl : ∀ p ∈ ([.collecting, .staging, .strays, .sheetLimit, .strayLimit] : List Part), p ∉ l) : t.collation = s.collation := by
  have h1 : t.collation.collecting = s.collation.collecting := h .collecting (hl _ (by decide))
  have h2 : t.collation.staging = s.collation.staging := h .staging (hl _ (by decide))
  have h3 : t.collation.strays = s.collation.strays := h .strays (hl _ (by decide))
  have h4 : t.collation.sheetLimit = s.collation.sheetLimit := h .sheetLimit (hl _ (by decide))
  have h5 : t.collation.strayLimit = s.collation.strayLimit := h .strayLimit (hl _ (by decide))
  cases ht : t.collation
  cases hs : s.collation
  simp_all

theorem clearWork_pageUse (c : ClearOperands) {k : Nat} (hk : k < 32) : pageUseAt k (clearWork c s) =
    pageUseAt k s - (namedPieces c s).countP fun p => p.scheme.entry.map (· / 16) == some k := by
  rw [pageUseAt_of_keeps (clearWork_keeps c s) (by decide), (clearNamed_emptied c s).pageUse k hk,
    pageUseAt_of_keeps (clearNamedPockets_keeps' c s) (by decide)]
  rfl

theorem clearWork_groups (c : ClearOperands) {g : Nat} (hg : g < 16) : groupAt g (clearWork c s) =
    { groupAt g s with refs := (groupAt g s).refs - (namedPieces c s).countP fun p => p.scheme.group == g } := by
  have h := clearNamed_emptied c s
  rw [groupAt_of_keeps (clearWork_keeps c s) (by decide), groupAt_eq_of_alike h.groups (h.refs g hg),
    groupAt_of_keeps (clearNamedPockets_keeps' c s) (by decide)]
  rfl

theorem clearWork_collation (c : ClearOperands) (s : State) : (clearWork c s).collation = (clearNamedPockets c s).collation := by
  have h : KeepsAllBut (disposeParts ++ ([.slots, .pageUse, .groups] : List Part)) (clearNamedPockets c s) (clearWork c s) :=
    evalPermit_keeps (by decide) (clearNamedSlots_keeps (by decide) (.start _ _) c)
  exact collation_of_keeps h (by decide)

theorem clearWork_slots (c : ClearOperands) (s : State) : (clearWork c s).track.slots = (clearNamed c s).track.slots :=
  clearWork_keeps c s .slots (by decide)

theorem clearWork_keeps_all (c : ClearOperands) (s : State) :
    KeepsAllBut (disposeParts ++ [.collecting, .staging, .slots, .pageUse, .groups]) s (clearWork c s) :=
  evalPermit_keeps (by decide) (clearNamedSlots_keeps (by decide) (clearNamedPockets_keeps (by decide) (.start _ s) c) c)

end

/-! ### The request (R147, R156) -/

section
variable {operands : List Byte} {tag : Byte} {s : State}

theorem clearSlotsRequest_of_some {c : ClearOperands} (hs : s.line.state = .jammed)
    (hread : readClear s.track.length operands = some c) : clearSlotsRequest tag operands s =
      sendAnswer tag .ok [byteOf (namedCollations c s).length, byteOf (namedPieces c s).length] (clearWork c s) := by
  rw [clearSlotsRequest, if_pos hs]
  simp only [hread, collationsCleared_eq, piecesCleared_eq]
  rfl

theorem clearSlotsRequest_of_none (hs : s.line.state = .jammed) (hread : readClear s.track.length operands = none) :
    clearSlotsRequest tag operands s = sendAnswer tag .range [] s := by
  rw [clearSlotsRequest, if_pos hs]
  simp only [hread]

theorem clearSlotsRequest_of_ne (hs : s.line.state ≠ .jammed) :
    clearSlotsRequest tag operands s = sendAnswer tag .state [] s := if_neg hs

end

/-- Settles O28: the pockets and then the slots are cleared, each by the lemma about its disposition. -/
theorem clearSlotsEmptiesWhatItNames : Obligations.ClearSlotsEmptiesWhatItNames := by
  refine ⟨fun h tag flag first last pockets s hc => ⟨fun hs hnames hpockets hle => ?_, fun hs => ?_, fun hs hbad => ?_⟩,
    fun h tag operands s hc hlen => ?_⟩
  · have hread := readClear_of_names (length := s.track.length) ⟨hnames, hpockets⟩
    have hcleared := clearWork_clears (namedBy flag first last pockets) s
    have hcount := (clearNamed_emptied (namedBy flag first last pockets) s).count
    have hsettled : Settled s := .inl (by rw [hs]; decide)
    have hcollation := (clearWork_collation (namedBy flag first last pockets) s).trans (clearNamedPockets_collation _ s)
    simp only [← namedPieces_namedBy flag first last pockets, ← namedCollations_namedBy flag first last pockets]
    refine ⟨clearWork (namedBy flag first last pockets) s, take_request_answered hc (clearSlotsRequest_of_some hs hread),
      fun k => ?_, ?_, ?_, ?_, ?_, ?_, ?_, clearWork_counters _ hle, hcleared.reprints, hcleared.took,
      fun k hk => clearWork_pageUse _ hk, fun g hg => clearWork_groups _ hg,
      (hcleared.settles.stations hsettled).mono fun hroom _ => ?_, hcleared.alerts, clearWork_keeps_all _ s⟩
    · rw [pieceAt_of_keeps (clearWork_keeps _ s) (by decide), clearNamed, pieceAt_clearNamedSlots,
        pieceAt_of_keeps (clearNamedPockets_keeps' _ s) (by decide)]
      refine if_congr ?_ rfl rfl
      by_cases hf : flag = 1 <;> simp [namedBy, hf]
    · rwa [pieceCount_of_slots (clearWork_slots _ s), ← pieceCount_of_slots (clearNamedPockets_keeps' _ s .slots (by decide))]
    · rw [pocketCount, clearWork_collation]
      exact clearNamedPockets_count _ s
    · rintro rfl
      exact hcollation
    · rintro rfl
      exact hcollation
    · rintro rfl
      exact hcollation
    · rintro rfl
      exact hcollation
    · have := quota_le s
      omega
  · exact take_request_answered hc (clearSlotsRequest_of_ne hs)
  · exact take_request_answered hc (clearSlotsRequest_of_none hs (readClear_of_bad hbad))
  · split
    · next hs => exact take_request_answered hc (clearSlotsRequest_of_none hs (readClear_of_length hlen))
    · next hs => exact take_request_answered hc (clearSlotsRequest_of_ne hs)

end Sys2Proof.Machine
end


section
/-! The end of the intake (10, R12, R16, R141, R151, R153): the log is asked, the ending flag set and the queue given up, and what
the log, the own-frame queue, the stations and the alerts take of what follows. -/

namespace Sys2Proof.Machine

/-! ### Steps after the intake has ended -/

/-- Steps that ask the log for the records `l` and, once the feed permit cannot come on, queue the frames still to come only. -/
structure Flows (l : List LogBody) (s t : State) : Prop where
  took : LogTookAll l s t
  flow : SettlesFlow s t
  alerts : AlertsKeptBut [.reserve, .station] s t

section
variable {l m : List LogBody} {ds : List Disposition} {es : List ReprintEntry} {s t u : State}

theorem Flows.trans (h : Flows l s t) (h' : Flows m t u) : Flows (l ++ m) s u where
  took := h.took.append h'.took
  flow := h.flow.trans h'.flow
  alerts := h.alerts.trans h'.alerts

/-- The RECORD_GO still to come is the same while the held flag is. -/
theorem Settles.gosLeft (h : Settles (fun _ => 0) s t) (hheld : t.channel.held = s.channel.held) :
    Settles Machine.gosLeft s t where
  settled := h.settled
  permit := h.permit
  le hs := by
    have := h.le hs
    simp only [Machine.gosLeft, hheld]
    omega
  stations hs := (h.stations hs).mono fun hr hp => by
    have := hr hp
    omega

theorem Clears.flows (h : Clears ds es l s t) : Flows l s t where
  took := h.took
  flow := by
    have hheld : t.channel.held = s.channel.held := h.keeps .held (by decide)
    exact (h.settles.gosLeft hheld).flow h.queues hheld (h.keeps .supervisor (by decide))
  alerts := h.alerts

theorem Removes.flows {d : Disposition} {body : JobRecord → LogBody}
    {entries : List ReprintEntry → JobRecord → List ReprintEntry} {rs : List JobRecord}
    (h : Removes d body entries rs s t) : Flows (rs.map body) s t := ⟨h.took, h.flow, h.alerts⟩

theorem writeLog_flows (b : LogBody) (s : State) : Flows [b] s (writeLog b s) :=
  ⟨(writeLog_wrote b s).took, writeLog_flow b s, (writeLog_wrote b s).alerts⟩

theorem stateMoved_flow {st : RunState} (hst : st ≠ .running) (reason : Option StopReason) (s : State) :
    SettlesFlow s (stateMoved st reason s) := by
  have hsettles : Settles gosLeft s (stateMoved st reason s) :=
    ⟨fun _ => .inl hst, fun _ hp => hp, fun _ => le_rfl, fun _ => .of_eq rfl rfl⟩
  exact hsettles.flow (.of_eq rfl) rfl rfl

theorem enterState_flows {st : RunState} (hst : st ≠ .running) (reason : Option StopReason) (s : State) :
    Flows [] s (enterState st reason s) := by
  have hk := enterState_keeps (List.Subset.refl stateParts) (.start _ s) st reason
  refine ⟨⟨hk.log_eq (by decide) (by decide) (by decide) (by decide), enterState_alerts _ _ _ (by decide)⟩, ?_,
    (enterState_alertsKept _ _ _).more (by decide)⟩
  rw [enterState_eq]
  exact (stateMoved_flow hst reason s).trans (evalPermit_flow _)

end

/-! ### The ending flag (R151, R153) -/

/-- The log is asked for the record `b` and the ending flag set, so that the feed permit falls. -/
structure IntakeEnds (b : LogBody) (s a : State) : Prop where
  ending : a.line.ending = true
  permit : a.line.permit = false
  took : LogTookAll [b] s a
  queues : Queues [19, 9] s a
  grows : a.ring.own.length ≤ s.ring.own.length + 2
  stations : StationsKept id (s.ring.own.length + 2 ≤ 32) s a
  alerts : AlertsKeptBut [.reserve, .station] s a
  keeps : KeepsAllBut (writeParts ++ [.ending, .drive]) s a

/-- The ending flag set after a write request and a change of DRIVE_RUN. -/
theorem setEnding_ends {b : LogBody} {s t : State} (h : KeepsAllBut [.drive] (writeLog b s) t) :
    IntakeEnds b s (setEnding t) := by
  have hwrote := writeLog_wrote b s
  have hset : KeepsAllBut [.ending, .drive] (writeLog b s) (t.setLine { t.line with ending := true }) :=
    State.setLine_keeps (f := [.ending]) (by decide) (h.more (by decide)) _ (by
      intro p hp
      cases p <;> first | rfl | exact absurd (List.mem_cons_self ..) hp)
  have hnothing : Logged [] 0 (writeLog b s) (t.setLine { t.line with ending := true }) := .of_keeps hset (by decide)
  have hboth : Logged [b] 2 s (setEnding t) := hwrote.logged.trans (hnothing.trans (evalPermit_logged _))
  have hsettled : Settled (setEnding t) := .inr (setEnding_ending t)
  constructor
  case ending => exact setEnding_ending t
  case permit =>
    rw [setEnding, evalPermit_permit]
    exact hsettled.conditions
  case took => exact hboth.took
  case queues => exact hboth.queues
  case grows => exact hboth.grows.length_le
  case stations => exact hboth.stations.mono .inl
  case alerts => exact hboth.alerts
  case keeps =>
    exact setEnding_keeps (by decide) ((writeLog_keeps (by decide) (.start _ s) b).trans (h.more (by decide)))

section
variable {b : LogBody} {l : List LogBody} {s a v : State}

theorem IntakeEnds.settled (h : IntakeEnds b s a) : Settled a := .inr h.ending

theorem IntakeEnds.permit_off (h : IntakeEnds b s a) (h' : Flows l a v) : v.line.permit = false := by
  rw [Bool.eq_false_iff]
  intro hp
  have := h'.flow.permit h.settled hp
  rw [h.permit] at this
  cases this

theorem IntakeEnds.tookAll (h : IntakeEnds b s a) (h' : Flows l a v) : LogTookAll (b :: l) s v := h.took.append h'.took

theorem IntakeEnds.stationsAll (h : IntakeEnds b s a) (h' : Flows l a v) :
    StationsKept id (s.ring.own.length + 2 ≤ 32) s v :=
  h.stations.trans (h'.flow.stations h.settled) id fun _ hp => by
    rw [h.permit] at hp
    cases hp

theorem IntakeEnds.alertsAll (h : IntakeEnds b s a) (h' : Flows l a v) : AlertsKeptBut [.reserve, .station] s v :=
  h.alerts.trans h'.alerts

/-- RECORD_GO is queued with the clearing of the held flag (R16). -/
theorem IntakeEnds.goes (h : IntakeEnds b s a) (h' : Flows l a v) (h0 : s.supervisor ≠ 0) (h63 : s.supervisor ≠ 63)
    (hroom : s.ring.own.length + 4 ≤ 32) : recordGoes s.ring.own.length v =
      if s.channel.held = true ∧ v.channel.held = false then [⟨s.supervisor, .recordGo⟩] else [] := by
  have hsup : a.supervisor = s.supervisor := h.keeps .supervisor (by decide)
  have hheld : a.channel.held = s.channel.held := h.keeps .held (by decide)
  have hle : s.ring.own.length ≤ a.ring.own.length := h.queues.own_le
  have hquota : quota a + gosLeft a ≤ 32 := by
    have h1 := quota_le_of_permit h.permit
    have h2 := gosLeft_le a
    have h3 := h.grows
    omega
  have hgoes := h'.flow.goes h.settled (hsup ▸ h0) (hsup ▸ h63) hquota _ hle
  rwa [h.queues.recordGoes_eq (by decide) (Nat.le_refl _), recordGoes_self, List.nil_append, hheld, hsup] at hgoes

end

/-! ### The queue given up (R12) -/

/-- The queue is emptied, its records `l` disposed UNFED. -/
abbrev Unfeeds (l : List JobRecord) (s v : State) : Prop :=
  Removes .unfed (fun r => .unfed r.seq r.inc) unfedEntries l s v

theorem evalPermit_unfeeds (s : State) : Unfeeds [] s (evalPermit s) := by
  have hk : KeepsAllBut permitParts s (evalPermit s) := evalPermit_keeps (List.Subset.refl _) (.start _ s)
  have hlogged := evalPermit_logged s
  have hheld : (evalPermit s).channel.held = s.channel.held := hk .held (by decide)
  exact ⟨(hk.records_eq (by decide)).symm, hk.counters_eq (by decide), hk.reprints_eq (by decide), hlogged.took,
    by simp [hheld], evalPermit_flow s, hlogged.alerts, hk.more (by decide)⟩

theorem unfedRecord_unfeeds {r : JobRecord} {rest : List JobRecord} {s : State} (hr : s.queue.records = r :: rest) :
    Unfeeds [r] s (unfedRecord r s) := by
  refine removes_one _ hr ?_
  have hsame : (countDisposition .unfed (removeHead s)).reprints = s.reprints := (removeHead_keeps' s).reprints_eq (by decide)
  rw [unfedEntries]
  split
  · rw [← hsame]
    rfl
  · exact hsame

theorem unfedRecords_unfeeds : ∀ (l : List JobRecord) (s : State), s.queue.records = l →
    Unfeeds l s (l.foldl (fun s r => unfedRecord r s) s)
  | [], s, _ => .nothing s
  | r :: l, s, hs => by
    have hone := unfedRecord_unfeeds hs
    have hrest : (unfedRecord r s).queue.records = l := by rw [unfedRecord_records, hs, List.tail_cons]
    exact hone.trans (unfedRecords_unfeeds l _ hrest)

theorem unfedAll_unfeeds (s : State) : Unfeeds s.queue.records s (unfedAll s) := by
  have h := (unfedRecords_unfeeds _ s rfl).trans (evalPermit_unfeeds _)
  rw [List.append_nil] at h
  exact h

section
variable {s v : State}

theorem Unfeeds.held_eq (h : Unfeeds s.queue.records s v) :
    v.channel.held = (s.channel.held && s.queue.records.isEmpty) := by
  have hempty : v.queue.records = [] := by simpa using h.records
  rw [h.held, hempty]
  simp

theorem Unfeeds.counters_eq {l : List JobRecord} (h : Unfeeds l s v) (hle : s.line.counters.unfed ≤ 16777215) :
    v.line.counters = { s.line.counters with unfed := min 16777215 (s.line.counters.unfed + l.length) } := by
  rw [h.counters]
  exact bump_iterate (get := (·.unfed)) (set := fun c n => { c with unfed := n }) (fun _ => rfl) (fun _ _ => rfl)
    (fun _ _ _ => rfl) (fun _ => rfl) _ _ hle

end

end Sys2Proof.Machine
end


section
/-! FLUSH (10, R12, R35, R36, R39, R151, R152). -/

namespace Sys2Proof.Machine

/-! ### The flights of all bins -/

theorem bins_toList (s : State) : s.sort.bins.toList = (List.range 32).map fun b => binAt b s := by
  refine List.ext_getElem (by simp) fun b hb _ => ?_
  have hlt : b < 32 := by simpa using hb
  simp [binAt, Vector.getElem?_eq_getElem hlt]

theorem flightTotal_eq_sum (s : State) : flightTotal s = ((List.range 32).map fun b => (binAt b s).flights.length).sum := by
  rw [flightTotal, bins_toList, List.map_map]
  rfl

theorem flightTotal_of_flights {s t : State} (h : ∀ b, (binAt b t).flights = (binAt b s).flights) :
    flightTotal t = flightTotal s := by
  simp only [flightTotal_eq_sum, h]

/-! ### The collecting pocket (R39) -/

/-- A collation disposed HAND_FINISH makes no entry (R123). -/
theorem finishCollation_clears (c : Collation) (s : State) :
    Clears [.handFinish] [] [.piece (c.logOf .handFinish)] s (disposeCollation .handFinish c s) :=
  dispose_clears (s := s) rfl _

theorem endCollation_of_handFinish {c : Collation} {s : State} (h : c.handFinish = true) (hs : s.line.state ≠ .draining) :
    endCollation c s = disposeCollation .handFinish c (setCollecting .empty s) := by
  have hk : KeepsAllBut (.collecting :: disposeParts) s (disposeCollation .handFinish c (setCollecting .empty s)) :=
    disposeCollation_keeps (by decide) ((setCollecting_keeps' .empty s).more (by decide)) _ _
  rw [endCollation, if_pos h, drainCheck_of_not_completes]
  exact fun hdone => hs ((hk.state_eq (by decide)).symm.trans hdone.1)

theorem endCollation_of_normal {c : Collation} (h : c.handFinish = false) (s : State) :
    endCollation c s = moveToStaging (setCollecting (.complete c) s) := by
  rw [endCollation, if_neg (by simp [h])]

section
variable {s : State}

theorem flushPocket_clears (hs : s.line.state ≠ .draining) : Clears ((finishedByFlush s).map fun _ => .handFinish) []
    ((finishedByFlush s).map fun c => .piece (c.logOf .handFinish)) s (flushPocket s) := by
  unfold flushPocket finishedByFlush
  cases hc : s.collation.collecting with
  | empty => exact .nothing s
  | complete c => exact .nothing s
  | collecting c =>
    change Clears _ _ _ s (endCollation (c.addFault .missingPage) s)
    cases hf : c.handFinish with
    | true =>
      rw [endCollation_of_handFinish (c := c.addFault .missingPage) hf hs]
      simp only [hf, if_true]
      exact (Clears.of_keeps (setCollecting_keeps' .empty s) (by decide)).trans (finishCollation_clears _ _)
    | false =>
      rw [endCollation_of_normal (c := c.addFault .missingPage) hf]
      simp only [hf, Bool.false_eq_true, if_false]
      exact (Clears.of_keeps (setCollecting_keeps' _ s) (by decide)).trans (moveToStaging_clears _)

/-- The pockets after a FLUSH (R36, R39). -/
def flushedPockets (x : CollationUnit) : CollationUnit :=
  match x.collecting, x.staging with
  | .collecting c, none =>
    if c.handFinish then { x with collecting := .empty }
    else { x with collecting := .empty, staging := some { c with faults := addOnce .missingPage c.faults } }
  | .collecting c, some _ =>
    if c.handFinish then { x with collecting := .empty }
    else { x with collecting := .complete { c with faults := addOnce .missingPage c.faults } }
  | _, _ => x

theorem flushPocket_collation (hs : s.line.state ≠ .draining) : (flushPocket s).collation = flushedPockets s.collation := by
  unfold flushPocket flushedPockets
  cases hc : s.collation.collecting with
  | empty => rfl
  | complete c => rfl
  | collecting c =>
    change (endCollation (c.addFault .missingPage) s).collation = _
    cases hf : c.handFinish with
    | true =>
      rw [endCollation_of_handFinish (c := c.addFault .missingPage) hf hs, disposeCollation_collation]
      cases hst : s.collation.staging <;> simp [hst, hf, setCollecting]
    | false =>
      rw [endCollation_of_normal (c := c.addFault .missingPage) hf]
      cases hst : s.collation.staging <;>
        simp [hst, hf, moveToStaging, setCollecting, setStaging, State.setCollation, Collation.addFault]

theorem flushedPockets_collecting (x : CollationUnit) (c : Collation) : (flushedPockets x).collecting ≠ .collecting c := by
  obtain ⟨collecting, staging, _, _, _⟩ := x
  unfold flushedPockets
  cases collecting <;> cases staging <;> simp <;> split <;> simp

theorem flushPocket_keeps' (hs : s.line.state ≠ .draining) :
    KeepsAllBut (disposeParts ++ [.collecting, .staging]) s (flushPocket s) := by
  unfold flushPocket
  cases hc : s.collation.collecting with
  | empty => exact .start _ s
  | complete c => exact .start _ s
  | collecting c =>
    change KeepsAllBut _ s (endCollation (c.addFault .missingPage) s)
    cases hf : c.handFinish with
    | true =>
      rw [endCollation_of_handFinish (c := c.addFault .missingPage) hf hs]
      exact disposeCollation_keeps (by decide) ((setCollecting_keeps' .empty s).more (by decide)) _ _
    | false =>
      rw [endCollation_of_normal (c := c.addFault .missingPage) hf]
      exact moveToStaging_keeps (by decide) ((setCollecting_keeps' _ s).more (by decide))

end

/-! ### The steps up to the check (R151) -/

/-- The ending flag set, with RUN FLUSH asked for. -/
def flushStart (s : State) : State := setEnding (writeLog (.run .flush s.line.runId none) s)

theorem flushStart_ends (s : State) : IntakeEnds (.run .flush s.line.runId none) s (flushStart s) :=
  setEnding_ends ((KeepsAllBut.start [] _).more (by simp))

theorem flushStart_keeps (s : State) : KeepsAllBut (writeParts ++ [.ending]) s (flushStart s) :=
  setEnding_keeps (by decide) (writeLog_keeps (by decide) (.start _ s) _)

theorem flushedQueue_unfeeds (s : State) : Unfeeds s.queue.records (flushStart s) (flushedQueue s) := by
  rw [← (flushStart_keeps s).records_eq (by decide)]
  exact unfedAll_unfeeds (flushStart s)

/-- A FLUSH is taken (R147). -/
abbrev TakesFlush (s : State) : Prop := s.line.state = .running ∨ s.line.state = .paused

section
variable {s : State} (hs : TakesFlush s)
include hs

theorem flushedQueue_not_draining : (flushedQueue s).line.state ≠ .draining := by
  rw [(flushedQueue_keeps s).state_eq (by decide)]
  obtain h | h := hs <;> rw [h] <;> decide

theorem flushedPocket_keeps : KeepsAllBut (disposeParts ++ [.ending, .held, .records, .collecting, .staging]) s
    (flushPocket (flushedQueue s)) :=
  ((flushedQueue_keeps s).more (by decide)).trans ((flushPocket_keeps' (flushedQueue_not_draining hs)).more (by decide))

/-- What the steps before the check of a FLUSH touch. -/
theorem flushIntake_keeps' : KeepsAllBut (disposeParts ++ [.ending, .held, .records, .collecting, .staging, .runState, .reason,
    .drive]) s (flushIntake s) := by
  rw [flushIntake_eq]
  split
  · exact enterState_keeps (by decide) ((flushedPocket_keeps hs).more (by decide)) _ _
  · exact (flushedPocket_keeps hs).more (by decide)

theorem flushIntake_flows : Flows (unfedRecords s ++ (finishedByFlush s).map fun c => .piece (c.logOf .handFinish))
    (flushStart s) (flushIntake s) := by
  have hunfed := (flushedQueue_unfeeds s).flows
  have hpocket := (flushPocket_clears (flushedQueue_not_draining hs)).flows
  have hcollecting : (flushedQueue s).collation.collecting = s.collation.collecting :=
    flushedQueue_keeps s .collecting (by decide)
  have hfinished : finishedByFlush (flushedQueue s) = finishedByFlush s := by rw [finishedByFlush, hcollecting, finishedByFlush]
  rw [hfinished] at hpocket
  have hboth := hunfed.trans hpocket
  rw [flushIntake_eq]
  split
  · have h := hboth.trans (enterState_flows (st := .draining) (by decide) none _)
    rwa [List.append_nil] at h
  · exact hboth

omit hs in
/-- The last step leaves the pocket's state but for the run state. -/
theorem flushIntake_drains (s : State) : KeepsAllBut stateParts (flushPocket (flushedQueue s)) (flushIntake s) := by
  rw [flushIntake_eq]
  split
  · exact enterState_keeps (List.Subset.refl _) (.start _ _) _ _
  · exact .start _ _

theorem flushIntake_collation : (flushIntake s).collation = flushedPockets s.collation := by
  rw [collation_of_keeps (flushIntake_drains s) (by decide), flushPocket_collation (flushedQueue_not_draining hs),
    collation_of_keeps (flushedQueue_keeps s) (by decide)]

theorem flushIntake_counters (hle : s.line.counters.unfed ≤ 16777215) : (flushIntake s).line.counters = { s.line.counters with
    unfed := min 16777215 (s.line.counters.unfed + s.queue.records.length)
    handFinish :=
      if finishedByFlush s = [] then s.line.counters.handFinish else min 16777215 (s.line.counters.handFinish + 1) } := by
  have hstart : (flushStart s).line.counters = s.line.counters := (flushStart_keeps s).counters_eq (by decide)
  have hcollecting : (flushedQueue s).collation.collecting = s.collation.collecting :=
    flushedQueue_keeps s .collecting (by decide)
  rw [(flushIntake_drains s).counters_eq (by decide), (flushPocket_clears (flushedQueue_not_draining hs)).counters,
    (flushedQueue_unfeeds s).counters_eq (by rwa [hstart]), hstart, finishedByFlush, hcollecting, finishedByFlush]
  cases s.collation.collecting with
  | empty => rfl
  | complete c => rfl
  | collecting c => cases hf : c.handFinish <;> simp [hf, Counters.bumpAll, Counters.bump, countUp, Config.counterLimit]

theorem flushIntake_reprints : (flushIntake s).reprints = s.queue.records.foldl unfedEntries s.reprints := by
  rw [(flushIntake_drains s).reprints_eq (by decide), (flushPocket_clears (flushedQueue_not_draining hs)).reprints,
    List.foldl_nil, (flushedQueue_unfeeds s).reprints, (flushStart_keeps s).reprints_eq (by decide)]

theorem flushIntake_records : (flushIntake s).queue.records = [] := by
  rw [(flushIntake_drains s).records_eq (by decide),
    (flushPocket_keeps' (flushedQueue_not_draining hs)).records_eq (by decide)]
  exact records_unfedAll _

theorem flushIntake_held : (flushIntake s).channel.held = (s.channel.held && s.queue.records.isEmpty) := by
  have hstart : (flushStart s).channel.held = s.channel.held := flushStart_keeps s .held (by decide)
  have hrecords : (flushStart s).queue.records = s.queue.records := (flushStart_keeps s).records_eq (by decide)
  have hgiven : (flushedQueue s).channel.held = _ := Unfeeds.held_eq (s := flushStart s) (unfedAll_unfeeds _)
  have h1 : (flushIntake s).channel.held = _ := flushIntake_drains s .held (by decide)
  have h2 : (flushPocket (flushedQueue s)).channel.held = _ :=
    flushPocket_keeps' (flushedQueue_not_draining hs) .held (by decide)
  rw [h1, h2, hgiven, hstart, hrecords]

theorem flushIntake_ending : (flushIntake s).line.ending = true :=
  (flushIntake_line (s := s) (by obtain h | h := hs <;> rw [h] <;> decide)).2

/-- The run state after the steps before the check. -/
theorem flushIntake_state :
    (s.line.state = .running → (flushIntake s).line.state = .draining ∧ (flushIntake s).line.reason = none ∧
      (flushIntake s).line.drive = true) ∧
    (s.line.state = .paused → (flushIntake s).line.state = .paused ∧ (flushIntake s).line.reason = s.line.reason ∧
      (flushIntake s).line.drive = s.line.drive) := by
  have hk := flushedPocket_keeps hs
  have hstate := hk.state_eq (by decide)
  refine ⟨fun hrun => ?_, fun hpaused => ?_⟩
  · rw [flushIntake_eq, if_pos (hstate.trans hrun)]
    obtain ⟨h1, h2, h3, -⟩ := enterState_line .draining none (flushPocket (flushedQueue s))
    exact ⟨h1, h2, h3⟩
  · rw [flushIntake_eq, if_neg (by rw [hstate, hpaused]; decide)]
    exact ⟨hstate.trans hpaused, hk .reason (by decide), hk .drive (by decide)⟩

theorem flushIntake_not_running : (flushIntake s).line.state ≠ .running := by
  obtain ⟨hrun, hpaused⟩ := flushIntake_state hs
  obtain h | h := hs
  · rw [(hrun h).1]
    decide
  · rw [(hpaused h).1]
    decide

end

/-! ### The check (R151, R152) -/

section
variable {s : State}

theorem flushCheck_of_drained (h : drained s = true) : flushCheck s = completeDrain s := if_pos h

theorem flushCheck_of_not_drained (h : ¬drained s = true) : flushCheck s = s := if_neg h

theorem flushCheck_keeps' (s : State) : KeepsAllBut (closeParts ++ [.runState, .reason, .drive]) s (flushCheck s) :=
  flushCheck_keeps (List.Subset.refl _) (.start _ s)

theorem drained_flushCheck (s : State) : drained (flushCheck s) = drained s := by
  by_cases h : drained s = true
  · rw [flushCheck_of_drained h, drained_completeDrain]
  · rw [flushCheck_of_not_drained h]

/-- Whether the run was closed can be read off the state after the check. -/
theorem recordsHeld_flushCheck (h : s.queue.records = []) : recordsHeld (flushCheck s) = 0 ↔ drained s = true := by
  rw [← drained_flushCheck, drained_iff_recordsHeld, (flushCheck_keeps' s).records_eq (by decide), h]
  rfl

theorem flushCheck_queues (s : State) : Queues [19, 9] s (flushCheck s) := by
  unfold flushCheck
  split
  · exact completeDrain_queues s
  · exact .of_eq rfl

theorem flushCheck_stations (hs : s.line.state ≠ .running) (hp : s.line.permit = false) :
    StationsKept id True s (flushCheck s) := by
  unfold flushCheck
  split
  · exact (completeDrain_stations hs).mono fun _ hon => by
      rw [hp] at hon
      cases hon
  · exact .of_eq rfl rfl

theorem flushCheck_alertsKept (s : State) : AlertsKeptBut [.reserve, .station, .run] s (flushCheck s) := by
  unfold flushCheck
  split
  · exact completeDrain_alertsKept s
  · exact .of_alerts_eq rfl

theorem flushCheck_permit (hp : s.line.permit = false) : (flushCheck s).line.permit = false := by
  unfold flushCheck
  split
  · exact completeDrain_permit s
  · exact hp

theorem flights_flushCheck (s : State) (b : Nat) : (binAt b (flushCheck s)).flights = (binAt b s).flights := by
  unfold flushCheck
  split
  · rw [binAt_completeDrain]
    rfl
  · rfl

end

/-! ### The request (R147, R151) -/

theorem flushRequest_of_busy {tag : Byte} {operands : List Byte} {s : State} (h : s.line.ending = true) :
    flushRequest tag operands s = sendAnswer tag .busy [] s := if_pos h

theorem flushRequest_of_not_busy {tag : Byte} {operands : List Byte} {s : State} (h : s.line.ending = false) :
    flushRequest tag operands s =
      plainRequest (s.line.state == .running || s.line.state == .paused) flushRun tag operands s := if_neg (by simp [h])

/-- Settles O24: the intake ends, the queue and the collecting pocket are given up, and the check completes the drain where
nothing is left. -/
theorem flushEndsTheIntake : Obligations.FlushEndsTheIntake := by
  intro h tag operands s hc
  have ⟨_, hzero, hbroadcast, _⟩ := hc
  refine ⟨?_, fun hend => take_request_answered hc (flushRequest_of_busy hend), fun hend hr hp => ?_, fun hne hend hs => ?_⟩
  · rintro rfl hend hs hle
    have hends := flushStart_ends s
    have hflows := flushIntake_flows hs
    have hkeeps := flushIntake_keeps' hs
    have hcheck := flushCheck_keeps' (flushIntake s)
    have hrecords := flushIntake_records hs
    have hheldIff := recordsHeld_flushCheck hrecords
    have hoff : (flushIntake s).line.permit = false := hends.permit_off hflows
    have hheld : (flushCheck (flushIntake s)).channel.held = (flushIntake s).channel.held := hcheck .held (by decide)
    have hcollation : (flushCheck (flushIntake s)).collation = flushedPockets s.collation :=
      (collation_of_keeps hcheck (by decide)).trans (flushIntake_collation hs)
    have hslots : (flushCheck (flushIntake s)).track.slots = s.track.slots :=
      (hcheck .slots (by decide) : _ = (flushIntake s).track.slots).trans (hkeeps .slots (by decide))
    have hbins : ∀ b, binAt b (flushIntake s) = binAt b s := binAt_eq_of_keeps hkeeps (by decide)
    have htook : LogTookAll (flushRecords s) s (flushIntake s) := hends.tookAll hflows
    obtain ⟨hrun, hpaused⟩ := flushIntake_state hs
    have hsame : recordsHeld (flushCheck (flushIntake s)) ≠ 0 → flushCheck (flushIntake s) = flushIntake s := fun hne =>
      flushCheck_of_not_drained fun hd => hne (hheldIff.mpr hd)
    have hdone : recordsHeld (flushCheck (flushIntake s)) = 0 → flushCheck (flushIntake s) = completeDrain (flushIntake s) :=
      fun h0 => flushCheck_of_drained (hheldIff.mp h0)
    refine ⟨flushRun s, take_request_answered hc ((flushRequest_of_not_busy hend).trans (plainRequest_of_taken (by simpa using hs))), ?_⟩
    rw [flushRun_eq]
    refine ⟨(hcheck.ending_eq (by decide)).trans (flushIntake_ending hs), flushCheck_permit hoff,
      (hcheck.records_eq (by decide)).trans hrecords, (hcheck .last (by decide)).trans (hkeeps .last (by decide)),
      (hcheck.counters_eq (by decide)).trans (flushIntake_counters hs hle),
      (hcheck.reprints_eq (by decide)).trans (flushIntake_reprints hs), fun hne => ?_, fun h0 => ?_, fun c => ?_, hcollation,
      hheld.trans (flushIntake_held hs), fun hroom => ?_, pieceCount_of_slots hslots,
      flightTotal_of_flights fun b => by rw [flights_flushCheck, hbins], ?_, ?_, ?_, fun b => ?_, fun h0 => ?_,
      fun hne hr => ?_, fun hne hp => ?_, ?_⟩
    · rw [hsame hne]
      exact htook
    · rw [hdone h0]
      exact completeDrain_took_of hkeeps (by decide) (by decide) htook fun c => by rw [hbins]
    · rw [hcollation]
      exact flushedPockets_collecting _ c
    · rw [(flushCheck_queues _).recordGoes_eq (by decide) (hends.queues.own_le.trans hflows.flow.own),
        hends.goes hflows hzero hbroadcast hroom, flushIntake_held hs]
      refine if_congr ?_ rfl rfl
      cases s.channel.held <;> simp
    · exact (hends.stationsAll hflows).trans (flushCheck_stations (flushIntake_not_running hs) hoff) id fun _ => trivial
    · exact ((hends.alertsAll hflows).more (by decide)).trans (flushCheck_alertsKept _)
    · have hrunAlert : alertOf .run (flushIntake s) = alertOf .run s := hends.alertsAll hflows _ (by decide)
      split
      · next h0 =>
        rw [hdone h0, completeDrain_runAlert]
        exact alertOf_raiseAlert_of_eq (d := .drainComplete) hrunAlert
      · next hne => rw [hsame hne, hrunAlert]
    · split
      · next h0 => rw [hdone h0, binAt_completeDrain, hbins]
      · next hne => rw [hsame hne, hbins]
    · rw [hdone h0]
      obtain ⟨hclosed, hstopped⟩ := completeDrain_line (s := flushIntake s)
      exact ⟨hclosed, completeDrain_reason _, hstopped⟩
    · rw [hsame hne]
      exact hrun hr
    · rw [hsame hne]
      exact hpaused hp
    · exact (hkeeps.more (by decide)).trans (hcheck.more (by decide))
  · exact take_request_answered hc ((flushRequest_of_not_busy hend).trans (plainRequest_of_refused (by simp [hr, hp])))
  · exact take_request_answered hc ((flushRequest_of_not_busy hend).trans (plainRequest_of_operands (by simpa using hs) hne))

end Sys2Proof.Machine
end


section
/-! ABORT (10, R12, R40, R69, R102, R107, R121, R153). -/

namespace Sys2Proof.Machine

/-! ### One bin (R121) -/

/-- A BUNDLE record does not depend on the groups' reference counts. -/
theorem closeRecord_eq_of_alike {s t : State} (h : GroupsAlike s t) (b : Nat) (cause : CloseCause) (u : Option Bundle) :
    closeRecord b cause u t = closeRecord b cause u s := by
  have hfields : ∀ g, (groupAt g t).chain = (groupAt g s).chain ∧ (groupAt g t).minimum = (groupAt g s).minimum ∧
      (groupAt g t).demote = (groupAt g s).demote := fun g => by
    have := h g
    simp only [Group.mk.injEq] at this
    obtain ⟨h1, h2, h3, h4, -⟩ := this
    exact ⟨by assumption, by assumption, by assumption⟩
  have hgroup : groupOfBin b t = groupOfBin b s := by simp only [groupOfBin, hfields]
  have hjudging : (judgingGroup b t).minimum = (judgingGroup b s).minimum ∧
      (judgingGroup b t).demote = (judgingGroup b s).demote := by
    unfold judgingGroup
    rw [hgroup]
    split
    · exact ⟨(hfields _).2.1, (hfields _).2.2⟩
    · exact ⟨rfl, rfl⟩
  obtain ⟨hminimum, hdemote⟩ := hjudging
  simp only [closeRecord, bundleLog, hgroup, hminimum, hdemote]

theorem closeBundle_clears {b : Nat} {cause : CloseCause} (hc : cause ≠ .full) (s : State) :
    Clears [] [] (closeRecord b cause (binAt b s).bundle s) s (closeBundle b cause s) := by
  have hwrote := closeBundle_wrote (b := b) hc s
  have hk : KeepsAllBut closeParts s (closeBundle b cause s) := closeBundle_keeps (List.Subset.refl _) (.start _ s) b cause
  exact ⟨hk.counters_eq (by decide), hk.reprints_eq (by decide), hwrote.took, closeBundle_settles steady_zero s b hc,
    hwrote.queues, hwrote.alerts, hk.more (by decide)⟩

theorem loseFlight_clears (b : Nat) (f : Flight) (s : State) :
    Clears [.lost] [] [.piece (f.logOf .lost b none)] s (disposeFlight .lost b none f (dropFlight b f s)) := by
  have hdrop : Clears [] [] [] s (dropFlight b f s) := .of_keeps (putBin_keeps (List.Subset.refl _) (.start _ s) _ _) (by decide)
  exact hdrop.trans (dispose_clears (s := dropFlight b f s) rfl _)

theorem loseFlights_clears (b : Nat) : ∀ (l : List Flight) (s : State),
    Clears (l.map fun _ => .lost) [] (l.map fun f => .piece (f.logOf .lost b none)) s
      (l.foldl (fun s f => disposeFlight .lost b none f (dropFlight b f s)) s)
  | [], s => .nothing s
  | f :: l, s => (loseFlight_clears b f s).trans (loseFlights_clears b l _)

/-- The flights of a bin and the records of its ABORT. -/
def abortHeld (b : Nat) (s : State) : List Flight × List LogBody := ((binAt b s).flights, abortBinRecords b s)

theorem loseFlights_keeps (b : Nat) (l : List Flight) (s : State) : KeepsAllBut (.bins :: disposeParts) s
    (l.foldl (fun s f => disposeFlight .lost b none f (dropFlight b f s)) s) :=
  .fold (fun _ f h => disposeFlight_keeps (by decide) (dropFlight_keeps (by decide) h b f) _ _ _ _) _ (.start _ s)

theorem abortBin_keeps' (b : Nat) (s : State) : KeepsAllBut (.bins :: disposeParts) s (abortBin b s) :=
  abortBin_keeps (by decide) (.start _ s) b

theorem abortBin_clears {b : Nat} (hb : b < 32) (s : State) : Clears ((abortHeld b s).1.map fun _ => .lost) []
    (abortHeld b s).2 s (abortBin b s) := by
  have hlost := loseFlights_clears b (binAt b s).flights s
  have hclosed := closeBundle_clears (b := b) (cause := .abort) (by decide)
    ((binAt b s).flights.foldl (fun s f => disposeFlight .lost b none f (dropFlight b f s)) s)
  rw [binAt_loseFlights hb _ s rfl, if_pos rfl, closeRecord_eq_of_keeps (loseFlights_keeps b _ s) (by decide)] at hclosed
  have hboth := hlost.trans hclosed
  rw [List.append_nil] at hboth
  exact hboth

theorem abortHeld_abortBin {b c : Nat} (hb : b < 32) (hc : c ≠ b) (s : State) :
    abortHeld c (abortBin b s) = abortHeld c s := by
  have hbin : binAt c (abortBin b s) = binAt c s := by rw [binAt_abortBin hb, if_neg hc]
  rw [abortHeld, abortBinRecords, hbin, closeRecord_eq_of_keeps (abortBin_keeps' b s) (by decide), abortHeld, abortBinRecords]

/-- The flights in all bins, in the order of the bins. -/
def abortFlights (s : State) : List Flight := (List.range 32).flatMap fun b => (binAt b s).flights

theorem abortBins_clears (s : State) : Clears ((abortFlights s).map fun _ => .lost) []
    ((List.range 32).flatMap fun b => abortBinRecords b s) s (abortBins s) := by
  have h := Clears.fold (held := abortHeld) (d := fun x => x.1.map fun _ => .lost) (e := fun _ => []) (r := fun _ x => x.2)
    (P := (· < 32)) (fun t b hb => abortBin_clears hb t) (fun t b c hb hc => abortHeld_abortBin hb hc t) (List.range 32)
    (fun _ => List.mem_range.mp) List.nodup_range s
  rw [List.flatMap_eq_nil_iff.mpr fun _ _ => rfl] at h
  rw [abortFlights, List.map_flatMap]
  exact h

theorem abortFlights_length (s : State) : (abortFlights s).length = flightTotal s := by
  rw [abortFlights, List.length_flatMap, flightTotal_eq_sum]

/-! ### The pockets and the track (R40, R69) -/

theorem emptyPockets_clears (s : State) : Clears ((abortedCollations s).map fun _ => .aborted)
    ((abortedCollations s).map (Collation.entry .aborted)) ((abortedCollations s).map fun c => .piece (c.logOf .aborted)) s
    (disposeCollecting .aborted (disposeStaging .aborted s)) := by
  have hstaging := disposeStaging_clears (d := .aborted) (by decide) s
  have hcollecting := disposeCollecting_clears (d := .aborted) (by decide) (disposeStaging .aborted s)
  rw [disposeStaging_collation] at hcollecting
  have hboth := hstaging.trans hcollecting
  simpa only [abortedCollations, List.map_append] using hboth

theorem abortedPieces_eq (s : State) : piecesAt (List.range s.track.slots.length).reverse s = abortedPieces s := by
  have h := piecesAt_range' s s.track.slots.length 0
  rw [List.drop_zero, List.take_length, ← List.range_eq_range'] at h
  rw [piecesAt, List.filterMap_reverse, abortedPieces, List.filterMap_reverse]
  exact congrArg List.reverse h

theorem abortTrack_emptied (s : State) : Emptied .aborted (abortedPieces s) s (abortTrack s) := by
  rw [← abortedPieces_eq]
  exact removePieces_emptied (by decide) _ (List.nodup_reverse.mpr List.nodup_range) s

theorem countP_abortedPieces (q : Nat × SchemeMatch → Bool) (s : State) :
    ((abortedPieces s).countP fun p => q p.mark) = (trackMarks s).countP q := by
  rw [abortedPieces, List.filterMap_reverse, List.countP_reverse, trackMarks, ← Function.comp_def, ← List.countP_map,
    List.map_filterMap]
  rfl

theorem abortedPieces_length (s : State) : (abortedPieces s).length = pieceCount s := by
  rw [abortedPieces, List.filterMap_reverse, List.length_reverse, List.length_filterMap_eq_countP]
  rfl

theorem abortedCollations_length (s : State) : (abortedCollations s).length = pocketCount s := by
  rw [abortedCollations, List.length_append, pocketCount_eq_held, Nat.add_comm]

/-! ### The steps (R153) -/

theorem abortLine_ends (s : State) : IntakeEnds (.run .abort s.line.runId none) s (abortLine s) :=
  setEnding_ends (State.setLine_keeps (f := [.drive]) (List.Subset.refl _) (.start _ _) _ (by
    intro p hp
    cases p <;> first | rfl | exact absurd (by decide) hp))

theorem abortLine_unfeeds (s : State) : Unfeeds s.queue.records (abortLine s) (unfedAll (abortLine s)) := by
  rw [← (abortLine_ends s).keeps.records_eq (by decide)]
  exact unfedAll_unfeeds (abortLine s)

/-- The line with its queue given up. -/
theorem abortQueue_keeps (s : State) : KeepsAllBut (disposeParts ++ [.ending, .drive, .held, .records]) s (unfedAll (abortLine s)) :=
  ((abortLine_ends s).keeps.more (by decide)).trans ((abortLine_unfeeds s).keeps.more (by decide))

theorem abortPockets_keeps (s : State) : KeepsAllBut (disposeParts ++ [.ending, .drive, .held, .records, .collecting, .staging]) s
    (abortPockets (abortLine s)) :=
  disposeCollecting_keeps (by decide) (disposeStaging_keeps (by decide) ((abortQueue_keeps s).more (by decide)) _) _

/-- The state with nothing left on the track. -/
def abortCarried (s : State) : State := abortTrack (abortPockets (abortLine s))

theorem abortedPieces_of_slots {s t : State} (h : t.track.slots = s.track.slots) : abortedPieces t = abortedPieces s := by
  rw [abortedPieces, h, abortedPieces]

theorem abortCarried_emptied (s : State) :
    Emptied .aborted (abortedPieces s) (abortPockets (abortLine s)) (abortCarried s) := by
  rw [← abortedPieces_of_slots (abortPockets_keeps s .slots (by decide))]
  exact abortTrack_emptied _

theorem abortCarried_keeps (s : State) : KeepsAllBut (disposeParts ++ [.ending, .drive, .held, .records, .collecting, .staging,
    .slots, .pageUse, .groups]) s (abortCarried s) :=
  abortTrack_keeps (by decide) ((abortPockets_keeps s).more (by decide))

theorem abortCarried_groups (s : State) : GroupsAlike s (abortCarried s) := fun g =>
  ((abortCarried_emptied s).groups g).trans (by rw [groupAt_of_keeps (abortPockets_keeps s) (by decide)])

theorem abortWork_eq_bins (s : State) : abortWork (abortLine s) = abortBins (abortCarried s) := rfl

/-- What the bins give up is as it was before the command. -/
theorem abortBinRecords_carried (s : State) (b : Nat) : abortBinRecords b (abortCarried s) = abortBinRecords b s := by
  rw [abortBinRecords, binAt_eq_of_keeps (abortCarried_keeps s) (by decide), closeRecord_eq_of_alike (abortCarried_groups s),
    abortBinRecords]

theorem abortFlights_carried (s : State) : abortFlights (abortCarried s) = abortFlights s := by
  simp only [abortFlights, binAt_eq_of_keeps (abortCarried_keeps s) (by decide)]

theorem abortedCollations_queue (s : State) : abortedCollations (unfedAll (abortLine s)) = abortedCollations s := by
  rw [abortedCollations, collation_of_keeps (abortQueue_keeps s) (by decide), abortedCollations]

/-- All that leaves the line after its queue. -/
theorem abortWork_clears (s : State) : Clears
    ((abortedCollations s).map (fun _ => .aborted) ++ ((abortedPieces s).map (fun _ => .aborted) ++
      (abortFlights s).map fun _ => .lost))
    ((abortedCollations s).map (Collation.entry .aborted) ++ ((abortedPieces s).map (Piece.entry .aborted) ++ []))
    ((abortedCollations s).map (fun c => .piece (c.logOf .aborted)) ++ ((abortedPieces s).map (fun p => .piece (p.logOf .aborted none)) ++
      (List.range 32).flatMap fun b => abortBinRecords b s))
    (unfedAll (abortLine s)) (abortWork (abortLine s)) := by
  have hpockets := emptyPockets_clears (unfedAll (abortLine s))
  rw [abortedCollations_queue] at hpockets
  have hbins := abortBins_clears (abortCarried s)
  rw [abortFlights_carried, funext (abortBinRecords_carried s)] at hbins
  exact hpockets.trans ((abortCarried_emptied s).toClears.trans hbins)

/-- What follows the work of an ABORT: the record of the close and the state CLOSED. -/
theorem abortClose_flows (s : State) :
    Flows ([.run .closed s.line.runId (some s.line.counters)] ++ []) s (abortClose s) :=
  (writeLog_flows _ s).trans (enterState_flows (by decide) none _)

section
variable (s : State)

theorem abortWork_keeps : KeepsAllBut (disposeParts ++ [.ending, .drive, .held, .records, .collecting, .staging, .slots, .pageUse,
    .groups, .bins]) s (abortWork (abortLine s)) := by
  rw [abortWork_eq_bins]
  exact abortBins_keeps (by decide) ((abortCarried_keeps s).more (by decide))

theorem abortRun_keeps' : KeepsAllBut (stateParts ++ writeParts) (abortWork (abortLine s)) (abortRun s) := by
  rw [abortRun_eq]
  exact abortClose_keeps _

theorem abortRun_flows : Flows (unfedRecords s ++ (((abortedCollations s).map (fun c => .piece (c.logOf .aborted)) ++
    ((abortedPieces s).map (fun p => .piece (p.logOf .aborted none)) ++ (List.range 32).flatMap fun b => abortBinRecords b s)) ++
      ([.run .closed s.line.runId (some (abortRun s).line.counters)] ++ []))) (abortLine s) (abortRun s) := by
  have hid : (abortWork (abortLine s)).line.runId = s.line.runId := abortWork_keeps s .runId (by decide)
  have hclose := abortClose_flows (abortWork (abortLine s))
  rw [hid, ← (abortRun_keeps' s).counters_eq (by decide), ← abortRun_eq] at hclose
  exact (abortLine_unfeeds s).flows.trans ((abortWork_clears s).flows.trans hclose)

theorem abortRun_took : LogTookAll (abortRecords (abortRun s).line.counters s) s (abortRun s) := by
  have h := (abortLine_ends s).tookAll (abortRun_flows s)
  simpa only [abortRecords, List.append_assoc, List.append_nil, List.cons_append, List.nil_append] using h

theorem abortRun_counters (hunfed : s.line.counters.unfed ≤ 16777215) (haborted : s.line.counters.aborted ≤ 16777215)
    (hlost : s.line.counters.lost ≤ 16777215) : (abortRun s).line.counters = { s.line.counters with
      unfed := min 16777215 (s.line.counters.unfed + s.queue.records.length)
      aborted := min 16777215 (s.line.counters.aborted + pocketCount s + pieceCount s)
      lost := min 16777215 (s.line.counters.lost + flightTotal s) } := by
  have hstart : (abortLine s).line.counters = s.line.counters := (abortLine_ends s).keeps.counters_eq (by decide)
  have haborts := bump_iterate (d := .aborted) (get := (·.aborted)) (set := fun c n => { c with aborted := n }) (fun _ => rfl)
    (fun _ _ => rfl) (fun _ _ _ => rfl) (fun _ => rfl)
  have hloses := bump_iterate (d := .lost) (get := (·.lost)) (set := fun c n => { c with lost := n }) (fun _ => rfl)
    (fun _ _ => rfl) (fun _ _ _ => rfl) (fun _ => rfl)
  have hqueue := (abortLine_unfeeds s).counters_eq (by rwa [hstart])
  rw [hstart] at hqueue
  rw [(abortRun_keeps' s).counters_eq (by decide), (abortWork_clears s).counters, Counters.bumpAll_append,
    Counters.bumpAll_append, Counters.bumpAll_map, Counters.bumpAll_map, Counters.bumpAll_map, ← Function.iterate_add_apply,
    hqueue, haborts, hloses, abortedCollations_length, abortedPieces_length, abortFlights_length,
    Nat.add_comm (pieceCount s), Nat.add_assoc]
  · exact hlost
  · exact haborted

theorem abortRun_reprints : (abortRun s).reprints = ((abortedCollations s).map (Collation.entry .aborted) ++
    (abortedPieces s).map (Piece.entry .aborted)).foldl entered (s.queue.records.foldl unfedEntries s.reprints) := by
  rw [(abortRun_keeps' s).reprints_eq (by decide), (abortWork_clears s).reprints, (abortLine_unfeeds s).reprints,
    (abortLine_ends s).keeps.reprints_eq (by decide), List.append_nil]

theorem abortRun_held : (abortRun s).channel.held = (s.channel.held && s.queue.records.isEmpty) := by
  have hstart : (abortLine s).channel.held = s.channel.held := (abortLine_ends s).keeps .held (by decide)
  have hrecords : (abortLine s).queue.records = s.queue.records := (abortLine_ends s).keeps.records_eq (by decide)
  have hqueue : (unfedAll (abortLine s)).channel.held = _ := Unfeeds.held_eq (s := abortLine s) (unfedAll_unfeeds _)
  have h1 : (abortRun s).channel.held = _ := abortRun_keeps' s .held (by decide)
  have h2 : (abortWork (abortLine s)).channel.held = _ := (abortWork_clears s).keeps .held (by decide)
  rw [h1, h2, hqueue, hstart, hrecords]

theorem binAt_abortRun (b : Nat) : binAt b (abortRun s) = (binAt b s).aborted := by
  rw [binAt_eq_of_keeps (abortRun_keeps' s) (by decide), abortWork_eq_bins, binAt_abortBins,
    binAt_eq_of_keeps (abortCarried_keeps s) (by decide)]

theorem abortRun_line : (abortRun s).line.state = .closed ∧ (abortRun s).line.reason = none ∧ (abortRun s).line.drive = false := by
  rw [abortRun_eq, abortClose]
  obtain ⟨h1, h2, h3, -⟩ := enterState_line .closed none (writeLog (.run .closed (abortWork (abortLine s)).line.runId
    (some (abortWork (abortLine s)).line.counters)) (abortWork (abortLine s)))
  exact ⟨h1, h2, h3⟩

theorem recordsHeld_abortRun : recordsHeld (abortRun s) = 0 := by
  have hline : lineSeqs none (abortRun s) = [] :=
    (lineSeqs_of_keeps (abortRun_keeps' s) (by decide) none).trans (abortWork_empty _)
  have hsequences : sequencesHeld (abortRun s) = [] := (List.append_eq_nil_iff.mp hline).2
  rw [recordsHeld_eq, hsequences]
  rfl

/-- After the slots nothing touches the pages and the groups. -/
theorem abortRun_sort : KeepsAllBut (disposeParts ++ [.bins, .runState, .reason, .drive]) (abortCarried s) (abortRun s) := by
  refine KeepsAllBut.trans (t := abortWork (abortLine s)) ?_ ((abortRun_keeps' s).more (by decide))
  rw [abortWork_eq_bins]
  exact abortBins_keeps (by decide) (.start _ _)

theorem pageUseAt_abortRun {p : Nat} (hp : p < 32) : pageUseAt p (abortRun s) = pageUseAt p s - piecesOfPage p s := by
  rw [pageUseAt_of_keeps (abortRun_sort s) (by decide), (abortCarried_emptied s).pageUse p hp,
    pageUseAt_of_keeps (abortPockets_keeps s) (by decide), countP_abortedPieces, piecesOfPage_eq]

theorem groupAt_abortRun {g : Nat} (hg : g < 16) :
    groupAt g (abortRun s) = { groupAt g s with refs := (groupAt g s).refs - piecesOfGroup g s } := by
  rw [groupAt_of_keeps (abortRun_sort s) (by decide),
    groupAt_eq_of_alike (abortCarried_emptied s).groups ((abortCarried_emptied s).refs g hg),
    groupAt_of_keeps (abortPockets_keeps s) (by decide), countP_abortedPieces, piecesOfGroup_eq]

end

/-! ### The request (R147, R153) -/

theorem takesAbort_iff {s : State} : (s.line.state != .idle && s.line.state != .closed) = true ↔
    s.line.state ≠ .idle ∧ s.line.state ≠ .closed := by simp

/-- Settles O25: the intake ends, and each place of the line is emptied by the lemma about it. -/
theorem abortClearsTheLine : Obligations.AbortClearsTheLine := by
  intro h tag operands s hc
  have ⟨_, hzero, hbroadcast, _⟩ := hc
  refine ⟨?_, fun hs => ?_, fun hne hi hcl => ?_⟩
  · rintro rfl hi hcl hunfed haborted hlost
    have hends := abortLine_ends s
    have hflows := abortRun_flows s
    have hkeeps : KeepsAllBut _ s (abortRun s) := abortRun_keeps (List.Subset.refl _) (.start _ s)
    have hending : (abortLine s).line.ending = true := hends.ending
    obtain ⟨hstate, hreason, hdrive⟩ := abortRun_line s
    refine ⟨abortRun s, take_request_answered hc (plainRequest_of_taken (takesAbort_iff.mpr ⟨hi, hcl⟩)), ?_⟩
    refine ⟨hstate, hreason, ?_, hdrive, hends.permit_off hflows, recordsHeld_abortRun s, binAt_abortRun s,
      fun p hp => pageUseAt_abortRun s hp, fun g hg => groupAt_abortRun s hg, hends.stationsAll hflows, hends.alertsAll hflows,
      abortRun_counters s hunfed haborted hlost, abortRun_reprints s, abortRun_took s, hkeeps .runId (by decide),
      hkeeps .locked (by decide), abortRun_held s, fun hroom => ?_, hkeeps⟩
    · rw [(abortRun_keeps' s).ending_eq (by decide), (abortWork_clears s).keeps.ending_eq (by decide),
        (abortLine_unfeeds s).keeps.ending_eq (by decide), hending]
    · rw [hends.goes hflows hzero hbroadcast hroom, abortRun_held]
      refine if_congr ?_ rfl rfl
      cases s.channel.held <;> simp
  · refine take_request_answered hc (plainRequest_of_refused ?_)
    obtain h | h := hs <;> rw [h] <;> rfl
  · exact take_request_answered hc (plainRequest_of_operands (takesAbort_iff.mpr ⟨hi, hcl⟩) hne)

end Sys2Proof.Machine
end


section
/-! Sheets that join no collation (02, R21, R22, R23, R25 to R27, R29, R32, R37). -/

namespace Sys2Proof.Machine

/-! ### The scan (R21) -/

theorem scanBytes_length (x : RawScan) : (scanBytes x).length ≤ Config.payloadLimit := by
  simp [scanBytes, beBytes, Config.payloadLimit]

theorem scanOf_read (x : RawScan) : (scanOf x).read =
    if x.stock.toNat < 128 ∧ 1 ≤ x.page.toNat ∧ x.page.toNat ≤ 64 ∧ 1 ≤ x.pages.toNat ∧ x.pages.toNat ≤ 64 then
      some (x.seq.toNat, x.inc.toNat, x.page.toNat, x.pages.toNat) else none := by
  have hmsb : x.stock.msb = decide (128 ≤ x.stock.toNat) := BitVec.msb_eq_decide x.stock
  simp only [scanOf, hmsb, pageInRange, Bool.and_eq_true, Bool.not_eq_true', decide_eq_false_iff_not, Nat.not_le,
    decide_eq_true_eq, and_assoc]

section
variable {h : Header} {x : RawScan} {s : State}

theorem exec_sheetScan_of_foreign (hr : Reached h s) (hs : stationFor .sheetScanner h.src s = none) :
    exec (.sheetScan h x) s = .next (forwardFrame { header := h, kind := 16, payload := scanBytes x } s) :=
  take_report_of_none hr (scanBytes_length x) (by simp [scanAction, hs])

theorem exec_sheetScan_of_scanner (hr : Reached h s) (hs : stationFor .sheetScanner h.src s ≠ none) :
    exec (.sheetScan h x) s = .next (actedOn h 16 (scanBytes x) (takeScan (scanOf x) s)) := by
  obtain ⟨e, he⟩ := Option.ne_none_iff_exists'.mp hs
  exact take_report_of_some hr (scanBytes_length x) (by simp [scanAction, he])

end

/-! ### SHEET_ACTION (R22, R23) -/

section
variable {serial seq inc i : Nat} {v : SheetVerdict} {e : StationEntry} {s : State}

theorem answerSheet_of_none (h : stationOfKind .sheetDivert s = none) : answerSheet serial v seq inc s = s := by
  simp only [answerSheet, h]

theorem answerSheet_of_room (h : stationOfKind .sheetDivert s = some (i, e)) (hroom : s.ring.own.length < 32) :
    answerSheet serial v seq inc s = pushOwn e.dst (.sheetAction serial v seq inc) s := by
  simp only [answerSheet, h]
  exact if_neg (by rw [ownFull_iff]; omega)

/-- A SHEET_ACTION that the full own-frame queue drops acts as untaken (R23, R163). -/
theorem answerSheet_of_full (h : stationOfKind .sheetDivert s = some (i, e)) (hfull : 32 ≤ s.ring.own.length) :
    answerSheet serial v seq inc s =
      if v = .accept then missPage seq inc (nodeAbsentAfter e.dst s) else nodeAbsentAfter e.dst s := by
  simp only [answerSheet, h]
  rw [if_pos (ownFull_iff.mpr hfull), sheetActionLost, nodeAbsent_after]
  simp only [beq_iff_eq]

end

theorem divertSheet_cases (x : Scan) (r : DivertReason) (t : State) :
    (stationOfKind .sheetDivert t = none → divertSheet x r t = t) ∧
      ∀ i e, stationOfKind .sheetDivert t = some (i, e) →
        (t.ring.own.length < 32 → divertSheet x r t = pushOwn e.dst (.sheetAction x.serial (.divert r) 0 0) t) ∧
        (32 ≤ t.ring.own.length → divertSheet x r t = nodeAbsentAfter e.dst t) := by
  refine ⟨fun h => answerSheet_of_none h, fun i e h => ⟨fun hroom => answerSheet_of_room h hroom, fun hfull => ?_⟩⟩
  rw [divertSheet, answerSheet_of_full h hfull, if_neg (by simp)]

/-! ### The routes of a scan (R25, R26) -/

section
variable {x : Scan} {s : State}

theorem takeScan_of_idle (h : s.line.state = .idle) : takeScan x s = divertSheet x .noRun s := if_pos h

theorem takeScan_of_late (hi : s.line.state ≠ .idle) (h : s.line.state = .closed ∨ s.line.ending = true) :
    takeScan x s = divertSheet x .lateSheet s := by
  rw [takeScan, if_neg hi]
  exact if_pos (by simpa using h)

/-- The part judges sheets by the collecting pocket (R25). -/
theorem takeScan_of_open (h : IntakeOpen s) : takeScan x s =
    match s.collation.collecting with
    | .collecting c => judgeCollecting x c s
    | _ => judgeHead x s := by
  obtain ⟨hstate, hending⟩ := h
  have hne : s.line.state ≠ .idle ∧ s.line.state ≠ .closed := by
    obtain h | h | h | h := hstate <;> rw [h] <;> decide
  rw [takeScan, if_neg hne.1]
  refine if_neg ?_
  simp [hne.2, hending]

theorem takeScan_of_collecting (h : IntakeOpen s) {c : Collation} (hc : s.collation.collecting = .collecting c) :
    takeScan x s = judgeCollecting x c s := by
  rw [takeScan_of_open h, hc]

theorem takeScan_of_not_collecting (h : IntakeOpen s) (hc : ∀ c, s.collation.collecting ≠ .collecting c) :
    takeScan x s = judgeHead x s := by
  rw [takeScan_of_open h]
  split
  · next c hcollecting => exact absurd hcollecting (hc c)
  · rfl

/-- A sheet that does not match the head record is a stray (R29). -/
theorem judgeHead_of_stray (h : ∀ seq inc page pages r, x.read = some (seq, inc, page, pages) → s.queue.records.head? = some r →
    ¬(seq = r.seq ∧ inc = r.inc)) : judgeHead x s = straySheet x s := by
  unfold judgeHead
  split
  · next seq inc page pages r hread hhead => exact if_neg (by simpa using h seq inc page pages r hread hhead)
  · rfl

/-- A sheet that matches the head record opens a collation, or is refused by the reserve gate or the pocket (R26, R27, R37). -/
theorem judgeHead_of_match {page pages : Nat} {r : JobRecord} (hread : x.read = some (r.seq, r.inc, page, pages))
    (hhead : s.queue.records.head? = some r) : judgeHead x s =
      match s.collation.collecting with
      | .empty => if r.reprint || gateOpen s then openCollation x page pages r s else reserveSheet x s
      | _ => overrunSheet x s := by
  simp only [judgeHead, hread, hhead]
  exact if_pos (by simp)

end

/-- Settles O31: each sheet that joins no collation takes one of the routes, and each route is a DIVERT with its effects. -/
theorem sheetsOutsideCollationsAreDiverted : Obligations.SheetsOutsideCollationsAreDiverted := by
  intro h x s hr
  refine ⟨⟨rfl, rfl, rfl, scanOf_read x⟩, divertSheet_cases (scanOf x), exec_sheetScan_of_foreign hr, fun hs => ?_⟩
  dsimp only
  rw [exec_sheetScan_of_scanner hr hs]
  refine ⟨fun hi => by rw [takeScan_of_idle hi], fun hi hl => by rw [takeScan_of_late hi hl], fun hopen =>
    ⟨fun c hc hread => ?_, fun hc => ?_⟩⟩
  · rw [takeScan_of_collecting hopen hc, judgeCollecting, hread]
    rfl
  · rw [takeScan_of_not_collecting hopen hc]
    refine ⟨fun hstray => ?_, fun page pages r hread hhead => ?_⟩
    · rw [judgeHead_of_stray hstray]
      rfl
    · rw [judgeHead_of_match hread hhead]
      refine ⟨fun hne => ?_, fun he hreprint hshut => ?_⟩
      · split
        · next he => exact absurd he hne
        · rfl
      · rw [he]
        dsimp only
        rw [if_neg (by simp [hreprint, gateOpen]; omega)]
        rfl

end Sys2Proof.Machine
end


section
/-! Sheets that join their collation (02, 03, R22, R23, R30, R31, R34 to R36, R43, R45, R46). -/

namespace Sys2Proof.Machine

/-! ### Stocks (R43, R45, R46) -/

theorem Stock.reference_eq (x : Stock) :
    x.reference = if x.ring = [] then x.nominal else (x.ring.sum + x.ring.length / 2) / x.ring.length := by
  simp only [Stock.reference, List.isEmpty_iff]

theorem Stock.classify_eq (x : Stock) (m : Nat) : x.classify m =
    if m = 4095 then (.double, true)
    else if min (x.reference + max (x.reference * x.tolerance / 64) x.margin) 4094 ≤ m ∧ m ≤ 4094 then (.double, false)
    else if m ≤ x.reference / 4 then (.thin, false) else (.single, false) := by
  simp only [Stock.classify, Bool.and_eq_true, decide_eq_true_eq]
  rfl

theorem Stock.learn_single (x : Stock) (m : Nat) :
    x.learn m .single = { x with ring := (x.ring ++ [m]).drop (x.ring.length + 1 - x.averaging) } := by
  simp [Stock.learn, trimRing]

theorem Stock.learn_other (x : Stock) (m : Nat) {c : SheetClass} (h : c ≠ .single) : x.learn m c = x := if_neg h

/-! ### The collation after a sheet (R30) -/

theorem mem_foldl_addOnce {α : Type} [DecidableEq α] {y : α} : ∀ (fs l : List α),
    y ∈ fs.foldl (fun l f => addOnce f l) l ↔ y ∈ l ∨ y ∈ fs
  | [], l => by simp
  | f :: fs, l => by
    rw [List.foldl_cons, mem_foldl_addOnce fs, mem_addOnce, List.mem_cons, or_assoc]

theorem mem_sheetFaults {c : Collation} {page pages : Nat} {cls : SheetClass} {f : FaultName} :
    f ∈ sheetFaults c page pages cls ↔ (f = .missingPage ∧ c.next < page) ∨
      (f = .extraPage ∧ (page < c.next ∨ c.job.pages < page)) ∨ (f = .countMismatch ∧ pages ≠ c.job.pages) ∨
      (f = .doubleSheet ∧ cls = .double) ∨ (f = .thinSheet ∧ cls = .thin) := by
  have hone : ∀ (p : Prop) [Decidable p] (g : FaultName), f ∈ (if p then [g] else []) ↔ f = g ∧ p := fun p _ g => by
    split <;> simp_all
  have hclass : (f ∈ match cls with
      | .double => [FaultName.doubleSheet]
      | .thin => [FaultName.thinSheet]
      | .single => []) ↔ (f = .doubleSheet ∧ cls = .double) ∨ (f = .thinSheet ∧ cls = .thin) := by
    cases cls <;> simp
  simp only [sheetFaults, List.mem_append, hone]
  tauto

theorem addSheet_fields (c : Collation) (page pages reading : Nat) (cls : SheetClass) (note : Bool) :
    (c.addSheet page pages reading (cls, note)).job = c.job ∧
    (c.addSheet page pages reading (cls, note)).handFinish = c.handFinish ∧
    (c.addSheet page pages reading (cls, note)).sheets = c.sheets ++ [⟨reading, note⟩] ∧
    (c.addSheet page pages reading (cls, note)).next =
      (if page < c.next then c.next else if cls = .double then page + 2 else page + 1) ∧
    ∀ f, f ∈ (c.addSheet page pages reading (cls, note)).faults ↔ f ∈ c.faults ∨ (f = .missingPage ∧ c.next < page) ∨
      (f = .extraPage ∧ (page < c.next ∨ c.job.pages < page)) ∨ (f = .countMismatch ∧ pages ≠ c.job.pages) ∨
      (f = .doubleSheet ∧ cls = .double) ∨ (f = .thinSheet ∧ cls = .thin) :=
  ⟨rfl, rfl, rfl, rfl, fun _ => (mem_foldl_addOnce _ _).trans (or_congr_right mem_sheetFaults)⟩

/-! ### The sheet answered (R22, R23, R30) -/

/-- The collation in the pocket once a sheet of it is answered: an ACCEPT that the full own-frame queue drops adds MISSING_PAGE
(R23, R163). -/
def afterAnswer (c : Collation) (s : State) : Collation :=
  if (32 ≤ s.ring.own.length ∧ stationOfKind .sheetDivert s ≠ none) ∧ c.handFinish = false then c.addFault .missingPage else c

/-- The frame that answers a sheet of a collation (R30, R35; log entry 11). -/
def sheetFrame (serial : Nat) (c : Collation) : OwnBody :=
  if c.handFinish then .sheetAction serial (.divert .handFinish) 0 0 else .sheetAction serial .accept c.job.seq c.job.inc

/-- A sheet of the collecting collation has been answered. -/
structure SheetAnswered (frame : OwnBody) (d : Collation) (s t : State) : Prop where
  collecting : t.collation.collecting = .collecting d
  keeps : KeepsAllBut (frameParts ++ [.collecting]) s t
  room : ∀ i e, stationOfKind .sheetDivert s = some (i, e) → s.ring.own.length < 32 → t.ring.own = s.ring.own ++ [⟨e.dst, frame⟩]
  full : ∀ i e, stationOfKind .sheetDivert s = some (i, e) → 32 ≤ s.ring.own.length → t.ring.own = s.ring.own ∧
    ∀ j y, stationOfNode e.dst.toNat s = some (j, y) → stationAt j t = some { y with status := .absent }
  stations : ¬(32 ≤ s.ring.own.length ∧ stationOfKind .sheetDivert s ≠ none) →
    StationsKept id True s t ∧ t.ring.own.length ≤ s.ring.own.length + 1
  alerts : AlertsKeptBut [.station] s t

section
variable {x : Scan} {c : Collation} {s : State}

theorem nodeAbsentAfter_own (dst : Node) {s : State} (h : 32 ≤ s.ring.own.length) :
    (nodeAbsentAfter dst s).ring.own = s.ring.own := by
  have habsent : ∀ i e, (absentAfter i e s).ring.own = s.ring.own := fun i e => by
    unfold absentAfter
    split
    · rfl
    · exact (raiseAlert_grows _ (putStation i (some { e with status := .absent }) s)).full h
  unfold nodeAbsentAfter
  split
  · exact habsent _ _
  · rfl

theorem nodeAbsentAfter_alertsKept (dst : Node) (s : State) : AlertsKeptBut [.station] s (nodeAbsentAfter dst s) := fun c hc => by
  rw [← nodeAbsent_after]
  exact nodeAbsent_alert dst (fun h => hc (h ▸ List.mem_singleton_self _)) s

theorem stationAt_nodeAbsentAfter {dst : Node} {j : Nat} {y : StationEntry} {s : State}
    (h : stationOfNode dst.toNat s = some (j, y)) :
    stationAt j (nodeAbsentAfter dst s) = some { y with status := .absent } := by
  rw [nodeAbsentAfter, h]
  exact stationAt_absentAfter (stationOfNode_some h).2.1

theorem answerAdded_answered (hc : s.collation.collecting = .collecting c) :
    SheetAnswered (sheetFrame x.serial c) (afterAnswer c s) s (answerAdded x c s) := by
  have hanswer : answerAdded x c s = answerSheet x.serial (if c.handFinish then .divert .handFinish else .accept)
      (if c.handFinish then 0 else c.job.seq) (if c.handFinish then 0 else c.job.inc) s := by
    unfold answerAdded
    split <;> rfl
  cases hd : stationOfKind .sheetDivert s with
  | none =>
    have hsame : afterAnswer c s = c := if_neg fun h => h.1.2 hd
    rw [hanswer, answerSheet_of_none hd, hsame]
    exact ⟨hc, .start _ s, fun i e he => by simp [hd] at he, fun i e he => by simp [hd] at he,
      fun _ => ⟨.of_eq rfl rfl, Nat.le_succ _⟩, .of_alerts_eq rfl⟩
  | some found =>
    obtain ⟨i, e⟩ := found
    by_cases hroom : s.ring.own.length < 32
    · have hsame : afterAnswer c s = c := if_neg fun h => absurd h.1.1 (Nat.not_le.mpr hroom)
      rw [hanswer, answerSheet_of_room hd hroom, hsame]
      have hk := pushOwn_keeps (l := frameParts ++ [.collecting]) (by decide) (.start _ s) e.dst
        (.sheetAction x.serial (if c.handFinish then .divert .handFinish else .accept)
          (if c.handFinish then 0 else c.job.seq) (if c.handFinish then 0 else c.job.inc))
      refine ⟨hc, hk, fun j y hy _ => ?_, fun j y _ hfull => absurd hfull (Nat.not_le.mpr hroom),
        fun _ => ⟨.of_eq rfl rfl, by simp [pushOwn]⟩, .of_alerts_eq rfl⟩
      obtain ⟨-, rfl⟩ : i = j ∧ e = y := by simpa [hd] using hy
      cases hf : c.handFinish <;> simp [pushOwn, sheetFrame, hf]
    · have hfull := Nat.not_lt.mp hroom
      have hcollecting : (nodeAbsentAfter e.dst s).collation.collecting = .collecting c :=
        (nodeAbsentAfter_keeps e.dst s .collecting (by decide)).trans hc
      have habsent : SheetAnswered (sheetFrame x.serial c) c s (nodeAbsentAfter e.dst s) :=
        ⟨hcollecting, (nodeAbsentAfter_keeps e.dst s).more (by decide), fun _ _ _ h => absurd h hroom, fun j y hy _ => by
          obtain ⟨-, rfl⟩ : i = j ∧ e = y := by simpa [hd] using hy
          exact ⟨nodeAbsentAfter_own _ hfull, fun k z hz => stationAt_nodeAbsentAfter hz⟩,
          fun h => absurd ⟨hfull, by simp [hd]⟩ h, nodeAbsentAfter_alertsKept _ _⟩
      cases hf : c.handFinish with
      | true =>
        have hsame : afterAnswer c s = c := if_neg (by simp [hf])
        rw [hanswer, answerSheet_of_full hd hfull, if_neg (by simp [hf]), hsame]
        exact habsent
      | false =>
        have hmissed : afterAnswer c s = c.addFault .missingPage := if_pos ⟨⟨hfull, by simp [hd]⟩, hf⟩
        rw [hanswer, answerSheet_of_full hd hfull, if_pos (by simp [hf]), hmissed]
        simp only [hf, Bool.false_eq_true, if_false]
        rw [missPage_of_collecting hcollecting ⟨rfl, rfl⟩]
        exact
          { habsent with
            collecting := rfl
            keeps := habsent.keeps.trans ((setCollecting_keeps' _ _).more (by decide))
            stations := fun h => absurd ⟨hfull, by simp [hd]⟩ h }

end

end Sys2Proof.Machine
end


section
/-! A sheet that ends its collation (02, 08, R30, R31, R34 to R36, R124). -/

namespace Sys2Proof.Machine

/-! ### The sheet taken into the pocket (R30) -/

/-- The stock has learned and the sheet has joined the collation, the stray run count being 0 again (R29, R30, R46). -/
def sheetTaken (x : Scan) (c : Collation) (s : State) : State :=
  let t := putStock x.stock ((stockAt x.stock s).learn x.caliper ((stockAt x.stock s).classify x.caliper).1) s
  t.setCollation { t.collation with collecting := .collecting c, strays := 0 }

theorem sheetTaken_keeps (x : Scan) (c : Collation) (s : State) :
    KeepsAllBut [.stocks, .collecting, .strays] s (sheetTaken x c s) := by
  intro p hp
  cases p <;> first | rfl | exact absurd (by decide) hp

theorem stockAt_sheetTaken {x : Scan} (hx : x.stock < 4) (c : Collation) (s : State) (i : Nat) :
    stockAt i (sheetTaken x c s) = if i = x.stock then
      (stockAt x.stock s).learn x.caliper ((stockAt x.stock s).classify x.caliper).1 else stockAt i s := by
  exact stockAt_putStock x.stock i _ s hx

/-! ### The end of a collation (R31, R34 to R36) -/

theorem completes_true_iff {c : Collation} {page : Nat} {cls : SheetClass} :
    completes c page cls = true ↔ page = c.job.pages ∨ (cls = .double ∧ page + 1 = c.job.pages) := by
  simp [completes]

/-- The collation as it ends: at the sheet limit a normal one receives MISSING_PAGE (R34, R35; log entry 28). -/
def asItEnds (complete : Prop) [Decidable complete] (d : Collation) : Collation :=
  if complete ∨ d.handFinish = true then d else d.addFault .missingPage

theorem asItEnds_handFinish {complete : Prop} [Decidable complete] {d : Collation} :
    (asItEnds complete d).handFinish = d.handFinish := by
  unfold asItEnds
  split <;> rfl

section
variable {d : Collation} {page : Nat} {cls : SheetClass} {s : State} (hd : s.collation.collecting = .collecting d)
include hd

theorem checkCompletion_of_goesOn (hc : ¬completes d page cls = true) (hl : ¬s.collation.sheetLimit ≤ d.sheets.length) :
    checkCompletion page cls s = s := by
  simp only [checkCompletion, hd]
  rw [if_neg hc, if_neg hl]

theorem checkCompletion_of_ends (h : completes d page cls = true ∨ s.collation.sheetLimit ≤ d.sheets.length) :
    checkCompletion page cls s = endCollation (asItEnds (completes d page cls = true) d) s := by
  simp only [checkCompletion, hd]
  by_cases hc : completes d page cls = true
  · rw [if_pos hc, asItEnds, if_pos (.inl hc)]
  · rw [if_neg hc, if_pos (h.resolve_left hc), closeAtLimit, asItEnds]
    by_cases hf : d.handFinish = true
    · rw [if_pos hf, if_pos (.inr hf)]
    · rw [if_neg hf, if_neg (by simp [hc, hf])]
      rfl

end

/-- A collation disposed HAND_FINISH is counted and asks for its record, without an entry (R123, R124). -/
theorem finishCollation_eq (c : Collation) (s : State) : disposeCollation .handFinish c s =
    writeLog (.piece (c.logOf .handFinish)) (countDisposition .handFinish s) := by
  have hkeep : ∀ t, (writeLog (.piece (c.logOf .handFinish)) t).reprints = t.reprints := fun t =>
    (writeLog_keeps (List.Subset.refl writeParts) (.start _ t) _).reprints_eq (by decide)
  exact if_pos (congrArg List.length (hkeep (countDisposition .handFinish s)))

theorem finishCollation_keeps (c : Collation) (s : State) :
    KeepsAllBut (writeParts ++ [.counters]) s (disposeCollation .handFinish c s) := by
  rw [finishCollation_eq]
  exact writeLog_keeps (by decide) (countDisposition_keeps (by decide) (.start _ s) _) _

theorem finishCollation_logged (c : Collation) (s : State) :
    Logged [.piece (c.logOf .handFinish)] 1 s (disposeCollation .handFinish c s) := by
  rw [finishCollation_eq]
  have hcount : Logged [] 0 s (countDisposition .handFinish s) :=
    .of_keeps (countDisposition_keeps (l := [.counters]) (by decide) (.start _ s) _) (by decide)
  exact hcount.trans (writeLog_wrote _ _).logged

/-- What becomes of the pocket after a sheet: nothing, or the collation ends. -/
structure SheetSettled (l : List LogBody) (s t : State) : Prop where
  logged : Logged l 1 s t
  keeps : KeepsAllBut (writeParts ++ [.counters, .collecting, .staging]) s t

section
variable {c : Collation} {s : State}

theorem SheetSettled.goesOn (s : State) : SheetSettled [] s s :=
  ⟨(Logged.of_keeps (f := []) (.start _ s) (by simp)).more (Nat.zero_le 1), .start _ s⟩

theorem endNormal_keeps (c : Collation) (s : State) :
    KeepsAllBut [.collecting, .staging] s (moveToStaging (setCollecting (.complete c) s)) :=
  moveToStaging_keeps (List.Subset.refl _) ((setCollecting_keeps' _ s).more (by decide))

/-- A normal collation goes into an EMPTY staging pocket, and else stays COMPLETE (R31, R36). -/
theorem endNormal_pockets (c : Collation) (s : State) :
    (s.collation.staging = none → (moveToStaging (setCollecting (.complete c) s)).collation.collecting = .empty ∧
      (moveToStaging (setCollecting (.complete c) s)).collation.staging = some c) ∧
    ∀ b, s.collation.staging = some b → (moveToStaging (setCollecting (.complete c) s)).collation.collecting = .complete c ∧
      (moveToStaging (setCollecting (.complete c) s)).collation.staging = some b := by
  refine ⟨fun h => ?_, fun b h => ?_⟩ <;> simp [moveToStaging, setCollecting, setStaging, h]

theorem endNormal_settled (c : Collation) (s : State) : SheetSettled [] s (moveToStaging (setCollecting (.complete c) s)) :=
  ⟨Logged.of_keeps (endNormal_keeps c s) (by decide) |>.more (by decide), (endNormal_keeps c s).more (by decide)⟩

theorem endFinished_settled (c : Collation) (s : State) :
    SheetSettled [.piece (c.logOf .handFinish)] s (disposeCollation .handFinish c (setCollecting .empty s)) where
  logged := (Logged.of_keeps (setCollecting_keeps' .empty s) (by decide)).trans (finishCollation_logged c _)
  keeps := ((setCollecting_keeps' .empty s).more (by decide)).trans ((finishCollation_keeps c _).more (by decide))

end

section
variable {d : Collation} {page : Nat} {cls : SheetClass} {s : State} (hd : s.collation.collecting = .collecting d)
include hd

theorem checkCompletion_normal (h : completes d page cls = true ∨ s.collation.sheetLimit ≤ d.sheets.length)
    (hf : d.handFinish = false) : checkCompletion page cls s =
      moveToStaging (setCollecting (.complete (asItEnds (completes d page cls = true) d)) s) := by
  rw [checkCompletion_of_ends hd h, endCollation_of_normal (asItEnds_handFinish.trans hf)]

theorem checkCompletion_finished (h : completes d page cls = true ∨ s.collation.sheetLimit ≤ d.sheets.length)
    (hf : d.handFinish = true) (hs : s.line.state ≠ .draining) : checkCompletion page cls s =
      disposeCollation .handFinish d (setCollecting .empty s) := by
  rw [checkCompletion_of_ends hd h, asItEnds, if_pos (.inr hf), endCollation_of_handFinish hf hs]

theorem checkCompletion_settled (hs : s.line.state ≠ .draining) : ∃ l, SheetSettled l s (checkCompletion page cls s) := by
  by_cases h : completes d page cls = true ∨ s.collation.sheetLimit ≤ d.sheets.length
  · cases hf : d.handFinish with
    | true =>
      rw [checkCompletion_finished hd h hf hs]
      exact ⟨_, endFinished_settled d s⟩
    | false =>
      rw [checkCompletion_normal hd h hf]
      exact ⟨_, endNormal_settled _ s⟩
  · obtain ⟨hc, hl⟩ := not_or.mp h
    rw [checkCompletion_of_goesOn hd hc hl]
    exact ⟨_, .goesOn s⟩

end

/-! ### The answer and what follows it -/

section
variable {frame : OwnBody} {d : Collation} {l : List LogBody} {s t v : State}

theorem SheetAnswered.own_room (h : SheetAnswered frame d s t) (h' : SheetSettled l t v) {i : Nat} {e : StationEntry}
    (he : stationOfKind .sheetDivert s = some (i, e)) (hroom : s.ring.own.length < 32) :
    ∃ more, v.ring.own = s.ring.own ++ ⟨e.dst, frame⟩ :: more := by
  obtain ⟨more, hmore, -⟩ := h'.logged.queues
  exact ⟨more, by rw [hmore, h.room i e he hroom, List.append_assoc]; rfl⟩

theorem SheetAnswered.own_full (h : SheetAnswered frame d s t) (h' : SheetSettled l t v) {i : Nat} {e : StationEntry}
    (he : stationOfKind .sheetDivert s = some (i, e)) (hfull : 32 ≤ s.ring.own.length) : v.ring.own = s.ring.own ∧
      ∀ j y, stationOfNode e.dst.toNat s = some (j, y) → stationAt j v = some { y with status := .absent } := by
  obtain ⟨hown, habsent⟩ := h.full i e he hfull
  refine ⟨(h'.logged.grows.full (by rwa [hown])).trans hown, fun j y hy => ?_⟩
  obtain ⟨change, hchange, hst⟩ := h'.logged.stations.entries
  rw [hst, habsent j y hy, Option.map_some]
  obtain hc | hc := hchange j { y with status := .absent } <;> rw [hc]

theorem SheetAnswered.stations_kept (h : SheetAnswered frame d s t) (h' : SheetSettled l t v)
    (hnot : ¬(32 ≤ s.ring.own.length ∧ stationOfKind .sheetDivert s ≠ none)) :
    StationsKept id (s.ring.own.length + 2 ≤ 32) s v := by
  obtain ⟨hst, hlen⟩ := h.stations hnot
  exact hst.trans h'.logged.stations (fun _ => trivial) fun hroom => .inl (by omega)

theorem SheetAnswered.alerts_kept (h : SheetAnswered frame d s t) (h' : SheetSettled l t v) :
    AlertsKeptBut [.reserve, .station] s v := (h.alerts.more (by decide)).trans h'.logged.alerts

end

/-! ### The sheet of the open collation -/

theorem takeScan_of_joined {x : Scan} {c : Collation} {page pages : Nat} {s : State} (hopen : IntakeOpen s)
    (hc : s.collation.collecting = .collecting c) (hread : x.read = some (c.job.seq, c.job.inc, page, pages)) :
    takeScan x s = addSheet x page pages c s := by
  rw [takeScan_of_collecting hopen hc, judgeCollecting, hread]
  exact if_pos (Collation.isOf_iff.mpr ⟨rfl, rfl⟩)

theorem intakeOpen_not_draining {s : State} (h : IntakeOpen s) : s.line.state ≠ .draining := by
  obtain ⟨h | h | h | h, -⟩ := h <;> rw [h] <;> decide

theorem afterAnswer_sheetTaken (x : Scan) (b c : Collation) (s : State) : afterAnswer c (sheetTaken x b s) = afterAnswer c s := rfl

theorem afterAnswer_fields (c : Collation) (s : State) : (afterAnswer c s).job = c.job ∧
    (afterAnswer c s).handFinish = c.handFinish ∧ (afterAnswer c s).sheets = c.sheets := by
  unfold afterAnswer
  split <;> exact ⟨rfl, rfl, rfl⟩

/-- Settles O32: the sheet is taken into the pocket and answered, and the collation goes on or ends. -/
theorem sheetsJoinTheirCollation : Obligations.SheetsJoinTheirCollation := by
  refine ⟨fun x m => ⟨x.reference_eq, x.classify_eq m, congrArg Stock.ring (x.learn_single m)⟩, fun c page pages reading cls note =>
    addSheet_fields c page pages reading cls note, fun h x c page pages s hr hscanner hopen hc hread => ?_⟩
  intro stock cls joined dropped d complete ends final
  have hstock : (scanOf x).stock < 4 := Nat.mod_lt _ (by decide)
  have htaken := sheetTaken_keeps (scanOf x) joined s
  have hd : afterAnswer joined (sheetTaken (scanOf x) joined s) = d := afterAnswer_sheetTaken (scanOf x) joined joined s
  have hanswered := answerAdded_answered (x := scanOf x) (c := joined) (s := sheetTaken (scanOf x) joined s) rfl
  rw [hd] at hanswered
  have hwork : takeScan (scanOf x) s = checkCompletion page cls.1 (answerAdded (scanOf x) joined (sheetTaken (scanOf x) joined s)) :=
    takeScan_of_joined hopen hc hread
  have hdispatch := exec_sheetScan_of_scanner (x := x) hr hscanner
  rw [hwork] at hdispatch
  obtain ⟨hjob, hhand, hsheets⟩ : d.job = c.job ∧ d.handFinish = c.handFinish ∧ d.sheets = joined.sheets :=
    hd ▸ afterAnswer_fields joined (sheetTaken (scanOf x) joined s)
  generalize answerAdded (scanOf x) joined (sheetTaken (scanOf x) joined s) = t at hanswered hdispatch
  have hkeeps : KeepsAllBut (frameParts ++ [.stocks, .collecting, .strays]) s t :=
    (htaken.more (by decide)).trans (hanswered.keeps.more (by decide))
  have hcollecting := hanswered.collecting
  have hstate : t.line.state ≠ .draining := by
    rw [hkeeps.state_eq (by decide)]
    exact intakeOpen_not_draining hopen
  have hstaging : t.collation.staging = s.collation.staging := hkeeps .staging (by decide)
  have hlimit : t.collation.sheetLimit = s.collation.sheetLimit := hkeeps .sheetLimit (by decide)
  have hlog : t.log = s.log := hkeeps.log_eq (by decide) (by decide) (by decide) (by decide)
  have hreserve : alertOf .reserve t = alertOf .reserve s := hanswered.alerts _ (by decide)
  have hcounters : t.line.counters = s.line.counters := hkeeps.counters_eq (by decide)
  have hcomplete : completes d page cls.1 = true ↔ complete := by rw [completes_true_iff, hjob]
  have hends : completes d page cls.1 = true ∨ t.collation.sheetLimit ≤ d.sheets.length ↔ ends := by
    rw [hcomplete, hlimit]
  have hfinal : c.handFinish = false → asItEnds (completes d page cls.1 = true) d = final := fun hf => by
    have hnot : d.handFinish = false := hhand.trans hf
    by_cases hc : complete
    · exact (if_pos (.inl (hcomplete.mpr hc))).trans (if_pos hc).symm
    · exact (if_neg (by simp [hcomplete, hc, hnot])).trans (if_neg hc).symm
  have hgoes : ¬ends → checkCompletion page cls.1 t = t := fun he => by
    obtain ⟨h1, h2⟩ := not_or.mp (hends.not.mpr he)
    exact checkCompletion_of_goesOn hcollecting h1 h2
  have hnormal : ends → c.handFinish = false →
      checkCompletion page cls.1 t = moveToStaging (setCollecting (.complete final) t) := fun he hf =>
    hfinal hf ▸ checkCompletion_normal hcollecting (hends.mpr he) (hhand.trans hf)
  obtain ⟨l, hsettled⟩ := checkCompletion_settled (page := page) (cls := cls.1) hcollecting hstate
  have hstocks : ∀ i, stockAt i (checkCompletion page cls.1 t) = stockAt i (sheetTaken (scanOf x) joined s) := fun i => by
    have h1 : (checkCompletion page cls.1 t).caliper.stocks = t.caliper.stocks := hsettled.keeps .stocks (by decide)
    have h2 : t.caliper.stocks = (sheetTaken (scanOf x) joined s).caliper.stocks := hanswered.keeps .stocks (by decide)
    rw [stockAt, h1, h2, stockAt]
  have hstrays : (checkCompletion page cls.1 t).collation.strays = t.collation.strays := hsettled.keeps .strays (by decide)
  refine ⟨checkCompletion page cls.1 t, hdispatch, ?_, fun i hi => ?_, ?_, fun i e he hroom => ?_, fun i e he hfull =>
    hanswered.own_full hsettled he hfull, fun he => ?_, fun he hf => ?_, fun hor => ?_, fun he hf => ?_,
    fun hnot => (StationsKept.of_keeps (room := True) htaken (by decide) (by decide)).trans
      (hanswered.stations_kept hsettled hnot) (fun _ => trivial) id, hanswered.alerts_kept hsettled,
    (hkeeps.more (by decide)).trans (hsettled.keeps.more (by decide))⟩
  · rw [hstocks, stockAt_sheetTaken hstock, if_pos rfl]
    split
    · next h => exact (congrArg _ h).trans (Stock.learn_single ..)
    · next h => exact Stock.learn_other _ _ h
  · rw [hstocks, stockAt_sheetTaken hstock, if_neg hi]
  · exact hstrays.trans (hanswered.keeps .strays (by decide))
  · exact hanswered.own_room hsettled he hroom
  · rw [hgoes he]
    exact ⟨hcollecting, hstaging, hcounters⟩
  · rw [hnormal he hf]
    obtain ⟨hnone, hsome⟩ := endNormal_pockets final t
    rw [hstaging] at hnone hsome
    exact ⟨((endNormal_keeps final t).counters_eq (by decide)).trans hcounters, hnone, hsome⟩
  · by_cases he : ends
    · rw [hnormal he (hor.resolve_left (not_not.mpr he))]
      exact ((endNormal_keeps final t).log_eq (by decide) (by decide) (by decide) (by decide)).trans hlog
    · rw [hgoes he, hlog]
  · have hfinish : d.handFinish = true := hhand.trans hf
    rw [checkCompletion_finished hcollecting (hends.mpr he) hfinish hstate]
    have htook := LogTookAll.one.mp (endFinished_settled d t).logged.took
    have hpockets := disposeCollation_collation .handFinish d (setCollecting .empty t)
    rw [hpockets]
    refine ⟨rfl, hstaging, ?_, ?_⟩
    · have hbody : d.logOf .handFinish = { d.logOf .handFinish with seq := c.job.seq, inc := c.job.inc } := by
        rw [← hjob]
        rfl
      rw [hbody] at htook
      exact htook.of_log_eq hlog.symm rfl hreserve.symm rfl
    · rw [finishCollation_eq, writeLog_counters]
      change t.line.counters.bump .handFinish = _
      rw [hcounters]
      rfl

end Sys2Proof.Machine
end


section
/-! Sheets that open a collation, and sheets that close one of another record (01, 02, R10, R16, R26 to R28, R33, R35, R36). -/

namespace Sys2Proof.Machine

/-! ### A scan taken as in another state -/

theorem stationFor_of_stationsKept {room : Prop} {k : StationKind} {src : Node} {s t : State} (h : StationsKept id room s t)
    (hs : stationFor k src s ≠ none) : stationFor k src t ≠ none := by
  unfold stationFor at hs ⊢
  cases he : stationOfNode src.toNat s with
  | none => simp [he] at hs
  | some found =>
    obtain ⟨j, e⟩ := found
    rw [he] at hs
    obtain ⟨y, hy, hye⟩ := h.stationOfNode he
    have hkind : y.kind = e.kind := by
      obtain ⟨-, hkind, -⟩ := StationEntry.mk.injEq .. ▸ hye
      exact hkind
    rw [hy]
    dsimp only at hs ⊢
    rw [hkind]
    split at hs <;> simp_all

/-- A scan that the part takes up as it takes it up in another state does the same in both. -/
theorem exec_sheetScan_congr {h : Header} {x : RawScan} {room : Prop} {l : List Part} {s w : State} (hr : Reached h s)
    (hs : stationFor .sheetScanner h.src s ≠ none) (hk : KeepsAllBut l s w) (hreset : Part.resetHigh ∉ l)
    (hlink : Part.linkUp ∉ l) (hstations : StationsKept id room s w) (htake : takeScan (scanOf x) s = takeScan (scanOf x) w) :
    exec (.sheetScan h x) s = exec (.sheetScan h x) w := by
  obtain ⟨⟨hhigh, hup⟩, hrest⟩ := hr
  have hw : Reached h w := ⟨⟨(hk .resetHigh hreset).trans hhigh, (hk .linkUp hlink).trans hup⟩, hrest⟩
  rw [exec_sheetScan_of_scanner ⟨⟨hhigh, hup⟩, hrest⟩ hs, exec_sheetScan_of_scanner hw (stationFor_of_stationsKept hstations hs),
    htake]

theorem IntakeOpen.of_keeps {l : List Part} {s t : State} (h : IntakeOpen s) (hk : KeepsAllBut l s t) (hs : Part.runState ∉ l)
    (he : Part.ending ∉ l) : IntakeOpen t := by
  rw [IntakeOpen, hk.state_eq hs, hk.ending_eq he]
  exact h

/-! ### The head record taken (R10, R16, R28) -/

theorem removeHead_stations (s : State) : StationsKept id False s (removeHead s) := by
  have hgo : KeepsAllBut [.own, .held] (headTaken s) (checkGo (headTaken s)) := checkGo_keeps (List.Subset.refl _) (.start _ _)
  have hfirst : StationsKept id False s (checkGo (headTaken s)) :=
    .of_keeps ((headTaken_keeps s).more (m := [.records, .own, .held]) (by decide) |>.trans (hgo.more (by decide)))
      (by decide) (by decide)
  rw [removeHead_eq]
  split
  · exact hfirst.trans (evalPermit_stationsKept False.elim) id id
  · exact hfirst

/-- RECORD_GO is queued with the held flag's clearing, where there is room and a supervisor (R16). -/
theorem checkGo_goes {s : State} (h0 : s.supervisor ≠ 0) (h63 : s.supervisor ≠ 63) (hroom : s.ring.own.length < 32) :
    recordGoes s.ring.own.length (checkGo s) =
      if s.channel.held = true ∧ (checkGo s).channel.held = false then [⟨s.supervisor, .recordGo⟩] else [] := by
  unfold checkGo
  split
  · next hgo =>
    have hheld : s.channel.held = true := by
      simp only [Bool.and_eq_true] at hgo
      exact hgo.1
    have hown : (releaseFlow s).ring.own = s.ring.own ++ [⟨s.supervisor, .recordGo⟩] :=
      (sendSupervisor_own .recordGo (s.setChannel { s.channel with held := false })).trans (if_pos ⟨h0, h63, hroom⟩)
    rw [if_pos ⟨hheld, releaseFlow_held s⟩, recordGoes, hown, List.drop_left]
    rfl
  · rw [if_neg fun h => by simp [h.1] at h, recordGoes_self]

theorem removeHead_goes {s : State} (h0 : s.supervisor ≠ 0) (h63 : s.supervisor ≠ 63) (hroom : s.ring.own.length < 32) :
    recordGoes s.ring.own.length (removeHead s) =
      if s.channel.held = true ∧ (removeHead s).channel.held = false then [⟨s.supervisor, .recordGo⟩] else [] := by
  have hfirst := checkGo_goes (s := headTaken s) h0 h63 hroom
  rw [removeHead_eq]
  split
  · have hheld : (evalPermit (checkGo (headTaken s))).channel.held = (checkGo (headTaken s)).channel.held :=
      evalPermit_keeps (List.Subset.refl permitParts) (.start _ _) .held (by decide)
    have hle : s.ring.own.length ≤ (checkGo (headTaken s)).ring.own.length := (checkGo_flow (headTaken s)).own
    rw [(evalPermit_queues _).recordGoes_eq (by decide) hle, hheld]
    exact hfirst
  · exact hfirst

theorem removeHead_outputs {s : State} (hne : s.queue.records ≠ []) (h : OutputsFollowState s) :
    OutputsFollowState (removeHead s) := by
  have hgo : KeepsAllBut [.records, .own, .held] s (checkGo (headTaken s)) :=
    checkGo_keeps (by decide) ((headTaken_keeps s).more (by decide))
  rw [removeHead_eq]
  split
  · exact evalPermit_outputs hgo (by decide) (by decide) h
  · next hleft =>
    refine .of_keeps (hgo .runState (by decide)) (hgo .ending (by decide)) (hgo .drive (by decide)) (hgo .permit (by decide)) ?_
      (hgo .length (by decide)) (by rw [hgo.reprints_eq (by decide)])
      (hgo.log_eq (by decide) (by decide) (by decide) (by decide)) h
    rw [Bool.not_eq_true] at hleft
    rw [hleft]
    exact (Bool.eq_false_iff.mpr fun he => hne (List.isEmpty_iff.mp he)).symm

/-- The head record has left the queue, and a reprint record its entry (R10, R28). -/
def recordTaken (r : JobRecord) (s : State) : State := if r.reprint then removeEntry r.seq (removeHead s) else removeHead s

/-- The collation that opens on the head record (R28). -/
def collationOpened (r : JobRecord) (s : State) : State := setCollecting (.collecting (Collation.start r)) (recordTaken r s)

theorem openCollation_eq (x : Scan) (page pages : Nat) (r : JobRecord) (s : State) :
    openCollation x page pages r s = addSheet x page pages (Collation.start r) (collationOpened r s) := rfl

section
variable {r : JobRecord} {s : State}

theorem removeEntry_reprints (seq : Nat) (s : State) :
    (removeEntry seq s).reprints = s.reprints.eraseP (ReprintEntry.isQueued seq) :=
  (evalPermit_keeps (List.Subset.refl permitParts) (.start _ _)).reprints_eq (by decide)

theorem recordTaken_step (r : JobRecord) (s : State) : KeepsAllBut (permitParts ++ [.reprints]) (removeHead s) (recordTaken r s) := by
  unfold recordTaken
  split
  · exact removeEntry_keeps (List.Subset.refl _) (.start _ _) _
  · exact .start _ _

theorem recordTaken_keeps (r : JobRecord) (s : State) :
    KeepsAllBut (permitParts ++ [.held, .records, .reprints]) s (recordTaken r s) :=
  ((removeHead_keeps' s).more (by decide)).trans ((recordTaken_step r s).more (by decide))

theorem removeEntry_queues (seq : Nat) (s : State) : Queues [19, 9] s (removeEntry seq s) :=
  (Queues.of_eq (t := s.setReprints (s.reprints.eraseP (ReprintEntry.isQueued seq))) rfl).trans (evalPermit_queues _)

theorem recordTaken_stations (r : JobRecord) (s : State) : StationsKept id False s (recordTaken r s) := by
  unfold recordTaken
  split
  · have hentry : StationsKept id False (removeHead s) (removeEntry r.seq (removeHead s)) :=
      (StationsKept.of_eq (room := False) (s := removeHead s)
        (t := (removeHead s).setReprints ((removeHead s).reprints.eraseP (ReprintEntry.isQueued r.seq))) rfl rfl).trans
        (evalPermit_stationsKept (room := False) False.elim) id id
    exact (removeHead_stations s).trans hentry id id
  · exact removeHead_stations s

theorem recordTaken_goes (h0 : s.supervisor ≠ 0) (h63 : s.supervisor ≠ 63) (hroom : s.ring.own.length < 32) :
    recordGoes s.ring.own.length (recordTaken r s) =
      if s.channel.held = true ∧ (recordTaken r s).channel.held = false then [⟨s.supervisor, .recordGo⟩] else [] := by
  have hheld : (recordTaken r s).channel.held = (removeHead s).channel.held := recordTaken_step r s .held (by decide)
  have hsame : recordGoes s.ring.own.length (recordTaken r s) = recordGoes s.ring.own.length (removeHead s) := by
    unfold recordTaken
    split
    · exact (removeEntry_queues _ _).recordGoes_eq (by decide) (removeHead_flow s).own
    · rfl
  rw [hsame, hheld]
  exact removeHead_goes h0 h63 hroom

theorem recordTaken_outputs (hne : s.queue.records ≠ []) (h : OutputsFollowState s) : OutputsFollowState (recordTaken r s) := by
  unfold recordTaken
  split
  · have hk : KeepsAllBut [.reprints] (removeHead s)
        ((removeHead s).setReprints ((removeHead s).reprints.eraseP (ReprintEntry.isQueued r.seq))) := by
      intro p hp
      cases p <;> first | rfl | exact absurd (by decide) hp
    exact evalPermit_outputs hk (by decide) (by decide) (removeHead_outputs hne h)
  · exact removeHead_outputs hne h

theorem recordTaken_reprints (r : JobRecord) (s : State) : (recordTaken r s).reprints =
    if r.reprint then s.reprints.eraseP (ReprintEntry.isQueued r.seq) else s.reprints := by
  have hsame : (removeHead s).reprints = s.reprints := (removeHead_keeps' s).reprints_eq (by decide)
  unfold recordTaken
  split
  · rw [removeEntry_reprints, hsame]
  · exact hsame

theorem setCollecting_outputs (c : Collecting) (h : OutputsFollowState s) : OutputsFollowState (setCollecting c s) :=
  .of_keeps rfl rfl rfl rfl rfl rfl rfl rfl h

theorem collationOpened_keeps (r : JobRecord) (s : State) :
    KeepsAllBut (permitParts ++ [.held, .records, .reprints, .collecting]) s (collationOpened r s) :=
  ((recordTaken_keeps r s).more (by decide)).trans ((setCollecting_keeps' _ _).more (by decide))

theorem collationOpened_stations (r : JobRecord) (s : State) : StationsKept id False s (collationOpened r s) :=
  (recordTaken_stations r s).trans (.of_keeps (setCollecting_keeps' _ _) (by decide) (by decide)) id id

end

/-- A sheet that matches the head record with the pocket EMPTY and the gate open is a sheet of the collation it opens. -/
theorem takeScan_of_opening {x : Scan} {page pages : Nat} {r : JobRecord} {rest : List JobRecord} {s : State}
    (hopen : IntakeOpen s) (hread : x.read = some (r.seq, r.inc, page, pages)) (hc : s.collation.collecting = .empty)
    (hr : s.queue.records = r :: rest) (hgate : r.reprint = true ∨ inFlightCount s < reprintFree s) :
    takeScan x s = takeScan x (collationOpened r s) := by
  have hhead : s.queue.records.head? = some r := by rw [hr]; rfl
  have hgateOpen : (r.reprint || gateOpen s) = true := by simpa [gateOpen] using hgate
  have hopened : IntakeOpen (collationOpened r s) := hopen.of_keeps (collationOpened_keeps r s) (by decide) (by decide)
  have hstart : (collationOpened r s).collation.collecting = .collecting (Collation.start r) := rfl
  rw [takeScan_of_not_collecting hopen (by simp [hc]), judgeHead_of_match hread hhead, hc,
    takeScan_of_joined hopened hstart hread]
  exact (if_pos hgateOpen).trans (openCollation_eq ..)

/-! ### The open collation closed (R33) -/

section
variable {x : Scan} {c : Collation} {seq inc page pages : Nat} {s : State}

theorem closeCollation_of_handFinish (hf : c.handFinish = true) (hs : s.line.state ≠ .draining) :
    closeCollation c s = disposeCollation .handFinish (c.addFault .missingPage) (setCollecting .empty s) :=
  endCollation_of_handFinish (c := c.addFault .missingPage) hf hs

theorem closeCollation_of_normal (hf : c.handFinish = false) (s : State) :
    closeCollation c s = moveToStaging (setCollecting (.complete (c.addFault .missingPage)) s) :=
  endCollation_of_normal (c := c.addFault .missingPage) hf s

theorem closeCollation_settled (c : Collation) (hs : s.line.state ≠ .draining) : ∃ l, SheetSettled l s (closeCollation c s) := by
  cases hf : c.handFinish with
  | true =>
    rw [closeCollation_of_handFinish hf hs]
    exact ⟨_, endFinished_settled _ s⟩
  | false =>
    rw [closeCollation_of_normal hf]
    exact ⟨_, endNormal_settled _ s⟩

theorem closeCollation_collecting (c : Collation) (hs : s.line.state ≠ .draining) (d : Collation) :
    (closeCollation c s).collation.collecting ≠ .collecting d := by
  cases hf : c.handFinish with
  | true =>
    rw [closeCollation_of_handFinish hf hs, disposeCollation_collation]
    exact fun h => by cases h
  | false =>
    rw [closeCollation_of_normal hf]
    obtain ⟨hnone, hsome⟩ := endNormal_pockets (c.addFault .missingPage) s
    cases hst : s.collation.staging with
    | none =>
      rw [(hnone hst).1]
      exact fun h => by cases h
    | some b =>
      rw [(hsome b hst).1]
      exact fun h => by cases h

/-- A sheet of another record is judged with the open collation closed. -/
theorem takeScan_of_foreign (hopen : IntakeOpen s) (hread : x.read = some (seq, inc, page, pages))
    (hc : s.collation.collecting = .collecting c) (hother : ¬(seq = c.job.seq ∧ inc = c.job.inc)) :
    takeScan x s = takeScan x (closeCollation c s) := by
  have hs := intakeOpen_not_draining hopen
  obtain ⟨l, hsettled⟩ := closeCollation_settled c hs
  have hopen' : IntakeOpen (closeCollation c s) := hopen.of_keeps hsettled.keeps (by decide) (by decide)
  rw [takeScan_of_collecting hopen hc, judgeCollecting, hread, takeScan_of_not_collecting hopen' (closeCollation_collecting c hs)]
  refine if_neg ?_
  rw [Collation.isOf_iff]
  exact fun h => hother ⟨h.1.symm, h.2.symm⟩

end

/-- Settles O33: the state with the collation opened, or closed, takes up the sheet as the state before does. -/
theorem sheetsOpenAndCloseCollations : Obligations.SheetsOpenAndCloseCollations := by
  intro h x seq inc page pages s hr hscanner hopen hread
  refine ⟨fun r rest hc hrecords hseq hinc hgate => ?_, fun c hc hother => ?_⟩
  · subst hseq hinc
    have hkeeps := collationOpened_keeps r s
    have hheld : (collationOpened r s).channel.held = (removeHead s).channel.held := recordTaken_step r s .held (by decide)
    have hqueue : (collationOpened r s).queue.records = (removeHead s).queue.records :=
      (recordTaken_step r s).records_eq (by decide)
    refine ⟨collationOpened r s, exec_sheetScan_congr hr hscanner hkeeps (by decide) (by decide) (collationOpened_stations r s)
      (takeScan_of_opening hopen hread hc hrecords hgate), ?_, rfl, recordTaken_reprints r s, ?_,
      fun h0 h63 hroom => recordTaken_goes h0 h63 hroom,
      fun hout => setCollecting_outputs _ (recordTaken_outputs (by simp [hrecords]) hout), hkeeps⟩
    · rw [hqueue, removeHead_records, hrecords]
      rfl
    · rw [hheld, removeHead_held, hrecords]
      rfl
  · have hs := intakeOpen_not_draining hopen
    obtain ⟨l, hsettled⟩ := closeCollation_settled c hs
    refine ⟨closeCollation c s, exec_sheetScan_congr hr hscanner hsettled.keeps (by decide) (by decide) hsettled.logged.stations
      (takeScan_of_foreign hopen hread hc hother), fun hf => ?_, fun hf => ?_⟩
    · rw [closeCollation_of_handFinish hf hs]
      have htook := LogTookAll.one.mp (endFinished_settled (c.addFault .missingPage) s).logged.took
      have hcollation := disposeCollation_collation .handFinish (c.addFault .missingPage) (setCollecting .empty s)
      refine ⟨by rw [hcollation]; rfl, by rw [hcollation]; rfl, ?_, htook,
        ((setCollecting_keeps' _ s).more (by decide)).trans ((finishCollation_keeps _ _).more (by decide))⟩
      rw [finishCollation_eq, writeLog_counters]
      rfl
    · rw [closeCollation_of_normal hf]
      obtain ⟨hnone, hsome⟩ := endNormal_pockets (c.addFault .missingPage) s
      exact ⟨hnone, hsome, endNormal_keeps _ s⟩

end Sys2Proof.Machine
end


section
/-! Arrivals (03, 04, 05, R57, R67, R81 to R84, R88 to R91, R94, R163): what the plan and the mode make of a piece at a station,
and a command that a full own-frame queue drops. -/

namespace Sys2Proof.Machine

/-! ### Writes to a slot, and the alert and station writes of R73 -/

section
variable {n i : Nat} {p q : Piece} {w : Window} {e : StationEntry} {s : State}

theorem putSlot_putSlot (n : Nat) (x y : Option Piece) (s : State) : putSlot n y (putSlot n x s) = putSlot n y s := by
  simp only [putSlot, State.setTrack_track, List.set_set]
  rfl

theorem sendSupervisor_putSlot (body : OwnBody) (n : Nat) (x : Option Piece) (s : State) :
    sendSupervisor body (putSlot n x s) = putSlot n x (sendSupervisor body s) := by
  have hplain : ∀ dst, sendPlain dst body (putSlot n x s) = putSlot n x (sendPlain dst body s) := fun dst => by
    have hfull : ownFull (putSlot n x s) = ownFull s := rfl
    unfold sendPlain
    rw [hfull]
    split <;> rfl
  have hreach : supervisorReachable (putSlot n x s) = supervisorReachable s := rfl
  unfold sendSupervisor
  rw [hreach]
  split
  · exact hplain s.supervisor
  · rfl

theorem raiseAlert_putSlot (d : AlertDetail) (n : Nat) (x : Option Piece) (s : State) :
    raiseAlert d (putSlot n x s) = putSlot n x (raiseAlert d s) := by
  have hsame : alertOf d.cls (putSlot n x s) = alertOf d.cls s := rfl
  unfold raiseAlert
  dsimp only
  rw [hsame]
  split
  · rfl
  · exact sendSupervisor_putSlot _ n x (setAlert d.cls _ s)

theorem absentAfter_putSlot (i : Nat) (e : StationEntry) (n : Nat) (x : Option Piece) (s : State) :
    absentAfter i e (putSlot n x s) = putSlot n x (absentAfter i e s) := by
  unfold absentAfter
  split
  · rfl
  · exact raiseAlert_putSlot _ n x (putStation i (some { e with status := .absent }) s)

/-! ### A command that the full own-frame queue drops (R88, R90, R94, R163) -/

theorem closeWindow_openWindow (hq : q.windowFor i = none) (hw : w.station = i) : (q.openWindow w).closeWindow i = q := by
  have hothers : q.windows.filter (fun w => w.station != i) = q.windows := by
    rw [List.filter_eq_self]
    intro v hv
    have := List.find?_eq_none.mp hq v hv
    simpa using this
  simp only [Piece.openWindow, Piece.closeWindow, List.filter_append, hothers]
  simp [hw]

/-- The one piece with a tag awaits the result of the window just opened for it. -/
theorem awaits_openWindow (hp : pieceAt n s = some p) (hq : q.tag = p.tag) (hw : w.station = i) (hnone : q.windowFor i = none)
    (hunique : ∀ m < s.track.slots.length, ∀ r, pieceAt m s = some r → r.tag = p.tag → m = n) :
    Awaits n i p.tag (q.openWindow w) w (putSlot n (some (q.openWindow w)) s) := by
  have hn := lt_length_of_pieceAt hp
  refine ⟨?_, hq, ?_, fun m hm r hr htag => ?_⟩
  · rw [pieceAt_putSlot _ _ _ _ hn, if_pos rfl]
  · have hopened : (q.openWindow w).windowFor i = (q.windowFor i).or ([w].find? fun v => v.station == i) := List.find?_append
    rw [hopened, hnone]
    simp [hw]
  · by_cases hmn : m = n
    · exact hmn
    · rw [pieceAt_putSlot _ _ _ _ hn, if_neg hmn] at hr
      rw [putSlot, State.setTrack_track, List.length_set] at hm
      exact hunique m hm r hr htag

/-- A station's command is dropped by the full own-frame queue, and the piece is the only one with its tag and has no other
window open for the station. -/
structure CommandDropped (n i : Nat) (p : Piece) (e : StationEntry) (s : State) : Prop where
  full : 32 ≤ s.ring.own.length
  node : stationOfNode e.dst.toNat s = some (i, e)
  window : p.windowFor i = none
  unique : ∀ m < s.track.slots.length, ∀ q, pieceAt m s = some q → q.tag = p.tag → m = n

section
variable (hp : pieceAt n s = some p) (hd : CommandDropped n i p e s) (hq : q.tag = p.tag) (hwin : q.windowFor i = none)
  (hw : w.station = i)
include hp hd hq hwin hw

theorem awaits_dropped : Awaits n i p.tag (q.openWindow w) w (absentAfter i e (putSlot n (some (q.openWindow w)) s)) := by
  refine (awaits_openWindow hp hq hw hwin hd.unique).of_slots ?_
  exact absentAfter_keeps (s := putSlot n (some (q.openWindow w)) s) (stationOfNode_some hd.node).2.1 .slots (by decide)

theorem feedUntaken_dropped {k : FeedKind} (hk : w.kind = .feed k) :
    feedUntaken e.dst p.tag (putSlot n (some (q.openWindow w)) s) =
      putSlot n (some (q.feedResult i e.caliper k .miss)) (absentAfter i e s) := by
  rw [feedUntaken_of_some (show stationOfNode e.dst.toNat (putSlot n (some (q.openWindow w)) s) = some (i, e) from hd.node),
    feedOutcomeAt_of_awaits (awaits_dropped hp hd hq hwin hw) hk,
    closeWindow_openWindow hwin hw, absentAfter_putSlot, putSlot_putSlot]

theorem envUntaken_dropped (hk : w.kind = .envelope) : envUntaken e.dst p.tag (putSlot n (some (q.openWindow w)) s) =
    putSlot n (some (q.addFault .envelopeFault)) (absentAfter i e s) := by
  rw [envUntaken_of_some (show stationOfNode e.dst.toNat (putSlot n (some (q.openWindow w)) s) = some (i, e) from hd.node),
    envelopeFaultAt_of_awaits (awaits_dropped hp hd hq hwin hw) hk,
    closeWindow_openWindow hwin hw, absentAfter_putSlot, putSlot_putSlot]

theorem armUntaken_dropped (hk : w.kind = .scan) : armUntaken e.dst p.tag (putSlot n (some (q.openWindow w)) s) =
    putSlot n (some q.failedRead) (absentAfter i e s) := by
  rw [armUntaken_of_some (show stationOfNode e.dst.toNat (putSlot n (some (q.openWindow w)) s) = some (i, e) from hd.node),
    failedReadAt_of_awaits (awaits_dropped hp hd hq hwin hw) hk,
    closeWindow_openWindow hwin hw, absentAfter_putSlot, putSlot_putSlot]

end

end

/-! ### The feed (R84) -/

section
variable {n i : Nat} {p q : Piece} {e : StationEntry} {k : FeedKind} {s : State}

theorem sendFeed_of_room (hroom : s.ring.own.length < 32) : sendFeed i n e p k s =
    pushOwn e.dst (.feedCmd p.tag k) (putSlot n (some (p.openWindow (e.windowOf i (.feed k)))) s) :=
  if_neg (by rw [ownFull_iff]; exact Nat.not_le.mpr hroom)

theorem sendFeed_of_dropped (hp : pieceAt n s = some p) (hd : CommandDropped n i p e s) (hq : q.tag = p.tag)
    (hwin : q.windowFor i = none) :
    sendFeed i n e q k s = putSlot n (some (q.feedResult i e.caliper k .miss)) (absentAfter i e s) := by
  rw [← feedUntaken_dropped (w := e.windowOf i (.feed k)) hp hd hq hwin rfl rfl, ← hq]
  exact if_pos (ownFull_iff.mpr hd.full)

/-! ### The arrival by the station's kind (R67, R81 to R84, R89, R91) -/

theorem arriveAt_eq (hp : pieceAt n s = some p) (he : stationAt i s = some e) : arriveAt n i s =
    if p.diverted then s
    else match e.kind with
      | .insert => insertArrival i n e p s
      | .envelope => envelopeArrival i n e p s
      | .scanOut => scanArrival i n e p s
      | _ => s := by
  simp only [arriveAt, hp, he] <;> rfl

theorem arriveAt_insert (hp : pieceAt n s = some p) (he : stationAt i s = some e) (hd : p.diverted = false)
    (hk : e.kind = .insert) : arriveAt n i s = insertArrival i n e p s := by
  rw [arriveAt_eq hp he, hd, hk]
  rfl

theorem arriveAt_envelope (hp : pieceAt n s = some p) (he : stationAt i s = some e) (hd : p.diverted = false)
    (hk : e.kind = .envelope) : arriveAt n i s = envelopeArrival i n e p s := by
  rw [arriveAt_eq hp he, hd, hk]
  rfl

theorem arriveAt_scanOut (hp : pieceAt n s = some p) (he : stationAt i s = some e) (hd : p.diverted = false)
    (hk : e.kind = .scanOut) : arriveAt n i s = scanArrival i n e p s := by
  rw [arriveAt_eq hp he, hd, hk]
  rfl

theorem StationMode.active_iff {m : StationMode} : m.active = true ↔ m = .normal ∨ m = .force := by
  cases m <;> simp [StationMode.active]

theorem envelopeArrival_of_inactive (h : ¬(e.effectiveMode = .normal ∨ e.effectiveMode = .force)) :
    envelopeArrival i n e p s = putSlot n (some (p.addFault .envelopeFault)) s :=
  if_neg (by rwa [StationMode.active_iff])

theorem envelopeArrival_of_room (h : e.effectiveMode = .normal ∨ e.effectiveMode = .force) (hroom : s.ring.own.length < 32) :
    envelopeArrival i n e p s =
      pushOwn e.dst (.envCmd p.tag) (putSlot n (some (p.openWindow (e.windowOf i .envelope))) s) :=
  (if_pos (StationMode.active_iff.mpr h)).trans (if_neg (by rw [ownFull_iff]; exact Nat.not_le.mpr hroom))

theorem envelopeArrival_of_dropped (h : e.effectiveMode = .normal ∨ e.effectiveMode = .force) (hp : pieceAt n s = some p)
    (hd : CommandDropped n i p e s) :
    envelopeArrival i n e p s = putSlot n (some (p.addFault .envelopeFault)) (absentAfter i e s) := by
  rw [← envUntaken_dropped (w := e.windowOf i .envelope) hp hd rfl hd.window rfl rfl]
  exact (if_pos (StationMode.active_iff.mpr h)).trans (if_pos (ownFull_iff.mpr hd.full))

theorem scanArrival_of_inactive (h : ¬(e.effectiveMode = .normal ∨ e.effectiveMode = .force)) :
    scanArrival i n e p s = putSlot n (some p.failedRead) s :=
  if_neg (by rwa [StationMode.active_iff])

theorem scanArrival_of_room (h : e.effectiveMode = .normal ∨ e.effectiveMode = .force) (hroom : s.ring.own.length < 32) :
    scanArrival i n e p s =
      pushOwn e.dst (.scanArm p.tag) (putSlot n (some (p.openWindow (e.windowOf i .scan))) s) :=
  (if_pos (StationMode.active_iff.mpr h)).trans (if_neg (by rw [ownFull_iff]; exact Nat.not_le.mpr hroom))

theorem scanArrival_of_dropped (h : e.effectiveMode = .normal ∨ e.effectiveMode = .force) (hp : pieceAt n s = some p)
    (hd : CommandDropped n i p e s) :
    scanArrival i n e p s = putSlot n (some p.failedRead) (absentAfter i e s) := by
  rw [← armUntaken_dropped (w := e.windowOf i .scan) hp hd rfl hd.window rfl rfl]
  exact (if_pos (StationMode.active_iff.mpr h)).trans (if_pos (ownFull_iff.mpr hd.full))

end

/-! ### The arrival at an INSERT station, case by case (R57, R81, R82) -/

section
variable {n i : Nat} {p : Piece} {e : StationEntry} {s : State}

theorem insertArrival_of_mandatory (hplan : p.planFor i = .mandatory) (ha : actionFor p.job i e = .mandatory) :
    insertArrival i n e p s = sendFeed i n e p .mandatory s := by
  simp only [insertArrival, hplan, ha]

/-- A candidate of the plan that may still feed (R81). -/
theorem insertArrival_of_candidate (h : (∃ k m, p.planFor i = .optional k ∧ actionFor p.job i e = .optional m) ∨
    (p.planFor i = .forced ∧ actionFor p.job i e = .forced)) : insertArrival i n e p s = sendFeed i n e p .optional s := by
  obtain ⟨k, m, hplan, ha⟩ | ⟨hplan, ha⟩ := h <;> simp only [insertArrival, hplan, ha]

/-- A forced feed decided at arrival (R57, R82). -/
theorem insertArrival_of_forced (hplan : p.planFor i = .none) (ha : actionFor p.job i e = .forced) (hd : i ∉ p.dropped) :
    insertArrival i n e p s = forcedAtArrival i n e p s := by
  simp only [insertArrival, hplan, ha]
  exact if_neg hd

theorem insertArrival_of_none (hplan : p.planFor i = .none) (h : actionFor p.job i e ≠ .forced ∨ i ∈ p.dropped) :
    insertArrival i n e p s = s := by
  cases ha : actionFor p.job i e with
  | forced =>
    simp only [insertArrival, hplan, ha]
    exact if_pos (h.resolve_left (not_not.mpr ha))
  | noFeed => simp only [insertArrival, hplan, ha]
  | mandatory => simp only [insertArrival, hplan, ha]
  | optional k => simp only [insertArrival, hplan, ha]

theorem forcedAtArrival_of_fits (h : p.caliper + e.caliper ≤ s.caliper.limit) :
    forcedAtArrival i n e p s = sendFeed i n e (p.addCaliper e.caliper) .optional s := if_pos h

theorem forcedAtArrival_of_over (h : s.caliper.limit < p.caliper + e.caliper) (hd : i ∉ p.dropped) :
    forcedAtArrival i n e p s = putSlot n (some { p with dropped := p.dropped ++ [i] }) s := by
  rw [forcedAtArrival, if_neg (Nat.not_le.mpr h), addOnce, if_neg hd]

end

/-- Settles O38: the cases of the plan and the action, each with its feed made or dropped, and those of the other stations. -/
theorem arrivalsFollowPlanAndMode : Obligations.ArrivalsFollowPlanAndMode := by
  intro n i p e s hp he window feed fits dropped untaken
  have hcommand : dropped → CommandDropped n i p e s := fun ⟨h1, h2, h3, h4⟩ => ⟨h1, h2, h3, h4⟩
  refine ⟨fun h => ?_, fun hd hk => ?_, fun hd hk => ?_, fun hd hk => ?_⟩
  · rw [arriveAt_eq hp he]
    split
    · rfl
    · next hnot =>
      obtain ⟨h1, h2, h3⟩ := h.resolve_left hnot
      cases hk : e.kind <;> simp_all
  · rw [arriveAt_insert hp he hd hk]
    refine ⟨fun hroom => ⟨fun hplan ha => ?_, fun k m hplan ha => ?_, fun hplan ha => ?_, fun hplan ha hnot hfits => ?_⟩,
      fun hdropped => ⟨fun hplan ha => ?_, fun hcandidate => ?_, fun hplan ha hnot hfits => ?_⟩, fun hplan ha hnot hover => ?_,
      fun hplan h => insertArrival_of_none hplan h, fun ha => ⟨fun hplan => ?_, fun k hplan => ?_, fun hplan => ?_⟩⟩
    · rw [insertArrival_of_mandatory hplan ha, sendFeed_of_room hroom]
      rfl
    · rw [insertArrival_of_candidate (.inl ⟨k, m, hplan, ha⟩), sendFeed_of_room hroom]
      rfl
    · rw [insertArrival_of_candidate (.inr ⟨hplan, ha⟩), sendFeed_of_room hroom]
      rfl
    · rw [insertArrival_of_forced hplan ha hnot, forcedAtArrival_of_fits hfits, sendFeed_of_room hroom]
      rfl
    · have hwindow := (hcommand hdropped).window
      rw [insertArrival_of_mandatory hplan ha, sendFeed_of_dropped hp (hcommand hdropped) rfl hwindow]
      rfl
    · have hwindow := (hcommand hdropped).window
      rw [insertArrival_of_candidate hcandidate, sendFeed_of_dropped hp (hcommand hdropped) rfl hwindow]
      rfl
    · have hwindow := (hcommand hdropped).window
      rw [insertArrival_of_forced hplan ha hnot, forcedAtArrival_of_fits hfits,
        sendFeed_of_dropped (q := p.addCaliper e.caliper) hp (hcommand hdropped) rfl hwindow]
      rfl
    · rw [insertArrival_of_forced hplan ha hnot, forcedAtArrival_of_over hover hnot]
    · simp only [insertArrival, hplan, ha]
      rfl
    · simp only [insertArrival, hplan, ha]
      rfl
    · simp only [insertArrival, hplan, ha]
      rfl
  · rw [arriveAt_envelope hp he hd hk]
    refine ⟨fun hfits hroom => ?_, fun hfits hdropped => ?_, fun hnot => ?_⟩
    · rw [envelopeArrival_of_room hfits hroom]
      rfl
    · rw [envelopeArrival_of_dropped hfits hp (hcommand hdropped)]
      rfl
    · rw [envelopeArrival_of_inactive hnot]
      rfl
  · rw [arriveAt_scanOut hp he hd hk]
    refine ⟨fun hfits hroom => ?_, fun hfits hdropped hm => ?_, fun hfits hdropped hm => ?_, fun hnot hm => ?_, fun hnot hm => ?_⟩
    · rw [scanArrival_of_room hfits hroom]
      rfl
    · rw [scanArrival_of_dropped hfits hp (hcommand hdropped), Piece.failedRead_of_required hm]
    · rw [scanArrival_of_dropped hfits hp (hcommand hdropped), Piece.failedRead_of_not_required hm]
    · rw [scanArrival_of_inactive hnot, Piece.failedRead_of_required hm]
    · rw [scanArrival_of_inactive hnot, Piece.failedRead_of_not_required hm]

end Sys2Proof.Machine
end


section
/-! The commit (03, 04, 05, R51, R52, R63, R66, R79, R80, R101, R102, R107): effective modes, what the piece built from a
collation holds, and the counts its match raises. -/

namespace Sys2Proof.Machine

/-! ### Effective modes and actions (R79, R80) -/

theorem StationEntry.effectiveMode_eq_off {e : StationEntry} :
    e.effectiveMode = .off ↔ e.mode = .off ∨ e.status = .fault ∨ e.status = .unknown ∨ e.status = .absent := by
  unfold StationEntry.effectiveMode
  cases e.mode <;> cases e.status <;> decide

theorem StationEntry.effectiveMode_eq_skip {e : StationEntry} :
    e.effectiveMode = .skip ↔ (e.mode = .skip ∧ (e.status = .ready ∨ e.status = .low ∨ e.status = .empty)) ∨
      (e.mode ≠ .off ∧ e.status = .empty) := by
  unfold StationEntry.effectiveMode
  cases e.mode <;> cases e.status <;> decide

theorem StationEntry.effectiveMode_eq_force {e : StationEntry} :
    e.effectiveMode = .force ↔ e.mode = .force ∧ (e.status = .ready ∨ e.status = .low) := by
  unfold StationEntry.effectiveMode
  cases e.mode <;> cases e.status <;> decide

theorem actionFor_optional_eq_noFeed {r : JobRecord} {i k : Nat} {e : StationEntry}
    (h : r.selectionFor i = some (.optional k)) :
    actionFor r i e = .noFeed ↔ e.effectiveMode = .skip ∨ e.effectiveMode = .off := by
  unfold actionFor
  rw [h]
  cases e.effectiveMode <;> simp [effectiveAction]

theorem withheldOptional_iff {r : JobRecord} {a : Nat × StationEntry × EffectiveAction} :
    withheldOptional r a = true ↔ (∃ k, r.selectionFor a.1 = some (.optional k)) ∧ a.2.2 = .noFeed := by
  unfold withheldOptional
  split
  · next k h => simp [h]
  · next h => exact ⟨fun hf => absurd hf (by simp), fun ⟨⟨k, hk⟩, _⟩ => absurd hk (h k)⟩

/-! ### The piece that a commit builds (R66) -/

/-- A piece is marked before its fill check (R66). -/
def markedBefore (c : Collation) (s : State) : Bool :=
  !c.faults.isEmpty || (insertActions c.job s).any (withheldMandatory c.job)

/-- The fill check of the piece a collation becomes. -/
def fillOf (c : Collation) (s : State) : FillResult :=
  fillCheck s.caliper.allowance s.caliper.limit c.folded (markedBefore c s) (insertActions c.job s)

theorem markedBefore_iff {c : Collation} {s : State} :
    markedBefore c s = true ↔ c.faults ≠ [] ∨ MandatoryWithheld c.job s := by
  rw [markedBefore, Bool.or_eq_true, any_withheldMandatory_iff]
  simp

theorem fillOf_of_marked {c : Collation} {s : State} (h : markedBefore c s = true) :
    fillOf c s =
      { plan := emptyPlan (insertActions c.job s)
        dropped := []
        caliper := min 65535 (foldedCaliper c + s.caliper.allowance)
        overstuff := false } := by
  rw [fillOf, h]; rfl

theorem buildPiece_diverted (c : Collation) (s : State) :
    (buildPiece c s).diverted = (markedBefore c s || (fillOf c s).overstuff) := rfl

theorem buildPiece_faults (c : Collation) (s : State) :
    (buildPiece c s).faults =
      let held :=
        if (insertActions c.job s).any (withheldMandatory c.job) then addOnce .insertWithheld c.faults else c.faults
      if (fillOf c s).overstuff then addOnce .overstuff held else held := rfl

theorem mem_buildPiece_faults {c : Collation} {s : State} {f : FaultName} :
    f ∈ (buildPiece c s).faults ↔
      f ∈ c.faults ∨ (f = .insertWithheld ∧ MandatoryWithheld c.job s) ∨
        (f = .overstuff ∧ (fillOf c s).overstuff = true) := by
  rw [buildPiece_faults, ← any_withheldMandatory_iff]
  cases (insertActions c.job s).any (withheldMandatory c.job) <;> cases (fillOf c s).overstuff <;>
    simp [mem_addOnce, or_assoc]

theorem buildPiece_diverted_iff {c : Collation} {s : State} :
    (buildPiece c s).diverted = true ↔
      c.faults ≠ [] ∨ MandatoryWithheld c.job s ∨ .overstuff ∈ (buildPiece c s).faults := by
  rw [buildPiece_diverted, Bool.or_eq_true, markedBefore_iff, mem_buildPiece_faults, or_assoc]
  by_cases h : c.faults = []
  · simp [h]
  · simp [h]

theorem mem_buildPiece_withheld {c : Collation} {s : State} {i : Nat} :
    i ∈ (buildPiece c s).withheld ↔ ∃ e k, stationAt i s = some e ∧ e.kind = .insert ∧
      c.job.selectionFor i = some (.optional k) ∧ (e.effectiveMode = .skip ∨ e.effectiveMode = .off) := by
  change i ∈ ((insertActions c.job s).filter (withheldOptional c.job)).map (·.1) ↔ _
  simp only [List.mem_map, List.mem_filter, withheldOptional_iff]
  constructor
  · rintro ⟨⟨j, e, x⟩, ⟨hmem, ⟨k, hk⟩, hx⟩, rfl⟩
    obtain ⟨he, hkind, hact⟩ := mem_insertActions.mp hmem
    exact ⟨e, k, he, hkind, hk, (actionFor_optional_eq_noFeed hk).mp (hact.symm.trans hx)⟩
  · rintro ⟨e, k, he, hkind, hk, hmode⟩
    exact ⟨(i, e, actionFor c.job i e), ⟨mem_insertActions.mpr ⟨he, hkind, rfl⟩, ⟨k, hk⟩,
      (actionFor_optional_eq_noFeed hk).mpr hmode⟩, rfl⟩

theorem buildPiece_of_marked {c : Collation} {s : State} (h : c.faults ≠ [] ∨ MandatoryWithheld c.job s) :
    (∀ i, (buildPiece c s).planFor i = .none) ∧ (buildPiece c s).dropped = [] ∧
      (buildPiece c s).caliper = min 65535 (foldedCaliper c + s.caliper.allowance) := by
  have hfill := fillOf_of_marked (markedBefore_iff.mpr h)
  have hplan : (buildPiece c s).plan = (fillOf c s).plan := rfl
  have hdropped : (buildPiece c s).dropped = (fillOf c s).dropped := rfl
  have hcaliper : (buildPiece c s).caliper = (fillOf c s).caliper := rfl
  rw [hfill] at hplan hdropped hcaliper
  exact ⟨Piece.planFor_emptyPlan hplan, hdropped, hcaliper⟩

theorem buildPiece_saturated_iff {c : Collation} {s : State} :
    (buildPiece c s).saturated = true ↔ (∃ x ∈ c.sheets, x.saturated = true) ∨ 65535 < (c.sheets.map (·.reading)).sum ∨
      65535 < c.job.panels * min 65535 (c.sheets.map (·.reading)).sum := by
  change c.pieceSaturated = true ↔ _
  rw [Collation.pieceSaturated, Bool.or_eq_true, Bool.or_eq_true, decide_eq_true_eq, decide_eq_true_eq, List.any_eq_true,
    or_assoc]
  exact Iff.rfl

/-! ### What a commit writes (R63, R66, R101, R107) -/

/-- The state before the match of a committed piece is counted. -/
def pieceStood (p : Piece) (s : State) : State :=
  s.setTrack { s.track with slots := s.track.slots.set 0 (some p), nextSerial := (s.track.nextSerial + 1) % 65536 }

theorem commit_eq (c : Collation) (s : State) :
    commit c s = raiseMatchCounts (buildPiece c s).scheme (pieceStood (buildPiece c s) s) := rfl

theorem commit_track (c : Collation) (s : State) : (commit c s).track = { s.track with
    slots := s.track.slots.set 0 (some (buildPiece c s)), nextSerial := (s.track.nextSerial + 1) % 65536 } := by
  rw [commit_eq, raiseMatchCounts_slots]; rfl

theorem pieceStood_keeps (p : Piece) (s : State) : KeepsAllBut [.slots, .nextSerial] s (pieceStood p s) := by
  intro q hq
  cases q <;> first | rfl | exact absurd (by decide) hq

theorem commit_keeps' (c : Collation) (s : State) :
    KeepsAllBut [.slots, .nextSerial, .pageUse, .groups] s (commit c s) :=
  commit_keeps (by decide) (.start _ s) c

theorem pieceAt_zero_commit (c : Collation) {s : State} (h : s.track.slots ≠ []) :
    pieceAt 0 (commit c s) = some (buildPiece c s) := by
  have hpos := List.length_pos_iff.mpr h
  simp [pieceAt, commit_track, hpos]

theorem pieceAt_commit_of_pos (c : Collation) (s : State) {n : Nat} (h : 0 < n) :
    pieceAt n (commit c s) = pieceAt n s := by
  simp [pieceAt, commit_track, List.getElem?_set_ne (Nat.ne_of_lt h)]

theorem pageUseAt_commit (c : Collation) (s : State) {k : Nat} (h : k < 32) :
    pageUseAt k (commit c s) =
      pageUseAt k s + if (buildPiece c s).scheme.entry.map (· / 16) = some k then 1 else 0 := by
  rw [commit_eq, pageUseAt_raiseMatchCounts _ 0 h, pageUseAt_of_keeps (pieceStood_keeps _ s) (by decide)]
  simp only [onPage, beq_iff_eq]
  rfl

theorem groupAt_raiseMatchCounts (m : SchemeMatch) {g : Nat} (h : g < 16) (s : State) :
    groupAt g (raiseMatchCounts m s) =
      { groupAt g s with refs := (groupAt g s).refs + if m.group = g then 1 else 0 } := by
  refine groupAt_eq_of_alike (raiseMatchCounts_alike m s) ?_
  rw [refs_raiseMatchCounts m 0 h]
  simp only [onGroup, beq_iff_eq]

theorem groupAt_commit (c : Collation) (s : State) {g : Nat} (h : g < 16) :
    groupAt g (commit c s) =
      { groupAt g s with refs := (groupAt g s).refs + if (buildPiece c s).scheme.group = g then 1 else 0 } := by
  rw [commit_eq, groupAt_raiseMatchCounts _ h, groupAt_of_keeps (pieceStood_keeps _ s) (by decide)]

/-- Settles O36: the effective mode by its two parts; the piece by the fields of `buildPiece`, its marks through the INSERT
stations' actions; the counts by `raiseMatchCounts`. -/
theorem commitBuildsThePiece : Obligations.CommitBuildsThePiece := by
  refine ⟨fun e => ⟨e.effectiveMode_eq_off, e.effectiveMode_eq_skip, e.effectiveMode_eq_force⟩, fun c s hs => ?_⟩
  refine ⟨buildPiece c s, pieceAt_zero_commit c hs, rfl, rfl, rfl, rfl, rfl, rfl, rfl, rfl, rfl,
    buildPiece_diverted_iff, ?_, fun f hw ho => ?_, fun i => mem_buildPiece_withheld, buildPiece_of_marked,
    buildPiece_saturated_iff, by rw [commit_track], fun k => pageUseAt_commit c s, fun g => groupAt_commit c s,
    fun n => pieceAt_commit_of_pos c s, commit_keeps' c s⟩
  · rw [mem_buildPiece_faults]; simp
  · rw [mem_buildPiece_faults]; simp [hw, ho]

end Sys2Proof.Machine
end


section
/-! What the rest of an advance queues after its PITCH, and what it keeps of the pieces (04, 07, R65, R67, R112, R119, R126):
every step appends to the own-frame queue, and no arrival changes a piece's serial or record. -/

namespace Sys2Proof.Machine

/-- The kind codes of the frames that an advance may queue after its PITCH. -/
abbrev advanceFrames : List Nat := [9, 18, 19, 21, 23, 25, 29, 32]

/-- The serial and the record of a piece. -/
def Piece.record (p : Piece) : Nat × JobRecord := (p.serial, p.job)

/-- The serials and records on the track, slot by slot. -/
def recordsOnTrack (s : State) : List (Option (Nat × JobRecord)) := s.track.slots.map (·.map Piece.record)

/-- The pieces keep their slots, serials and records, and the own-frame queue only grew. -/
structure Carries (s t : State) : Prop where
  records : recordsOnTrack t = recordsOnTrack s
  queues : Queues advanceFrames s t

section
variable {s t u : State} {p q : Piece} {n i : Nat} {e : StationEntry}

theorem record_pieceAt (h : recordsOnTrack t = recordsOnTrack s) (n : Nat) :
    (pieceAt n t).map Piece.record = (pieceAt n s).map Piece.record := by
  have hget := congrArg (fun l => (l[n]?).join) h
  simp only [recordsOnTrack, List.getElem?_map] at hget
  unfold pieceAt
  cases ht : t.track.slots[n]? <;> cases hs : s.track.slots[n]? <;> simp_all

theorem length_of_records (h : recordsOnTrack t = recordsOnTrack s) : t.track.slots.length = s.track.slots.length := by
  simpa [recordsOnTrack] using congrArg List.length h

theorem Carries.trans (h : Carries s t) (h' : Carries t u) : Carries s u :=
  ⟨h'.records.trans h.records, h.queues.trans h'.queues⟩

theorem Carries.refl (s : State) : Carries s s := ⟨rfl, .of_eq rfl⟩

theorem Carries.of_queues {kinds : List Nat} (hslots : t.track.slots = s.track.slots) (h : Queues kinds s t)
    (hk : kinds ⊆ advanceFrames) : Carries s t :=
  ⟨by rw [recordsOnTrack, hslots, recordsOnTrack], h.mono hk⟩

theorem Carries.fold {α : Type} {f : State → α → State} (hf : ∀ t a, Carries t (f t a)) :
    ∀ (xs : List α) (s : State), Carries s (xs.foldl f s)
  | [], s => .refl s
  | x :: xs, s => (hf s x).trans (Carries.fold hf xs (f s x))

/-! ### Pieces changed in their slots -/

theorem carries_putSlot (hp : pieceAt n s = some p) (hq : q.record = p.record) : Carries s (putSlot n (some q) s) := by
  refine ⟨?_, .of_eq rfl⟩
  obtain ⟨hlt, hget⟩ := List.getElem?_eq_some_iff.mp (pieceAt_eq_some.mp hp)
  have hset : (putSlot n (some q) s).track.slots = s.track.slots.set n (some q) := rfl
  rw [recordsOnTrack, hset, List.map_set, Option.map_some, hq]
  refine (congrArg _ ?_).trans (List.set_getElem_self (i := n) (by simpa using hlt))
  simp [hget]

theorem carries_updatePiece (n : Nat) {f : Piece → Piece} (hf : ∀ p, (f p).record = p.record) (s : State) :
    Carries s (updatePiece n f s) := by
  unfold updatePiece
  split
  next hp => exact carries_putSlot hp (hf _)
  · exact .refl s

@[simp] theorem Piece.record_addFault (f : FaultName) : (p.addFault f).record = p.record := rfl

@[simp] theorem Piece.record_subCaliper (k : Nat) : (p.subCaliper k).record = p.record := rfl

@[simp] theorem Piece.record_addCaliper (k : Nat) : (p.addCaliper k).record = p.record := rfl

@[simp] theorem Piece.record_openWindow (w : Window) : (p.openWindow w).record = p.record := rfl

@[simp] theorem Piece.record_closeWindow (k : Nat) : (p.closeWindow k).record = p.record := rfl

@[simp] theorem Piece.record_failedRead : p.failedRead.record = p.record := by
  unfold Piece.failedRead
  split <;> rfl

@[simp] theorem Piece.record_takeFeed (k cal : Nat) (o : FeedOutcome) : (takeFeed k cal o p).record = p.record := by
  unfold takeFeed
  split
  · next kind _ => cases o <;> cases kind <;> rfl
  · rfl

@[simp] theorem Piece.record_unanswered (w : Window) : (p.unanswered w).record = p.record := by
  unfold Piece.unanswered
  split
  · rfl
  · rfl
  · rfl
  · exact p.record_failedRead

@[simp] theorem Piece.record_expireWhere (test : Window → Bool) : (p.expireWhere test).record = p.record := by
  suffices h : ∀ (l : List Window) (q : Piece), (l.foldl (fun p w => p.unanswered w) q).record = q.record from h _ _
  intro l
  induction l with
  | nil => exact fun q => rfl
  | cons w l ih => exact fun q => (ih _).trans (q.record_unanswered w)

/-! ### A command that is sent or dropped (R81, R88 to R91, R94) -/

theorem markAbsent_queues (i : Nat) (e : StationEntry) (s : State) : Queues [9] s (markAbsent i e s) := by
  unfold markAbsent
  split
  · exact .of_eq rfl
  · exact Queues.trans (.of_eq rfl) (raiseAlert_queues _ _)

theorem carries_markAbsent (i : Nat) (e : StationEntry) (s : State) : Carries s (markAbsent i e s) :=
  .of_queues (markAbsent_keeps (l := frameParts) (by decide) (.start _ s) i e .slots (by decide)) (markAbsent_queues i e s)
    (by decide)

theorem carries_pushOwn (dst : Node) (body : OwnBody) (hk : body.kindCode ∈ advanceFrames) (s : State) :
    Carries s (pushOwn dst body s) :=
  .of_queues rfl (pushOwn_queues dst body s) (by simpa using hk)

theorem carries_feedOutcomeAt (i cal tag : Nat) (o : FeedOutcome) (s : State) : Carries s (feedOutcomeAt i cal tag o s) := by
  unfold feedOutcomeAt
  split
  · exact carries_updatePiece _ (fun p => p.record_takeFeed ..) s
  · exact .refl s

theorem carries_envelopeFaultAt (i tag : Nat) (s : State) : Carries s (envelopeFaultAt i tag s) := by
  unfold envelopeFaultAt
  split
  · exact carries_updatePiece _ (fun p => by simp) s
  · exact .refl s

theorem carries_failedReadAt (i tag : Nat) (s : State) : Carries s (failedReadAt i tag s) := by
  unfold failedReadAt
  split
  · exact carries_updatePiece _ (fun p => by simp) s
  · exact .refl s

theorem carries_feedUntaken (dst : Node) (tag : Nat) (s : State) : Carries s (feedUntaken dst tag s) := by
  unfold feedUntaken
  split
  · next i e _ => exact (carries_markAbsent i e s).trans (carries_feedOutcomeAt ..)
  · exact .refl s

theorem carries_envUntaken (dst : Node) (tag : Nat) (s : State) : Carries s (envUntaken dst tag s) := by
  unfold envUntaken
  split
  · next i e _ => exact (carries_markAbsent i e s).trans (carries_envelopeFaultAt ..)
  · exact .refl s

theorem carries_armUntaken (dst : Node) (tag : Nat) (s : State) : Carries s (armUntaken dst tag s) := by
  unfold armUntaken
  split
  · next i e _ => exact (carries_markAbsent i e s).trans (carries_failedReadAt ..)
  · exact .refl s

/-! ### Arrivals (R67, R81, R82, R89, R91) -/

theorem carries_sendFeed (i : Nat) (e : StationEntry) (k : FeedKind) (hp : pieceAt n s = some p) (hq : q.record = p.record) :
    Carries s (sendFeed i n e q k s) := by
  unfold sendFeed
  dsimp only
  refine (carries_putSlot (q := q.openWindow (e.windowOf i (.feed k))) hp (by simp [hq])).trans ?_
  split
  · exact carries_feedUntaken ..
  · exact carries_pushOwn _ _ (by simp [OwnBody.kindCode]) _

theorem carries_insertArrival (i : Nat) (e : StationEntry) (hp : pieceAt n s = some p) :
    Carries s (insertArrival i n e p s) := by
  unfold insertArrival
  split
  · exact carries_sendFeed _ _ _ hp rfl
  · exact carries_putSlot hp rfl
  · exact carries_sendFeed _ _ _ hp rfl
  · exact carries_putSlot hp rfl
  · exact carries_sendFeed _ _ _ hp rfl
  · exact carries_putSlot hp rfl
  · split
    · exact .refl s
    · unfold forcedAtArrival
      split
      · exact carries_sendFeed _ _ _ hp (p.record_addCaliper _)
      · exact carries_putSlot hp rfl
  · exact .refl s

theorem carries_envelopeArrival (i : Nat) (e : StationEntry) (hp : pieceAt n s = some p) :
    Carries s (envelopeArrival i n e p s) := by
  unfold envelopeArrival
  dsimp only
  split
  · refine (carries_putSlot (q := p.openWindow (e.windowOf i .envelope)) hp rfl).trans ?_
    split
    · exact carries_envUntaken ..
    · exact carries_pushOwn _ _ (by simp [OwnBody.kindCode]) _
  · exact carries_putSlot hp rfl

theorem carries_scanArrival (i : Nat) (e : StationEntry) (hp : pieceAt n s = some p) :
    Carries s (scanArrival i n e p s) := by
  unfold scanArrival
  dsimp only
  split
  · refine (carries_putSlot (q := p.openWindow (e.windowOf i .scan)) hp rfl).trans ?_
    split
    · exact carries_armUntaken ..
    · exact carries_pushOwn _ _ (by simp [OwnBody.kindCode]) _
  · exact carries_putSlot hp p.record_failedRead

theorem carries_arriveAt (n i : Nat) (s : State) : Carries s (arriveAt n i s) := by
  cases hp : pieceAt n s with
  | none => rw [arriveAt, hp]; exact .refl s
  | some p =>
    cases he : stationAt i s with
    | none => rw [arriveAt, hp, he]; exact .refl s
    | some e =>
      rw [arriveAt_eq hp he]
      split
      · exact .refl s
      · split
        · exact carries_insertArrival i e hp
        · exact carries_envelopeArrival i e hp
        · exact carries_scanArrival i e hp
        · exact .refl s

theorem carries_arrivals (s : State) : Carries s (arrivals s) := by
  refine Carries.fold (fun t n => ?_) _ s
  unfold slotArrivals
  split
  · exact Carries.fold (fun t i => carries_arriveAt n i t) _ t
  · exact .refl t

end

/-! ### The exit and the flights (R112, R119, R120, R126) -/

section
variable {s : State}

theorem disposePiece_queues (d : Disposition) (cls : Option CaliperClass) (p : Piece) (s : State) :
    Queues [19, 9] s (disposePiece d cls p s) := dispose_queues ..

theorem divertUntaken_queues (dst : Node) (serial : Nat) (s : State) : Queues [19, 9] s (divertUntaken dst serial s) :=
  ((nodeAbsent_queues dst s).mono (by decide)).trans (((raiseAlert_queues _ _).mono (by decide)).trans (requestStop_queues ..))

theorem divertPiece_queues (d : Disposition) (cls : Option CaliperClass) (p : Piece) (s : State) :
    Queues advanceFrames s (divertPiece d cls p s) := by
  have disposed : ∀ t, Queues [19, 9] t (drainCheck (disposePiece d cls p t)) :=
    fun t => (disposePiece_queues d cls p t).trans (drainCheck_queues _)
  unfold divertPiece
  dsimp only
  split
  · split
    · exact ((disposed s).trans (divertUntaken_queues ..)).mono (by decide)
    · refine Queues.trans (.of_eq rfl) (((pushOwn_queues _ _ (noteDivert p.serial s)).mono ?_).trans
        ((disposed _).mono (by decide)))
      simp [OwnBody.kindCode]
  · exact (disposed s).mono (by decide)

theorem closeIfOff_queues (b : Nat) (s : State) : Queues [19, 9] s (closeIfOff b s) := by
  unfold closeIfOff
  split
  · exact closeBundle_queues b .binOff s (by simp)
  · exact .of_eq rfl

theorem putBin_queues (b : Nat) (x : Bin) (s : State) : Queues [] s (putBin b x s) := .of_eq rfl

theorem loseFlight_queues (b : Nat) (f : Flight) (s : State) : Queues [19, 9] s (loseFlight b f s) :=
  ((putBin_queues b _ s).mono (by simp)).trans (dispose_queues ..)

theorem giveUp_queues (b tag : Nat) (s : State) : Queues [19, 9] s (giveUp b tag s) := by
  have off : Queues [19, 9] s (putBin b { binAt b s with state := .off } s) := (putBin_queues b _ s).mono (by simp)
  unfold giveUp
  extract_lets v
  split
  · next f _ => exact off.trans (loseFlight_queues b f _)
  · exact off

theorem selectUntaken_queues (b tag : Nat) (s : State) : Queues [19, 9] s (selectUntaken b tag s) := by
  rw [selectUntaken_eq]
  exact (giveUp_queues b tag s).trans (((raiseAlert_queues _ _).mono (by decide)).trans
    ((closeIfOff_queues b _).trans (drainCheck_queues _)))

theorem selectInto_queues (b : Nat) (f : Flight) (s : State) : Queues advanceFrames s (selectInto b f s) := by
  have selected : Queues advanceFrames s (putBin b ((binAt b s).select f) s) := (putBin_queues b _ s).mono (by simp)
  unfold selectInto
  extract_lets v
  split
  · split
    · exact selected.trans ((selectUntaken_queues b f.tag _).mono (by decide))
    · exact selected.trans ((pushOwn_queues _ (.binSelect f.tag) _).mono (by simp [OwnBody.kindCode]))
  · exact selected

theorem exitPiece_queues (p : Piece) (s : State) : Queues advanceFrames s (exitPiece p s) := by
  unfold exitPiece selectBin
  dsimp only
  split
  · exact divertPiece_queues ..
  · split
    · exact selectInto_queues ..
    · split
      · exact selectInto_queues ..
      · exact (divertPiece_queues ..).trans ((raiseAlert_queues _ _).mono (by decide))

theorem timeoutFlight_queues (b : Nat) (f : Flight) (s : State) : Queues [19, 9] s (timeoutFlight b f s) :=
  (loseFlight_queues b f s).trans (((raiseAlert_queues _ _).mono (by decide)).trans
    ((requestStop_queues ..).trans ((closeIfOff_queues b _).trans (drainCheck_queues _))))

theorem carries_sorterTimeouts (s : State) : Carries s (sorterTimeouts s) := by
  refine Carries.fold (fun t b => Carries.fold (fun u f => ?_) _ t) _ s
  exact .of_queues (timeoutFlight_keeps (l := endParts) (List.Subset.refl _) (.start _ u) b f .slots (by decide))
    (timeoutFlight_queues b f u) (by decide)

end

end Sys2Proof.Machine
end


section
/-! The pitch advance (02, 04, R36, R38, R60, R62, R63, R65, R67, R68, R73): what each of its six steps does, and what the whole
makes of the track and the pockets. -/

namespace Sys2Proof.Machine

section
variable {s v : State} {c : Collation} {n : Nat} {p : Piece}

/-! ### The mark (R60, R62) -/

/-- The track after the mark: NB and the pitch number raised, EP and NB lowered above the boundary of R60. -/
def trackMarked (s : State) : TrackUnit :=
  { s.track with
    pitch := (s.track.pitch + 1) % 256
    boundary :=
      if 1073741824 < s.track.boundary + s.track.pulses then s.track.pulses else s.track.boundary + s.track.pulses
    position :=
      if 1073741824 < s.track.boundary + s.track.pulses then s.track.position - s.track.boundary else s.track.position }

theorem markPitch_sends (s : State) :
    markPitch s = sendPlain 63 (.pitch ((s.track.pitch + 1) % 256)) (s.setTrack (trackMarked s)) := by
  unfold markPitch trackMarked lowerAbove
  by_cases h : 1073741824 < s.track.boundary + s.track.pulses
  · simp only [if_pos h, Int.add_sub_cancel]
  · simp only [if_neg h]

theorem markPitch_eq (s : State) : markPitch s = { s with
    ring :=
      if s.ring.own.length < 32 then
        { s.ring with own := s.ring.own ++ [⟨63, .pitch ((s.track.pitch + 1) % 256)⟩] }
      else s.ring
    track := trackMarked s } := by
  rw [markPitch_sends, sendPlain]
  by_cases h : s.ring.own.length < 32
  · rw [if_neg (by rw [ownFull_iff]; exact Nat.not_le.mpr h), if_pos h]; rfl
  · rw [if_pos (by rw [ownFull_iff]; exact Nat.not_lt.mp h), if_neg h]; rfl

/-! ### The exit (R68) -/

theorem Piece.scheme_leaveWindows (p : Piece) : p.leaveWindows.scheme = p.scheme := congrArg Prod.snd p.mark_leaveWindows

theorem exitSlot_of_none (h : pieceAt (s.track.slots.length - 1) s = none) : exitSlot s = s := by
  simp only [exitSlot, h]

theorem exitSlot_of_some (h : pieceAt (s.track.slots.length - 1) s = some p) :
    exitSlot s = exitPiece p.leaveWindows (slotEmptied (s.track.slots.length - 1) p s) := by
  simp only [exitSlot, h, p.scheme_leaveWindows, slotEmptied]

theorem slotEmptied_keeps (n : Nat) (p : Piece) (s : State) :
    KeepsAllBut [.slots, .pageUse, .groups] s (slotEmptied n p s) :=
  lowerMatchCounts_keeps (by decide) (putSlot_keeps (by decide) (.start _ s) n none) p.scheme

theorem putSlot_keeps' (n : Nat) (x : Option Piece) (s : State) : KeepsAllBut [.slots] s (putSlot n x s) :=
  putSlot_keeps (by decide) (.start _ s) n x

theorem pieceAt_slotEmptied (h : pieceAt n s = some p) (k : Nat) :
    pieceAt k (slotEmptied n p s) = if k = n then none else pieceAt k s := by
  have hn := (List.getElem?_eq_some_iff.mp (pieceAt_eq_some.mp h)).1
  rw [slotEmptied, pieceAt_of_keeps (lowerMatchCounts_keeps' _ _) (by decide), pieceAt_putSlot _ _ _ _ hn]

theorem pageUseAt_slotEmptied (n : Nat) (p : Piece) (s : State) {k : Nat} (h : k < 32) :
    pageUseAt k (slotEmptied n p s) =
      pageUseAt k s - if p.scheme.entry.map (· / 16) = some k then 1 else 0 := by
  rw [slotEmptied, pageUseAt_lowerMatchCounts _ 0 h, pageUseAt_of_keeps (putSlot_keeps' n none s) (by decide)]
  simp only [onPage, beq_iff_eq]
  rfl

theorem groupAt_slotEmptied (n : Nat) (p : Piece) (s : State) {g : Nat} (h : g < 16) :
    groupAt g (slotEmptied n p s) =
      { groupAt g s with refs := (groupAt g s).refs - if p.scheme.group = g then 1 else 0 } := by
  have hput : groupAt g (putSlot n none s) = groupAt g s := groupAt_of_keeps (putSlot_keeps' n none s) (by decide) g
  rw [← hput]
  refine groupAt_eq_of_alike (lowerMatchCounts_alike p.scheme _) ?_
  rw [slotEmptied, refs_lowerMatchCounts _ 0 h]
  simp only [onGroup, beq_iff_eq]

theorem exitSlot_keeps' (s : State) : KeepsAllBut (endParts ++ [.slots, .divertSerials, .pageUse, .groups]) s (exitSlot s) :=
  exitSlot_keeps (by decide) (.start _ s)

theorem exitSlot_queues (s : State) : Queues advanceFrames s (exitSlot s) := by
  cases h : pieceAt (s.track.slots.length - 1) s with
  | none => rw [exitSlot_of_none h]; exact .of_eq rfl
  | some p =>
    rw [exitSlot_of_some h]
    exact Queues.trans (.of_eq (slotEmptied_keeps _ p s .own (by decide))) (exitPiece_queues ..)

theorem pieceAt_exitSlot_of_lt (h : n + 1 < s.track.slots.length) : pieceAt n (exitSlot s) = pieceAt n s := by
  rw [pieceAt, slots_exitSlot, List.getElem?_set_ne (by omega), pieceAt]

/-! ### The move (R65) -/

theorem moveSlots_keeps' (s : State) : KeepsAllBut [.slots] s (moveSlots s) := moveSlots_keeps (by decide) (.start _ s)

theorem length_moveSlots (h : s.track.slots ≠ []) : (moveSlots s).track.slots.length = s.track.slots.length :=
  length_movedSlots h

theorem pieceAt_zero_moveSlots (s : State) : pieceAt 0 (moveSlots s) = none := by
  have hslots : (moveSlots s).track.slots = movedSlots s.track.slots := rfl
  rw [pieceAt, hslots, movedSlots_head]; rfl

theorem pieceAt_moveSlots (h0 : 0 < n) (hn : n < s.track.slots.length) :
    pieceAt n (moveSlots s) = (pieceAt (n - 1) s).map (·.passWindows n) := by
  obtain ⟨m, rfl⟩ := Nat.exists_eq_succ_of_ne_zero h0.ne'
  have hslots : (moveSlots s).track.slots = movedSlots s.track.slots := rfl
  have hget : s.track.slots.dropLast[m]? = s.track.slots[m]? := by
    rw [List.getElem?_dropLast, if_pos (by omega)]
  rw [pieceAt, hslots, movedSlots, List.getElem?_mapIdx, List.getElem?_cons_succ, hget, pieceAt, Nat.succ_sub_one]
  cases s.track.slots[m]? <;> rfl

/-! ### The release (R36, R38) -/

/-- The pockets after a release: the staging pocket took a COMPLETE collation, or is EMPTY. -/
def pocketsReleased (u : CollationUnit) : CollationUnit :=
  match u.collecting with
  | .complete d => { u with collecting := .empty, staging := some d }
  | _ => { u with staging := none }

theorem pocketsReleased_of_complete {u : CollationUnit} {d : Collation} (h : u.collecting = .complete d) :
    pocketsReleased u = { u with collecting := .empty, staging := some d } := by
  unfold pocketsReleased
  rw [h]

theorem pocketsReleased_of_open {u : CollationUnit} (h : ∀ d, u.collecting ≠ .complete d) :
    pocketsReleased u = { u with staging := none } := by
  unfold pocketsReleased
  split
  · next d hd => exact absurd hd (h d)
  · rfl

theorem moveToStaging_of_complete {d : Collation} (h : v.collation.collecting = .complete d)
    (hs : v.collation.staging = none) : moveToStaging v = setCollecting .empty (setStaging (some d) v) := by
  unfold moveToStaging
  rw [h, hs]

theorem moveToStaging_of_open (h : ∀ d, v.collation.collecting ≠ .complete d) : moveToStaging v = v := by
  unfold moveToStaging
  split
  · next d hd _ => exact absurd hd (h d)
  · rfl

theorem moveToStaging_released (h : v.collation = { s.collation with staging := none }) :
    moveToStaging v = { v with collation := pocketsReleased s.collation } := by
  have hstaging : v.collation.staging = none := by rw [h]
  have hcollecting : v.collation.collecting = s.collation.collecting := by rw [h]
  by_cases hc : ∃ d, s.collation.collecting = .complete d
  · obtain ⟨d, hd⟩ := hc
    rw [moveToStaging_of_complete (hcollecting.trans hd) hstaging, pocketsReleased_of_complete hd, setCollecting, setStaging, h]
    rfl
  · have hopen : ∀ d, s.collation.collecting ≠ .complete d := fun d hd => hc ⟨d, hd⟩
    rw [moveToStaging_of_open (by rwa [hcollecting]), pocketsReleased_of_open hopen]
    exact congrArg (fun u => { v with collation := u }) h

/-- The staging collation committed, before FOLD_SET and the pockets. -/
def stagingCommitted (c : Collation) (s : State) : State := commit c (setStaging none s)

theorem releaseStaging_of_none (h : s.collation.staging = none) : releaseStaging s = s := by
  simp only [releaseStaging, h]

theorem stagingCommitted_keeps (c : Collation) (s : State) :
    KeepsAllBut [.staging, .slots, .nextSerial, .pageUse, .groups] s (stagingCommitted c s) :=
  commit_keeps (by decide) (setStaging_keeps (by decide) (.start _ s) none) c

theorem sendFold_keeps' (panels : Nat) (s : State) : KeepsAllBut frameParts s (sendFold panels s) :=
  sendFold_keeps (List.Subset.refl _) (.start _ s) panels

theorem stagingCommitted_collation (c : Collation) (s : State) :
    (stagingCommitted c s).collation = { s.collation with staging := none } :=
  collation_of_keeps (commit_keeps' c (setStaging none s)) (by decide)

theorem releaseStaging_of_some (h : s.collation.staging = some c) :
    releaseStaging s =
      { sendFold c.job.panels (stagingCommitted c s) with collation := pocketsReleased s.collation } := by
  have hfold : (sendFold c.job.panels (stagingCommitted c s)).collation = { s.collation with staging := none } :=
    (collation_of_keeps (sendFold_keeps' c.job.panels (stagingCommitted c s)) (by decide)).trans (stagingCommitted_collation c s)
  rw [← moveToStaging_released hfold]
  simp only [releaseStaging, h]
  rfl

theorem sendFold_of_none {panels : Nat} (h : stationOfKind .folder s = none) : sendFold panels s = s := by
  simp only [sendFold, h]

theorem sendFold_of_some {panels i : Nat} {e : StationEntry} (h : stationOfKind .folder s = some (i, e)) :
    sendFold panels s = sendStation e.dst (.foldSet panels) s := by
  simp only [sendFold, h]

theorem sendFold_queues (panels : Nat) (s : State) : Queues advanceFrames s (sendFold panels s) := by
  cases h : stationOfKind .folder s with
  | none => rw [sendFold_of_none h]; exact .of_eq rfl
  | some x =>
    rw [sendFold_of_some h]
    exact (sendStation_queues ..).mono (by simp [OwnBody.kindCode])

theorem releaseStaging_queues (s : State) : Queues advanceFrames s (releaseStaging s) := by
  cases h : s.collation.staging with
  | none => rw [releaseStaging_of_none h]; exact .of_eq rfl
  | some c =>
    rw [releaseStaging_of_some h]
    exact Queues.trans (.of_eq (stagingCommitted_keeps c s .own (by decide)))
      ((sendFold_queues c.job.panels (stagingCommitted c s)).trans (.of_eq rfl))

theorem releaseStaging_slots (h : s.collation.staging = some c) :
    (releaseStaging s).track.slots = s.track.slots.set 0 (some (buildPiece c (setStaging none s))) := by
  have hfold : (sendFold c.job.panels (stagingCommitted c s)).track.slots = (stagingCommitted c s).track.slots :=
    sendFold_keeps' _ _ .slots (by decide)
  rw [releaseStaging_of_some h]
  refine hfold.trans ?_
  rw [stagingCommitted, commit_track]
  rfl

theorem releaseStaging_nextSerial (h : s.collation.staging = some c) :
    (releaseStaging s).track.nextSerial = (s.track.nextSerial + 1) % 65536 := by
  have hfold : (sendFold c.job.panels (stagingCommitted c s)).track.nextSerial = (stagingCommitted c s).track.nextSerial :=
    sendFold_keeps' _ _ .nextSerial (by decide)
  rw [releaseStaging_of_some h]
  refine hfold.trans ?_
  rw [stagingCommitted, commit_track]
  rfl

/-! ### Arrivals (R67) -/

theorem map_fst_stationsWhere (test : StationEntry → Bool) (s : State) :
    (stationsWhere test s).map (·.1) = (List.range 24).filter fun i => (stationAt i s).any test := by
  rw [stationsWhere, List.map_filterMap, ← List.filterMap_eq_filter]
  refine List.filterMap_congr fun i _ => ?_
  cases hs : stationAt i s with
  | none => simp [Option.guard, hs]
  | some e => cases h : test e <;> simp [Option.guard, hs, h]

/-- The stations of a kind at a slot, in increasing index. -/
def standing (kind : StationKind) (n : Nat) (s : State) : List Nat :=
  (List.range 24).filter fun i => (stationAt i s).any fun e => e.kind == kind && e.offset == n

theorem arrivalOrder_eq (n : Nat) (s : State) :
    arrivalOrder n s = standing .insert n s ++ standing .envelope n s ++ standing .scanOut n s := by
  rw [arrivalOrder, List.map_append, List.map_append, map_fst_stationsWhere, map_fst_stationsWhere, map_fst_stationsWhere]
  rfl

theorem slotArrivals_eq (n : Nat) (s : State) : slotArrivals n s =
    if pieceAt n s = none then s
    else (standing .insert n s ++ standing .envelope n s ++ standing .scanOut n s).foldl (fun t i => arriveAt n i t) s := by
  rw [slotArrivals, arrivalOrder_eq]
  cases h : pieceAt n s <;> simp

end

end Sys2Proof.Machine
end


section
/-! The whole advance (R65): its steps one after the other, from the pulse that brings EP to NB. -/

namespace Sys2Proof.Machine

section
variable {s : State} {c : Collation} {n : Nat}

theorem exec_advance (hs : s.resetHigh = true) (hrun : s.line.state ≠ .idle)
    (hdue : s.track.position + 1 = s.track.boundary) :
    exec .pitchAdvance s = .next (advance (pulsed s)) ∧ exec (.encoderPulse .forward) s = .next (advance (pulsed s)) := by
  have hopen : runOpen s = true := by simpa [runOpen] using hrun
  constructor
  · refine (take_of_high _ hs).trans ?_
    rw [if_pos (advanceDue_iff.mpr ⟨hrun, hdue⟩), forwardPulse_of_due hdue]
  · refine (take_of_high _ hs).trans ?_
    rw [encoderStep, if_pos hopen, forwardPulse_of_due hdue]

/-! ### After the mark -/

/-- The exit and the move of an advance. -/
def piecesMoved (s : State) : State := moveSlots (exitSlot s)

/-- The steps of an advance after the move. -/
def advanceEnded (s : State) : State := sorterTimeouts (arrivals (releaseStaging s))

theorem advance_ended (s : State) : advance s = advanceEnded (piecesMoved (markPitch s)) := rfl

theorem piecesMoved_keeps (s : State) :
    KeepsAllBut (endParts ++ [.slots, .divertSerials, .pageUse, .groups]) s (piecesMoved s) :=
  moveSlots_keeps (by decide) (exitSlot_keeps' s)

theorem advanceEnded_keeps (s : State) :
    KeepsAllBut (endParts ++ [.collecting, .staging, .slots, .nextSerial, .pageUse, .groups]) s (advanceEnded s) :=
  sorterTimeouts_keeps (by decide) (arrivals_keeps (by decide) (releaseStaging_keeps (by decide) (.start _ s)))

theorem arrivedExamined_keeps (s : State) : KeepsAllBut (endParts ++ [.slots]) s (sorterTimeouts (arrivals s)) :=
  sorterTimeouts_keeps (by decide) (arrivals_keeps (by decide) (.start _ s))

theorem carries_arrivedExamined (s : State) : Carries s (sorterTimeouts (arrivals s)) :=
  (carries_arrivals s).trans (carries_sorterTimeouts _)

theorem advanceTail_queues (s : State) : Queues advanceFrames s (advanceEnded (piecesMoved s)) := by
  have hmoved : Queues advanceFrames s (piecesMoved s) := (exitSlot_queues s).trans (.of_eq rfl)
  exact hmoved.trans ((releaseStaging_queues _).trans (carries_arrivedExamined _).queues)

/-! ### The track after the advance -/

theorem slots_ne_nil_exitSlot (h : s.track.slots ≠ []) : (exitSlot s).track.slots ≠ [] := by
  rw [slots_exitSlot, ← List.length_pos_iff, List.length_set]
  exact List.length_pos_iff.mpr h

theorem length_piecesMoved (h : s.track.slots ≠ []) : (piecesMoved s).track.slots.length = s.track.slots.length := by
  rw [piecesMoved, length_moveSlots (slots_ne_nil_exitSlot h), slots_exitSlot, List.length_set]

theorem record_piecesMoved (h0 : 0 < n) (hn : n < s.track.slots.length) :
    (pieceAt n (piecesMoved s)).map Piece.record = (pieceAt (n - 1) s).map Piece.record := by
  have hlen : n < (exitSlot s).track.slots.length := by rwa [slots_exitSlot, List.length_set]
  rw [piecesMoved, pieceAt_moveSlots h0 hlen, pieceAt_exitSlot_of_lt (by omega), Option.map_map]
  refine congrArg (fun f => Option.map f _) (funext fun p => ?_)
  exact p.record_expireWhere _

theorem releaseStaging_slots_cases (s : State) :
    (releaseStaging s).track.slots = s.track.slots ∨ ∃ p, (releaseStaging s).track.slots = s.track.slots.set 0 (some p) := by
  cases h : s.collation.staging with
  | none => exact .inl (by rw [releaseStaging_of_none h])
  | some c => exact .inr ⟨_, releaseStaging_slots h⟩

theorem length_releaseStaging (s : State) : (releaseStaging s).track.slots.length = s.track.slots.length := by
  obtain h | ⟨p, h⟩ := releaseStaging_slots_cases s <;> simp [h]

theorem pieceAt_releaseStaging_of_pos (h : 0 < n) (s : State) : pieceAt n (releaseStaging s) = pieceAt n s := by
  obtain hsame | ⟨p, hset⟩ := releaseStaging_slots_cases s
  · rw [pieceAt, hsame, pieceAt]
  · rw [pieceAt, hset, List.getElem?_set_ne (Nat.ne_of_lt h), pieceAt]

theorem length_advanceEnded (s : State) : (advanceEnded s).track.slots.length = s.track.slots.length := by
  rw [advanceEnded, length_of_records (carries_arrivedExamined _).records, length_releaseStaging]

theorem record_advanceEnded_of_pos (h : 0 < n) (s : State) :
    (pieceAt n (advanceEnded s)).map Piece.record = (pieceAt n s).map Piece.record := by
  rw [advanceEnded, record_pieceAt (carries_arrivedExamined _).records, pieceAt_releaseStaging_of_pos h]

theorem advanceEnded_of_none (h : s.collation.staging = none) (h0 : pieceAt 0 s = none) :
    pieceAt 0 (advanceEnded s) = none ∧ (advanceEnded s).track.nextSerial = s.track.nextSerial ∧
      (advanceEnded s).collation = s.collation := by
  rw [advanceEnded, releaseStaging_of_none h]
  refine ⟨?_, arrivedExamined_keeps s .nextSerial (by decide), collation_of_keeps (arrivedExamined_keeps s) (by decide)⟩
  have hrecord := record_pieceAt (carries_arrivedExamined s).records 0
  rw [h0] at hrecord
  exact Option.map_eq_none_iff.mp hrecord

theorem advanceEnded_of_some (h : s.collation.staging = some c) (hs : s.track.slots ≠ []) :
    (∃ p, pieceAt 0 (advanceEnded s) = some p ∧ p.serial = s.track.nextSerial ∧ p.job = c.job) ∧
      (advanceEnded s).track.nextSerial = (s.track.nextSerial + 1) % 65536 ∧
      (advanceEnded s).collation = pocketsReleased s.collation := by
  rw [advanceEnded]
  refine ⟨?_, (arrivedExamined_keeps (releaseStaging s) .nextSerial (by decide)).trans (releaseStaging_nextSerial h),
    (collation_of_keeps (arrivedExamined_keeps (releaseStaging s)) (by decide)).trans (by rw [releaseStaging_of_some h])⟩
  have hpiece : pieceAt 0 (releaseStaging s) = some (buildPiece c (setStaging none s)) := by
    rw [pieceAt, releaseStaging_slots h, List.getElem?_set_self (List.length_pos_iff.mpr hs)]
    rfl
  have hrecord := record_pieceAt (carries_arrivedExamined (releaseStaging s)).records 0
  rw [hpiece] at hrecord
  obtain ⟨p, hp, hsame⟩ := Option.map_eq_some_iff.mp hrecord
  obtain ⟨hserial, hjob⟩ := Prod.mk.inj hsame
  exact ⟨p, hp, hserial, hjob⟩

/-! ### From the pulse -/

theorem markPitch_own (h : s.ring.own.length < 32) :
    (markPitch s).ring.own = s.ring.own ++ [⟨63, .pitch ((s.track.pitch + 1) % 256)⟩] := by
  rw [markPitch_eq, if_pos h]

theorem markPitch_pulsed_track (s : State) : (markPitch (pulsed s)).track = trackMarked (pulsed s) := by
  rw [markPitch_eq]

theorem marked_collation (s : State) : (markPitch (pulsed s)).collation = s.collation := by
  rw [markPitch_eq]; rfl

theorem pieceAt_marked (n : Nat) (s : State) : pieceAt n (markPitch (pulsed s)) = pieceAt n s := by
  rw [pieceAt, markPitch_pulsed_track]; rfl

theorem advanced_boundary (hdue : s.track.position + 1 = s.track.boundary) :
    (1073741824 < s.track.boundary + s.track.pulses → (trackMarked (pulsed s)).boundary = s.track.pulses ∧
      (trackMarked (pulsed s)).position = 0) ∧
    (s.track.boundary + s.track.pulses ≤ 1073741824 →
      (trackMarked (pulsed s)).boundary = s.track.boundary + s.track.pulses ∧
      (trackMarked (pulsed s)).position = s.track.boundary) := by
  have hposition : (pulsed s).track.position = s.track.boundary := hdue
  have hboundary : (pulsed s).track.boundary = s.track.boundary := rfl
  have hpulses : (pulsed s).track.pulses = s.track.pulses := rfl
  simp only [trackMarked, hposition, hboundary, hpulses]
  constructor
  · intro h
    simp [h]
  · intro h
    simp [not_lt.mpr h]

/-- An advance takes nothing back of what the mark wrote: the pitch number, NB and EP. -/
theorem advance_marked (s : State) : (advance s).track.pitch = (markPitch s).track.pitch ∧
    (advance s).track.boundary = (markPitch s).track.boundary ∧
    (advance s).track.position = (markPitch s).track.position := by
  rw [advance_ended]
  have hmoved := piecesMoved_keeps (markPitch s)
  have hended := advanceEnded_keeps (piecesMoved (markPitch s))
  exact ⟨(hended .pitch (by decide)).trans (hmoved .pitch (by decide)),
    (hended .boundary (by decide)).trans (hmoved .boundary (by decide)),
    (hended .position (by decide)).trans (hmoved .position (by decide))⟩

end

/-- Settles O35: the mark, the exit, the move, the release and the arrivals by their lemmas, and the whole advance from them;
the arrivals and the examination keep the pieces' serials and records and only append to the own-frame queue (`Carries`). -/
theorem pitchAdvanceCarriesPieces : Obligations.PitchAdvanceCarriesPieces := by
  refine ⟨fun s hs hrun hdue hslots => ?_, fun s hs hrun hdue => (exec_advance hs hrun hdue).1, fun s => markPitch_eq s,
    fun s => ⟨exitSlot_of_none, fun p hp => ?_⟩, fun s hs => ?_, fun s => ⟨releaseStaging_of_none, fun c hc => ?_⟩,
    fun s => ⟨rfl, fun n => ?_⟩⟩
  · obtain ⟨hexec, hpulse⟩ := exec_advance hs hrun hdue
    obtain ⟨hpitch, hboundary, hposition⟩ := advance_marked (pulsed s)
    rw [markPitch_pulsed_track] at hpitch hboundary hposition
    have hmarkedSlots : (markPitch (pulsed s)).track.slots = s.track.slots := by rw [markPitch_pulsed_track]; rfl
    have hmoved := piecesMoved_keeps (markPitch (pulsed s))
    have hlen : (piecesMoved (markPitch (pulsed s))).track.slots.length = s.track.slots.length := by
      rw [length_piecesMoved (by rwa [hmarkedSlots]), hmarkedSlots]
    have hcollation : (piecesMoved (markPitch (pulsed s))).collation = s.collation :=
      (collation_of_keeps hmoved (by decide)).trans (marked_collation s)
    have hserial : (piecesMoved (markPitch (pulsed s))).track.nextSerial = s.track.nextSerial :=
      (hmoved .nextSerial (by decide)).trans (by rw [markPitch_pulsed_track]; rfl)
    refine ⟨advance (pulsed s), hexec, hpulse, hpitch, ?_, ?_, fun hroom => ?_, ?_, fun n h0 hn => ?_, fun hstaging => ?_,
      fun c hstaging => ?_, ?_⟩
    · rw [hboundary, hposition]
      exact (advanced_boundary hdue).1
    · rw [hboundary, hposition]
      exact (advanced_boundary hdue).2
    · obtain ⟨more, hmore⟩ := (advanceTail_queues (markPitch (pulsed s))).own_eq
      refine ⟨more, ?_⟩
      have hmark : (markPitch (pulsed s)).ring.own = s.ring.own ++ [⟨63, .pitch ((s.track.pitch + 1) % 256)⟩] :=
        markPitch_own (s := pulsed s) hroom
      rw [advance_ended, hmore, hmark, List.append_assoc]
      rfl
    · rw [advance_ended, length_advanceEnded, hlen]
    · have hrecord := (record_advanceEnded_of_pos h0 (piecesMoved (markPitch (pulsed s)))).trans
        (record_piecesMoved h0 (by rwa [hmarkedSlots]))
      rw [pieceAt_marked] at hrecord
      exact hrecord
    · rw [advance_ended, ← hcollation, ← hserial]
      exact advanceEnded_of_none (by rw [hcollation, hstaging]) (pieceAt_zero_moveSlots _)
    · obtain ⟨hpiece, hnext, hpockets⟩ := advanceEnded_of_some (s := piecesMoved (markPitch (pulsed s)))
        (by rw [hcollation, hstaging]) (by rw [← List.length_pos_iff, hlen]; exact List.length_pos_iff.mpr hslots)
      rw [advance_ended]
      rw [hserial] at hpiece hnext
      rw [hcollation] at hpockets
      exact ⟨hpiece, hnext, fun d hd => hpockets.trans (pocketsReleased_of_complete hd),
        fun hopen => hpockets.trans (pocketsReleased_of_open hopen)⟩
    · rw [← forwardPulse_of_due hdue]
      exact forwardPulse_keeps (by decide) (.start _ s)
  · refine ⟨_, exitSlot_of_some hp, ?_, fun k hk => ?_, fun k hk => pageUseAt_slotEmptied _ p s hk,
      fun g hg => groupAt_slotEmptied _ p s hg, slotEmptied_keeps _ p s⟩
    · rw [pieceAt_slotEmptied hp, if_pos rfl]
    · rw [pieceAt_slotEmptied hp, if_neg hk]
  · exact ⟨length_moveSlots hs, pieceAt_zero_moveSlots s, fun n h0 hn => pieceAt_moveSlots h0 hn, moveSlots_keeps' s⟩
  · have hcommitted := stagingCommitted_keeps c s
    have hfolder : stationOfKind .folder (stagingCommitted c s) = stationOfKind .folder s :=
      stationOfKind_congr (fun i => congrArg (fun v => (v[i]?).getD none) (hcommitted .stations (by decide))) .folder
    have hown : (stagingCommitted c s).ring.own = s.ring.own := hcommitted .own (by decide)
    refine ⟨fun hnone => ?_, fun i e he => ⟨fun hroom => ?_, fun hfull => ?_⟩⟩
    · refine (releaseStaging_of_some hc).trans ?_
      rw [sendFold_of_none (hfolder.trans hnone)]
      rfl
    · refine (releaseStaging_of_some hc).trans ?_
      rw [sendFold_of_some (hfolder.trans he), sendStation_of_room (by rwa [hown])]
      rfl
    · refine (releaseStaging_of_some hc).trans ?_
      rw [sendFold_of_some (hfolder.trans he), sendStation_of_full (by rwa [hown])]
      rfl
  · exact slotArrivals_eq n s

end Sys2Proof.Machine
end
